-- ==== Sys2Proof/Word.lean ====
section
/-! DEFINITION. The byte, and strings of bytes. Every wider field of the part is a `Nat` below the
field's bound, read from and written to strings of bytes by `Machine/Ops.lean`. -/

namespace Sys2Proof

/-- One byte, the part's smallest addressable unit. -/
abbrev Byte := BitVec 8

/-- A string of bytes, the first at the lowest address or first on the wire. -/
abbrev Bytes := List Byte

end Sys2Proof
end

