-- ==== Sys2Proof/Syntax.lean ====
section
/-! DEFINITION. The commands of the block: one constructor of `Instr` for each row of the table of
operations and events, with the operands the event carries, and the types of those operands. -/

namespace Sys2Proof

/-- Where an Onnum frame comes from (R57): a 25G port at layer 2, a 25G port by UDP, the window of a
PCIe function (0 the physical function, p + 1 virtual function p), a TLS connection of the management port. -/
inductive Source where
  | eth (port addr : Nat)
  | udp (port addr : Nat)
  | pcie (fn : Nat)
  | mgmt (conn : Nat)
deriving DecidableEq, Repr

/-- An Onnum frame (R54), its header fields and its payload. `op` is OP[6:0] and `response` OP[7]. `tag` is the tag that follows the
payload of a frame that the part sends in a session; that of a frame that arrives stands in the verdict of its `Request`. -/
structure Frame where
  version : Nat := 1
  op : Nat
  response : Bool := false
  flags : Nat := 0
  typ : Nat := 0
  session : Nat := 0
  seq : Nat := 0
  index : Nat := 0
  sub : Nat := 0
  reserved : Nat := 0
  payload : Bytes := []
  status : Nat := 0
  tag : Bytes := []
deriving DecidableEq, Repr

/-- What ails a frame before its header is read (R58). -/
inductive Defect where
  | none | short | fragment
deriving DecidableEq, Repr

/-- A frame as it arrives. `tagOk` is the security block's verdict on its tag under the key of the
session the frame names (R63); a frame without a tag carries `false`. For a block write the payload
is the whole value that the WRITE_BLOCK and its segments move. -/
structure Request where
  source : Source
  frame : Frame
  tagOk : Bool := false
  defect : Defect := .none
deriving DecidableEq, Repr

/-- A time message (R455 to R465). `stamp` is its ingress stamp (R456) and `egress`, when it crosses to the
other port, the stamp at which it leaves, in units of 2⁻³² ns; `correction` is in units of 2⁻¹⁶ ns and
`origin` the timestamp it carries, in ns. `checksum` is 0 where its UDP checksum is absent or zero, 1 where
it carries the trailing octets of Annex C, 2 where it does not (R465). -/
structure PtpMsg where
  port : Nat
  lengthOk : Bool := true
  version : Nat := 2
  typ : Nat
  domain : Nat := 0
  source : Nat
  sequenceId : Nat
  twoStep : Bool := false
  origin : Nat := 0
  receipt : Nat := 0
  correction : Int := 0
  logInterval : Int := 0
  toUs : Bool := true
  stamp : Nat
  egress : Option Nat := none
  checksum : Nat := 0
deriving DecidableEq, Repr

/-- The data set of an Announce message, as the best master clock algorithm compares it (R455). -/
structure Announce where
  priority1 : Nat
  gmClass : Nat
  accuracy : Nat
  variance : Nat
  priority2 : Nat
  grandmaster : Nat
  steps : Nat
deriving DecidableEq, Repr


/-- A NOTIFY of answer tokens from the Gong server (R35, R76): its SEQ and its bytes. -/
structure TokenNotify where
  seq : Nat := 0
  tokens : Bytes := []
deriving DecidableEq, Repr

/-- A peer-link frame (R343). `reserved` holds the reserved bits of its header, each in its place in the header's 192 bits; `payload` has
64 × LINES bytes. -/
structure PeerFrame where
  typ : Nat := 1
  cls : Nat := 3
  linkSeq : Nat := 0
  lines : Nat := 0
  ackSeq : Nat := 0
  nak : Bool := false
  src : Nat
  dst : Nat
  dstCore : Nat := 0
  pair : Nat := 0
  op : Nat
  last : Bool := false
  signalEn : Bool := false
  dstLine : Nat := 0
  token : Nat := 0
  xferSeq : Nat := 0
  frameIndex : Nat := 0
  detail : Nat := 0
  reserved : Nat := 0
  payload : Bytes := []
deriving DecidableEq, Repr

/-- What the PDM inputs have given since the last command that listened: the bits of the Tchirix input in use, and those of
each array input, oldest first, each 0 or 1 (R389). -/
structure Sound where
  tchirix : List Nat := []
  array : List (List Nat) := []
deriving DecidableEq, Repr

/-- An Ethernet frame that reaches an external port of the bridge (R475, R476): addresses, tag (VID and PCP), length with its
tag, the multicast group address of its packet, and what it carries for the part: 0 Onnum, 1 PTP, 2 AES67, 3 IGMP or MLD,
4 ARP, NDP or ICMP echo, 5 anything else, 6 PAUSE. -/
structure EtherFrame where
  port : Nat
  src : Nat
  dst : Nat
  tag : Option (Nat × Nat) := none
  length : Nat
  group : Option Nat := none
  kind : Nat := 5
  bytes : Bytes := []
deriving DecidableEq, Repr

/-- An RTP packet of a receive stream, with the time in 2⁻³² ns at which it arrives (R479 to R482). -/
structure RtpPacket where
  port : Nat
  dest : Nat
  source : Nat
  udpPort : Nat
  version : Nat := 2
  payloadType : Nat
  seq : Nat
  timestamp : Nat
  ssrc : Nat
  payload : Bytes
  ticks : Nat
deriving DecidableEq, Repr


/-- What a cold start finds (R557, R558, R560 to R563, R603): whether the hottest sensor reads below the minimum of the grade, its
reading in 0.1 °C, the root PLLs, microcontrollers, slots, slices, DRAM lanes (group and lane) and Tchirix inputs that fail their tests, the
firmware banks whose signature or digest fails (image, bank, reason), and whether a copy of the saved settings is valid. -/
structure SelfTest where
  cold : Bool := false
  tj : Int := 0
  plls : List Nat := []
  mcus : List Nat := []
  slots : List Nat := []
  slices : List Nat := []
  lanes : List (Nat × Nat) := []
  mics : List Nat := []
  banks : List (Nat × Nat × Nat) := []
  savedOk : Bool := true
deriving DecidableEq, Repr

/-- What a warm request meets (R555, R559, R560): whether a flash program or erase is in progress, whether a check of the system
region fails, the hottest sensor in 0.1 °C, the DRAM groups whose saved training is discarded, and the array inputs that pass. -/
structure WarmTest where
  programming : Bool := false
  lost : Bool := false
  tj : Int := 0
  drift : List Nat := []
  mics : List Nat := []
deriving DecidableEq, Repr

/-- The commands: one constructor for each row of the table. -/
inductive Instr where
  /-- READ (R56). An Onnum READ request is checked in the order of R79 and answered with the object's value or an abort code. -/
  | read (rq : Request)
  /-- WRITE (R56). An Onnum WRITE request to an object that has no row of its own is checked in the order of R79, its range and state tests are applied, and it is committed or aborted. -/
  | write (rq : Request)
  /-- READ_BLOCK (R73). A READ_BLOCK request snapshots the value from START_OFFSET and starts sending SEGMENT frames with TOTAL_LENGTH and VALUE_CRC. -/
  | readBlock (rq : Request)
  /-- WRITE_BLOCK (R72). A WRITE_BLOCK request opens a block transfer into a holding area and answers with WINDOW and SEGMENT_SIZE. -/
  | writeBlock (rq : Request)
  /-- SEGMENT (R71). A SEGMENT frame is stored at its offset; on the segment with LAST set and no gap, the length and CRC are checked and the value is committed whole or the transfer aborts. -/
  | segment (rq : Request)
  /-- SEGMENT_ACK (R71). A SEGMENT_ACK from the receiver makes the sender resend from NEXT_OFFSET and advances its window. -/
  | segmentAck (rq : Request)
  /-- SUBSCRIBE (R75). A SUBSCRIBE request creates, changes or cancels a subscription within the per-session, per-partition and device limits. -/
  | subscribe (rq : Request)
  /-- NOTIFY_RESPONSE (R76). A client's NOTIFY response acknowledges a notification and frees its place among the 16 unanswered notifications of the subscription. -/
  | notifyResponse (rq : Request)
  /-- ONNUM_DOORBELL (R77). A DOORBELL frame has its tag verified by the security block and, when accepted, advances a context's producer index or is refused with VALUE_OUT_OF_RANGE. -/
  | onnumDoorbell (rq : Request)
  /-- SESSION_OPEN (R62). A SESSION_OPEN request is verified against the named credential, within the session limits, and answered with a signed response and a new session key. -/
  | sessionOpen (rq : Request)
  /-- SESSION_CLOSE (R66). A SESSION_CLOSE closes the session, ending its subscriptions and aborting its block transfers. -/
  | sessionClose (rq : Request)
  /-- SEGMENT_GAP_TIMER (R71). Eight milliseconds after a gap is detected in a block transfer, the receiver sends SEGMENT_ACK naming the first missing byte. -/
  | segmentGapTimer (k : Nat)
  /-- BLOCK_TIMEOUT (R72). After 500 ms with no segment, an open block transfer aborts with BLOCK_TIMEOUT and commits nothing. -/
  | blockTimeout (k : Nat)
  /-- SESSION_IDLE_TIMEOUT (R66). A session without a valid frame for SESSION_IDLE_S closes, ending its subscriptions and block transfers. -/
  | sessionIdleTimeout (id : Nat)
  /-- NOTIFY_RESEND_TIMER (R76). An unanswered NOTIFY is resent after 16 ms and again after 32 ms. -/
  | notifyResendTimer (id seq : Nat)
  /-- SUBSCRIPTION_DROPPED (R76). A stream subscription with no notification answered for 1 s is cancelled and a final NOTIFY with SUBSCRIPTION_DROPPED is sent. -/
  | subscriptionDropped (id : Nat)
  /-- SUBSCRIPTION_PERIOD (R75). A subscription's period expires and the part sends a periodic notification, or a held change notification no more often than PERIOD_US. -/
  | subscriptionPeriod (id : Nat)
  /-- REQ_SUBMIT (R60). A write of the frame length to REQ_SUBMIT of a PCIe function submits the frame in REQ_BUF, or is ignored and logged as WINDOW_BUSY while a request is pending. -/
  | reqSubmit (fn length : Nat) (f : Frame) (tagOk : Bool)
  /-- NOTIFY_TAIL (R61). A host write of NOTIFY_TAIL acknowledges the notification frames up to that offset of the PCIe notification ring. -/
  | notifyTail (fn register value : Nat)
  /-- WINDOW_STATUS_READ (R60). A read of WINDOW_STATUS returns the pending and overflow bits and clears the overflow bit. -/
  | windowStatusRead (fn : Nat)
  /-- ONNUM_CLIENT_RESPONSE (R70). A response arrives for a request that the part sent as an Onnum client, such as an answering request or a constellation set-up request. -/
  | onnumClientResponse (id status : Nat) (payload : Bytes)
  /-- CLIENT_RETRY_TIMER (R70). At 16 ms and 32 ms after its first attempt, a client request of the part with no response is sent again. -/
  | clientRetryTimer (id : Nat)
  /-- PEER_UNREACHABLE_TIMEOUT (R70). Fifty milliseconds after the first attempt with no response, the part declares the peer unreachable and completes the Bell request with ANSWER_UNREACHABLE. -/
  | peerUnreachableTimeout (id : Nat)
  /-- SAVED_WRITE_PROGRAMMED (R51). The flash program of a SAVED value completes and the write is acknowledged, or it aborts with SAVE_FAILED. -/
  | savedWriteProgrammed (ok : Bool)
  /-- ERROR_CLEAR (R82). A write of TRUE to ERROR_CLEAR empties the reader's view of the error log and zeroes its COUNT and LOST. -/
  | errorClear (rq : Request)
  /-- VIOLATION_CLEAR (R82). A write of TRUE to VIOLATION_CLEAR empties the reader's view of the violation log. -/
  | violationClear (rq : Request)
  /-- REFUSAL_CLEAR (R511). A write of TRUE to REFUSAL_CLEAR empties the reader's view of the refusal log. -/
  | refusalClear (rq : Request)
  /-- ACTIVE_IDLE_HOLD_EXPIRY (R29). ACTIVE_IDLE_HOLD passes with no Bell chunk, answering request, open gate or ACTIVE floor, and the part starts a descent from ACTIVE to ATTEND. -/
  | activeIdleHoldExpiry
  /-- ATTEND_IDLE_HOLD_EXPIRY (R29). ATTEND_IDLE_HOLD passes with no candidate held and no Chime work, and the part starts a descent to its effective floor. -/
  | attendIdleHoldExpiry
  /-- CHIME_REJECT_HOLD_EXPIRY (R32). CHIME_REJECT_HOLD passes after a Chime rejection with no new candidate, and the part starts a descent to its floor under R29. -/
  | chimeRejectHoldExpiry
  /-- CASCADE_MODELS (R37). A write of CASCADE_MODELS names the Chime, Bell or Gong model handles, each checked to be a SEALED object the partition owns or holds. -/
  | cascadeModels (rq : Request)
  /-- ANSWER_REQUEST (R40). A committed block write to ANSWER_REQUEST queues an answering request for the session's partition, or answers ANSWER_BUSY when the queue is full, and brings a serving part in ATTEND to ACTIVE. -/
  | answerRequest (rq : Request)
  /-- ANSWER_TOKENS_RELAY (R35). A NOTIFY of answer tokens from the Gong server is relayed, in order, to the subscribers of ANSWER_TOKENS of the cascade partition. -/
  | answerTokensRelay (tokens : TokenNotify)
  /-- NOP (R158). A NOP stroke occupies no unit and completes 4 cycles after issue, signalling a token or closing a step. -/
  | nop (p c core : Nat)
  /-- SYNC (R159). A SYNC stroke enters a barrier across a peal, matched with the k-th SYNC of the same peal on every member. -/
  | sync (p c core : Nat)
  /-- SYNC_COMPLETE (R159). The last member of a peal issues its matching SYNC and the barrier completes on every member. -/
  | syncComplete (p c peal k : Nat)
  /-- SIGNAL (R160). A SIGNAL stroke adds 1 to a named token counter of a named context on a target core or every core of a peal. -/
  | signal (p c core : Nat)
  /-- WAIT_TIME (R161). A WAIT_TIME stroke holds its context until NS112 reaches an absolute or relative deadline, completing at once with WAIT_LATE if the deadline has passed. -/
  | waitTime (p c core : Nat)
  /-- WAIT_TIME_DEADLINE (R161). NS112 reaches a waiting WAIT_TIME's deadline and the stroke completes. -/
  | waitTimeDeadline (p c core : Nat)
  /-- MOVE (R162). A MOVE stroke copies rows of 64-byte lines between scratchpad, accumulator, a bound object or another core's scratchpad. -/
  | move (p c core : Nat)
  /-- PREFETCH (R163). A PREFETCH stroke hands a checked descriptor to one of the core's 16 stream prefetchers. -/
  | prefetch (p c core : Nat)
  /-- MCAST (R162). An MCAST stroke reads its source once and writes it to the same offset of the issuing context's share on every core of a peal. -/
  | mcast (p c core : Nat)
  /-- GATHER (R162). A GATHER stroke copies table rows named by an index list into its destination, zeroing out-of-range rows with INDEX_RANGE. -/
  | gather (p c core : Nat)
  /-- SCATTER (R162). A SCATTER stroke writes source rows to the table rows named by an index list, dropping out-of-range rows. -/
  | scatter (p c core : Nat)
  /-- MATMUL (R164). A MATMUL stroke computes A × B from zeroed accumulators, with an optional scale, bias and PWL epilogue. -/
  | matmul (p c core : Nat)
  /-- MATMUL_ACC (R164). A MATMUL_ACC stroke adds A × B to the accumulators held, with an optional epilogue. -/
  | matmulAcc (p c core : Nat)
  /-- CONV2D (R166). A CONV2D stroke computes a two-dimensional convolution of an NHWC image with weights into the accumulators. -/
  | conv2d (p c core : Nat)
  /-- FFT (R167). An FFT stroke computes BATCH radix-2 transforms of length 2^S, optionally inverse, real-input, scaled or as power. -/
  | fft (p c core : Nat)
  /-- EWISE (R170). An EWISE stroke applies one floating-point or integer element-wise operation selected by OP. -/
  | ewise (p c core : Nat)
  /-- PWL (R94). A PWL stroke loads a 16- or 32-segment table, checks it and evaluates it on every element. -/
  | pwl (p c core : Nat)
  /-- REDUCE (R171). A REDUCE stroke reduces along rows or columns in the fixed order, by SUM, MAX, MIN, SUMSQ, ARGMAX or ARGMIN. -/
  | reduce (p c core : Nat)
  /-- NORM (R171). A NORM stroke applies a layer or RMS normalisation with optional gamma and beta. -/
  | norm (p c core : Nat)
  /-- SOFTMAX (R171). A SOFTMAX stroke computes a scaled, optionally masked or causal softmax of each row. -/
  | softmax (p c core : Nat)
  /-- ROTATE (R96). A ROTATE stroke applies a normalised block Hadamard transform of order 32, 64 or 128 along each row. -/
  | rotate (p c core : Nat)
  /-- CONVERT (R169). A CONVERT stroke converts between formats, quantising into VG or MX panels with derived or given scales, or to and from S40. -/
  | convert (p c core : Nat)
  /-- ATTN_DECODE (R236). An ATTN_DECODE stroke walks the active page table of a sequence and computes attention for a group of query rows. -/
  | attnDecode (p c core : Nat)
  /-- ATTN_PREFILL (R238). An ATTN_PREFILL stroke computes causal attention for Q_COUNT query positions over the sequence's pages. -/
  | attnPrefill (p c core : Nat)
  /-- KV_APPEND (R239). A KV_APPEND stroke converts K and V rows to the cache format and writes them into their pages. -/
  | kvAppend (p c core : Nat)
  /-- KV_PUBLISH (R248). A KV_PUBLISH stroke registers a flip of a sequence's page-table pair to take effect at the next step boundary. -/
  | kvPublish (p c core : Nat)
  /-- STREAM_STEP (R263). A STREAM_STEP stroke advances listed stream slots through STEPS time steps of an LSTM, GRU or scan cell, applying marks. -/
  | streamStep (p c core : Nat)
  /-- STREAM_GATES (R275). A STREAM_GATES stroke evaluates VZ5-compatible gates on accumulator pre-activations and updates the slot state. -/
  | streamGates (p c core : Nat)
  /-- STREAM_RENORM (R269). A STREAM_RENORM stroke renormalises the S40 vectors of the listed slots, lowering their exponents. -/
  | streamRenorm (p c core : Nat)
  /-- STREAM_MOVE (R285). A STREAM_MOVE stroke registers a move of a slot to another logical core, taking effect at its chunk boundary. -/
  | streamMove (p c core : Nat)
  /-- PEER_SEND (R352). A PEER_SEND stroke sends rows as frames to the paired context on another constellation member and completes on ACK_E2E. -/
  | peerSend (p c core : Nat)
  /-- PEER_REDUCE (R353). A PEER_REDUCE stroke runs a chained reduction or gather across constellation members followed by a distribution. -/
  | peerReduce (p c core : Nat)
  /-- END (R157). An END stroke closes the submission on its core, carrying USER_VALUE from logical core 0. -/
  | endStroke (p c core : Nat)
  /-- STROKE_COMPLETE (R108). A running stroke completes, its results become visible and, with SIGNAL_EN, its token counter is incremented, raising TOKEN_OVERFLOW at 255. -/
  | strokeComplete (p c core stroke : Nat)
  /-- TILE_BOUNDARY (R146). A tile of a preemptible stroke completes and the unit is released to a waiting stroke of lesser rank, or the stroke continues. -/
  | tileBoundary (p c core stroke : Nat)
  /-- TOKEN_TIMEOUT (R108). A stroke or SYNC waits at the head longer than TOKEN_WAIT_LIMIT_US and the submission ends with TOKEN_TIMEOUT. -/
  | tokenTimeout (p c core : Nat)
  /-- SRAM_UNCORRECTABLE (R112). An uncorrectable scratchpad or accumulator error retires the slot and starts its replacement. -/
  | sramUncorrectable (slot : Nat) (acc : Bool) (bank line : Nat)
  /-- LOGIC_SELF_CHECK_MISMATCH (R112). A mismatch in a slot's logic self-checks retires the slot and starts its replacement. -/
  | logicSelfCheckMismatch (slot : Nat)
  /-- UNIT_TIMEOUT (R112). A unit fails to complete a tile within four times its annotated tile time, counted in cycles the partition may advance, and the slot is retired. -/
  | unitTimeout (slot : Nat)
  /-- CORE_REPLACEMENT_DONE (R114). The replacement slot is powered, scrubbed and given its firmware, the logical map switches and held transfers are released. -/
  | coreReplacementDone (p logical : Nat)
  /-- SCRATCHPAD_PATROL (R99). The patrol scrubber reads and corrects scratchpad lines in idle bank cycles so that each line is visited every 60 s. -/
  | scratchpadPatrol (slot bank line : Nat) (bit : Option Nat)
  /-- PATTERN_LOAD (R366). A write of an object handle to PATTERN_LOAD checks the pattern under R182 and, for real-time or urgent contexts, runs admission and the urgent fetch test before loading it. -/
  | patternLoad (rq : Request)
  /-- PATTERN_UNLOAD (R366). A write of TRUE to PATTERN_UNLOAD unloads the context's pattern, or aborts while a submission is in flight. -/
  | patternUnload (rq : Request)
  /-- BINDINGS (R367). A block write to BINDINGS replaces the context's binding table, which is snapshotted at each later dispatch. -/
  | bindings (rq : Request)
  /-- STEP_BOUNDARY (R156). The step ends on every core of the bucket and the part runs the boundary stages for pages and stream slots and dispatches the next step. -/
  | stepBoundary (p c : Nat)
  /-- SUBMISSION_COMPLETE (R157). END completes on every core and the part writes the completion entry, advances CPL_PRODUCER, notifies and raises interrupts. -/
  | submissionComplete (p c : Nat) (asks : Option Bytes) (tokens : Option (Bytes × Bool))
  /-- SAT_GATE_DECISION (R216). After a layer's gate stroke and a drain, the core evaluates the saturation counts and re-runs the layer wide, records a trip, a watch or nothing. -/
  | satGateDecision (p c core : Nat)
  /-- KV_POOL (R226). A write of KV_POOL defines a partition page pool's format, head dimension and page count within the DRAM quota. -/
  | kvPool (rq : Request)
  /-- SLOT_IMAGE (R260). A committed block write of SLOT_IMAGE opens a stream slot on its home core, or aborts with STATE_REFUSED. -/
  | slotImage (rq : Request)
  /-- SLOT_MOVE_TO (R285). A write of SLOT_MOVE_TO registers a move of the slot to a logical core at its next chunk boundary. -/
  | slotMoveTo (rq : Request)
  /-- SLOT_CLOSE (R286). A write of TRUE to SLOT_CLOSE registers a close that scrubs the slot at its next chunk boundary or at once. -/
  | slotClose (rq : Request)
  /-- AUTO_CHUNK_RELEASE (R287). At a chunk's release time a stream context with AUTO set writes its chunk manifest and features and submits the chunk itself. -/
  | autoChunkRelease (p c k : Nat)
  /-- STREAM_GATE_UPDATE (R289). The voice-activity gate submission completes, each slot's gate is updated, and the stream chunk is submitted with the open slots. -/
  | streamGateUpdate (p c : Nat)
  /-- PREFETCH_BLOCK_DELIVERED (R292). A prefetcher finishes delivering a block to every receiving core, signals DELIVER_TOKEN and, with credit, fetches the next block. -/
  | prefetchBlockDelivered (slot prefetcher : Nat)
  /-- CACHE_WAY_MASK (R295). A write of CACHE_WAY_MASK changes a partition's ways, deferring a removal until no submission is in flight. -/
  | cacheWayMask (rq : Request)
  /-- WAY_REMOVAL_DEFERRED (R295). A deferred removal of cache ways takes effect once no context of the partition has a submission in flight, writing back and invalidating the lines. -/
  | wayRemovalDeferred (p : Nat)
  /-- SLICE_FAILURE (R299). A cache slice with an uncorrectable error or failed self-check is retired and its logical number remapped to slice 16 or served with no cache. -/
  | sliceFailure (slice : Nat) (lost : List Nat)
  /-- DRAM_REFRESH (R305). A refresh turn falls due on the TIMECLK grid and takes the whole of every DRAM group. -/
  | dramRefresh (waiting : Option Nat)
  /-- REFRESH_PERIOD_SELECT (R305). At a whole second the part selects the normal or hot refresh period from the hottest sensor over the second just ended. -/
  | refreshPeriodSelect (highest : Int)
  /-- DRAM_RETRAIN (R305). The 163.84 ms oscillator check and retraining turn falls due on every group. -/
  | dramRetrain (waiting : Option Nat)
  /-- DRAM_CORRECTED_ERROR (R307). A corrected DRAM error is counted against its lane. -/
  | dramCorrectedError (group lane row : Nat)
  /-- DRAM_UNCORRECTABLE (R308). An uncorrectable DRAM line is refetched from flash, fails the access and damages the object, or is handled as system data. -/
  | dramUncorrectable (group handle p c core stroke : Nat)
  /-- DRAM_REFETCH_DONE (R308). The flash reread of a SEALED object's line completes, the line is rewritten and the stalled access is served. -/
  | dramRefetchDone (p handle : Nat)
  /-- DRAM_PATROL_SCRUB (R307). The patrol scrubber rewrites DRAM lines so that every line is rewritten within 24 h. -/
  | dramPatrolScrub (group lines : Nat) (errors : List (Nat × Nat))
  /-- FLASH_WINDOW_OPEN (R312). At each whole second the flash maintenance window opens for programs, erases, garbage collection and refresh. -/
  | flashWindowOpen (second : Nat) (reads : List (Nat × Nat)) (bad : List Nat)
  /-- FLASH_WINDOW_CLOSE (R312). FLASH_WINDOW_MS after opening, the maintenance window closes and reads return to full rate. -/
  | flashWindowClose
  /-- FLASH_READ_RETRY (R315). A page that LDPC cannot decode is retried with shifted levels, soft decoding and a stripe rebuild, or fails with FLASH_UNCORRECTABLE. -/
  | flashReadRetry (p handle outcome die block page : Nat)
  /-- OBJECT_CREATE (R320). A write of OBJECT_CREATE creates a SEALED, WORKING or key-value sequence object within the DRAM quota. -/
  | objectCreate (rq : Request)
  /-- OBJECT_SEAL (R320). A write of OBJECT_SEAL computes the digest, records publication and starts programming a LOADING object to flash. -/
  | objectSeal (rq : Request)
  /-- SEAL_COMPLETE (R320). An object's flash programs complete and it becomes read-only and sealed, with an event reporting the result. -/
  | sealComplete (handle : Nat)
  /-- OBJECT_CLAIM (R321). A write of OBJECT_CLAIM requests, changes or releases a DRAM or CACHE claim, charged and tested against quota, pins and turns. -/
  | objectClaim (rq : Request)
  /-- CLAIM_COMPLETE (R323). A claim's own time elapses and it completes for its holder, recording CLAIM_DONE and applying any release waiting on it. -/
  | claimComplete (p handle : Nat)
  /-- OBJECT_DELETE (R324). A write of OBJECT_DELETE deletes an object at once or marks it to disappear when its holders and snapshots end. -/
  | objectDelete (rq : Request)
  /-- DEFERRED_DELETE (R324). The last holder releases or the last submission naming the object completes, and a deleted object disappears. -/
  | deferredDelete (handle : Nat)
  /-- OBJECT_WINDOW_SEL (R320). A write of OBJECT_WINDOW_SEL chooses the object range that OBJECT_WINDOW moves for the writing session. -/
  | objectWindowSel (rq : Request)
  /-- OBJECT_WINDOW (R320). A block transfer through OBJECT_WINDOW reads or writes the selected range of a LOADING or WORKING object. -/
  | objectWindow (rq : Request)
  /-- READOPT_OBJECT (R329). The digest recomputation of a retained object completes and it is READOPTED with its claims or deleted with READOPT_FAILED, and the next begins. -/
  | readoptObject (handle : Nat) (digestMatches : Bool)
  /-- MESH_FLIT_UNCORRECTABLE (R334). A router finds an uncorrectable flit, drops it and fails its transfer with MESH_UNCORRECTABLE. -/
  | meshFlitUncorrectable (router port p c core stroke : Nat)
  /-- PEER_DATA_FRAME (R352). A SEND data frame arrives from a peer member and is written into the paired context's share, completing the transfer with ACK_E2E on LAST. -/
  | peerDataFrame (port : Nat) (f : PeerFrame)
  /-- PEER_REDUCE_CHAIN_FRAME (R353). A REDUCE_CHAIN frame arrives, is combined with this member's elements and is sent on along the chain. -/
  | peerReduceChainFrame (port : Nat) (f : PeerFrame)
  /-- PEER_REDUCE_OUT_FRAME (R353). A REDUCE_OUT frame of the distribution arrives and is written to D, completing the member's PEER_REDUCE when whole. -/
  | peerReduceOutFrame (port : Nat) (f : PeerFrame)
  /-- PEER_ACK_E2E (R352). An ACK_E2E frame arrives and completes the matching PEER_SEND, or fails it with PEER_REMOTE_REFUSED. -/
  | peerAckE2e (port : Nat) (f : PeerFrame)
  /-- PEER_ABORT (R356). An ABORT frame arrives and the member fails its matching stroke with PEER_ABORTED and discards late frames. -/
  | peerAbort (port : Nat) (f : PeerFrame)
  /-- PEER_PATH_DOWN (R350). A PATH_DOWN frame arrives and the member recomputes its routes around the failed link. -/
  | peerPathDown (port : Nat) (f : PeerFrame)
  /-- PEER_RESERVE (R254). A RESERVE frame carrying another member's reservation outcome arrives, and the step starts or is refused on every member. -/
  | peerReserve (port : Nat) (f : PeerFrame) (code : Nat)
  /-- PEER_IDENTIFY (R347). An IDENTIFY frame arrives after training and the port comes UP or stays down with PEER_MISMATCH. -/
  | peerIdentify (port id topology member node partnerPort : Nat)
  /-- PEER_FRAME_CRC_ERROR (R344). A peer frame fails its CRC, the receiver discards it and later frames until the gap fills, and sends NAK. -/
  | peerFrameCrcError (port : Nat)
  /-- PEER_NAK (R344). A NAK arrives and the sender resends from ACK_SEQ + 1 as one attempt. -/
  | peerNak (port ackSeq : Nat)
  /-- RETRY_BUDGET_SPENT (R345). A link fault exceeds 8 attempts or 12 µs and the port starts a fast retrain. -/
  | retryBudgetSpent (port : Nat)
  /-- PEER_LANE_FAIL (R346). A lane collects 4 invalid headers in 1 µs or loses lock and is replaced by the spare, or the port retrains on 3 lanes or fails. -/
  | peerLaneFail (port lane : Nat)
  /-- PORT_TRAINING_DONE (R347). A port's full, fast or saved-coefficient training completes, or a fast retrain fails. -/
  | portTrainingDone (port : Nat) (ok : Bool)
  /-- PEER_PORT_FAILED (R356). A port becomes FAILED and its strokes fail with PEER_LINK_DOWN, followed by ABORT and PATH_DOWN. -/
  | peerPortFailed (port : Nat)
  /-- COLL_TIMEOUT (R355). A collective timer expires and extends once if a local port is recovering, or fails the stroke with PEER_TIMEOUT and sends ABORT. -/
  | collTimeout (p c core stroke : Nat)
  /-- PARTITION_RUN (R361). A write of PARTITION_RUN takes or returns cores and renumbers them to run the partition, or starts stopping it. -/
  | partitionRun (rq : Request)
  /-- PARTITION_RESET (R383). A write of TRUE to PARTITION_RESET by the operator stops, discards and scrubs the partition's work while keeping its configuration. -/
  | partitionReset (rq : Request)
  /-- TENANT_RESET (R383). A write of TRUE to TENANT_RESET by the partition's tenant resets the partition as PARTITION_RESET does. -/
  | tenantReset (rq : Request)
  /-- PARTITION_RESET_DONE (R383). The partition reset's scrub completes, ring indices are zeroed and the partition returns to its earlier state. -/
  | partitionResetDone (p : Nat)
  /-- CTX_CLASS (R382). A write of CTX_CLASS sets a context's class, running the tile-cap, urgent admission and real-time admission tests. -/
  | ctxClass (rq : Request)
  /-- DOORBELL (R372). A write of DOORBELL advances a context's producer index and accepts the covered submission entries. -/
  | doorbell (rq : Request)
  /-- BEAT_START (R374). A real-time context's beat starts and the accepted submission is released and dispatched within 1.0 µs. -/
  | beatStart (p c k : Nat)
  /-- RELEASE_TIME (R373). NS112 reaches a best-effort submission's RELEASE_NS and the submission is released. -/
  | releaseTime (p c : Nat)
  /-- URGENT_DOORBELL_RELEASE (R378). A held urgent doorbell is accepted when the in-flight submission completes or URGENT_MIN_INTERVAL_US has passed. -/
  | urgentDoorbellRelease (p c : Nat)
  /-- POWER_DUTY_UPDATE (R521). Every 100 µs the power manager estimates each partition's power and lowers or raises its duty against its cap. -/
  | powerDutyUpdate (means : List Nat)
  /-- CHAIN_SETTLE_END (R390). A PDM chain's settle time after its clock starts ends and the chain begins using bits. -/
  | chainSettleEnd (tchirix : Bool)
  /-- MIC_INPUT_FAILED (R393). An input holding one level for 8,192 bits or out of density for 100 ms is marked FAILED and contributes zeros. -/
  | micInputFailed (input : Nat)
  /-- ATC_MAP_SAMPLE (R388). Every 10 ms in ATTEND and ACTIVE the part samples ATC against NS112 and updates ATC_MAP. -/
  | atcMapSample (atc ticks : Nat)
  /-- BEAM_TABLE (R398). A block write of BEAM_TABLE checks and commits a new beam table waiting for its APPLY_INDEX. -/
  | beamTable (rq : Request)
  /-- BEAM_TABLE_APPLY (R398). The 48 kHz index reaches APPLY_INDEX and the committed table takes effect for every beam together. -/
  | beamTableApply
  /-- FEATURE_FRAME (R401). The last sample of a 25 ms window arrives and the feature unit computes a mel feature frame for the source. -/
  | featureFrame (source frame : Nat) (x : Sound)
  /-- FEED_BLOCK_DELIVER (R407). A feed block's last sample is ready and, with credit and ring room, it is copied to the scratchpad ring with a token and an optional submission. -/
  | feedBlockDeliver (feed : Nat) (x : Sound)
  /-- TICK_FRAME (R411). The Tick engine evaluates a feature frame of the listening input and raises a candidate when SCORE reaches TICK_THRESHOLD. -/
  | tickFrame (frame score length : Nat) (x : Sound)
  /-- CANDIDATE_EXPIRED (R412). A held candidate reaches CANDIDATE_HOLD_MS without a decision and expires. -/
  | candidateExpired
  /-- TICK_MODEL (R410). A write of TICK_MODEL replaces the Tick model within the engine's limits. -/
  | tickModel (rq : Request)
  /-- PLAYBACK_BLOCK_READ (R423). The front end reads a playback block when its FILL_TOKEN allows, or plays zeros and counts an underrun. -/
  | playbackBlockRead (buffer : Nat)
  /-- CSI_FRAME_START (R430). A CSI-2 frame start packet opens a frame, runs the acceptance and buffer tests, and opens a control-bus slot. -/
  | csiFrameStart (port vc number ticks : Nat) (corrected : Bool)
  /-- CSI_LONG_PACKET (R428). A line packet enters the camera's FIFO, with corrections, padding or cutting, or drops the frame if the FIFO is full. -/
  | csiLongPacket (port vc dataType ecc : Nat) (crcOk : Bool) (samples : List Nat)
  /-- CSI_FRAME_END (R427). A CSI-2 frame end packet closes the frame, filling missing lines. -/
  | csiFrameEnd (port vc ticks : Nat) (corrected : Bool)
  /-- CSI_UNKNOWN_PACKET (R427). A packet of an unconfigured virtual channel or data type is discarded and logged once per second. -/
  | csiUnknownPacket (port vc dataType : Nat)
  /-- FRAME_TIMEOUT (R427). FRAME_TIMEOUT_US passes with no packet and the frame in progress is closed with FRAME_NO_END. -/
  | frameTimeout (camera : Nat)
  /-- PIPE_LINE_SERVICE (R429). The shared pipeline takes one line from the next eligible camera and processes it through the ISP and writers. -/
  | pipeLineService (full : List Nat)
  /-- FRAME_PUBLISH (R437). A closed frame's tensors, statistics and records are written and its tokens and submissions delivered. -/
  | framePublish (camera : Nat)
  /-- EXPOSURE_REQ (R441). A write of EXPOSURE_REQ gives new exposure or gain settings a generation and queues them for a frame slot. -/
  | exposureReq (rq : Request)
  /-- CTRL_TRANSFER_DONE (R442). A control-bus transfer of a slot succeeds, or fails and is retried in the next slot up to two more times. -/
  | ctrlTransferDone (camera : Nat) (ok : Bool)
  /-- PTP_SYNC (R458). A Sync message is stamped and, with its companion measurement, yields an offset that drives the servo and time state. -/
  | ptpSync (m : PtpMsg)
  /-- PTP_FOLLOW_UP (R458). A Follow_Up completes a two-step Sync or receives residence time in transit. -/
  | ptpFollowUp (m : PtpMsg)
  /-- PTP_DELAY_RESP (R458). A Delay_Resp gives a path-delay measurement for the end-to-end mechanism. -/
  | ptpDelayResp (m : PtpMsg)
  /-- PTP_DELAY_REQ (R463). A Delay_Req crossing the bridge has residence time added or is dropped under TC_MODE. -/
  | ptpDelayReq (m : PtpMsg)
  /-- PTP_ANNOUNCE (R455). An Announce message enters the best master clock algorithm over both ports. -/
  | ptpAnnounce (m : PtpMsg) (a : Announce)
  /-- PTP_PDELAY_REQ (R463). A Pdelay_Req is answered on its port and never forwarded. -/
  | ptpPdelayReq (m : PtpMsg)
  /-- PTP_PDELAY_RESP (R458). A Pdelay_Resp or Pdelay_Resp_Follow_Up gives a link-delay measurement. -/
  | ptpPdelayResp (m : PtpMsg)
  /-- DELAY_REQ_TIMER (R455). The Delay_Req interval elapses and the part sends a Delay_Req, or a Pdelay_Req at logMinPdelayReqInterval. -/
  | delayReqTimer (port stamp : Nat)
  /-- ANNOUNCE_TIMEOUT (R460). No Announce arrives from the parent for announceReceiptTimeout intervals and the part enters HOLDOVER. -/
  | announceTimeout
  /-- SYNC_TIMEOUT (R460). No Sync arrives for three sync intervals and the part enters HOLDOVER. -/
  | syncTimeout
  /-- TIME_SET (R461). A write of TIME_SET with PTP disabled steps the time by a time recovery. -/
  | timeSet (rq : Request)
  /-- SLEEP_CALIBRATION (R449). A 10 s window ends and the sleep crystal is calibrated against NS112 in SLEEP_PPB. -/
  | sleepCalibration (sleepTicks elapsed : Nat)
  /-- TRIGGER_FIRE (R467). NS112 reaches a trigger unit's target; it fires its pins, array start or doorbell and advances its target. -/
  | triggerFire (unit : Nat)
  /-- TRIG_CFG (R469). A write of TRIG_CFG by the owning partition configures and, on ENABLE, arms a trigger unit. -/
  | trigCfg (rq : Request)
  /-- TRIG_CFG_OPERATOR (R469). A write of TRIG_CFG_OPERATOR configures and arms an operator-owned trigger unit. -/
  | trigCfgOperator (rq : Request)
  /-- CAPTURE_EVENT (R471). A pin edge, camera frame start or trigger firing is stamped by a capture unit into a record, or lost when 256 are undelivered. -/
  | captureEvent (unit source : Nat) (falling : Bool) (ticks : Nat)
  /-- BRIDGE_FRAME (R475). An Ethernet frame arrives, its source is learned, and it is forwarded, flooded, delivered internally or dropped. -/
  | bridgeFrame (f : EtherFrame)
  /-- MAC_AGE_OUT (R475). A learned address ages out after 300 s. -/
  | macAgeOut (vid mac : Nat)
  /-- SPEED_AUTO_STEP (R473). In auto speed a port tries the next speed after 500 ms without link. -/
  | speedAutoStep (port : Nat)
  /-- AES67_PACKET (R480). An RTP packet of a receive stream is checked, indexed and converted, or discarded as late, duplicate or malformed. -/
  | aes67Packet (k : RtpPacket)
  /-- AES67_SAMPLE_RELEASE (R481). A channel's sample reaches its playout time and is released, or concealed as zero. -/
  | aes67SampleRelease (channel index : Nat)
  /-- AES67_TX_PACKET (R485). A transmit packet falls due and is built from the playback ring or sent as zeros with TX_UNDERRUN. -/
  | aes67TxPacket (channel : Nat)
  /-- IGMP_MLD_QUERY (R483). A multicast membership query is answered for the part's own streams. -/
  | igmpMldQuery (port group : Nat)
  /-- ARP_NDP_ICMP (R478). An ARP, NDP or ICMP echo request to the part is answered. -/
  | arpNdpIcmp (port target : Nat) (v6 echo : Bool) (payload : Bytes)
  /-- PCIE_DOORBELL (R488). A write of a virtual function's DOORBELL_c register advances a context's producer index on the write itself. -/
  | pcieDoorbell (p c value : Nat)
  /-- APERTURE_SELECT (R489). A write of an aperture's HANDLE or OFFSET maps a window of an object for later accesses. -/
  | apertureSelect (fn k : Nat) (offset : Bool) (value : Nat)
  /-- APERTURE_ACCESS (R489). A PCIe read or write through an aperture is performed under the object's protections, or dropped with APERTURE_REFUSED. -/
  | apertureAccess (fn k addr n : Nat) (data : Option Bytes)
  /-- PCIE_FLR (R491). A function-level reset or clearing of VF Enable resets a function's registers and window without touching the partition. -/
  | pcieFlr (fn : Option Nat)
  /-- PCIE_ERROR (R491). A PCIe error is reported through AER and logged, discarding poisoned write data. -/
  | pcieError (fn status : Nat) (correctable : Bool)
  /-- PERST_N (R600). PERST_N resets the PCIe endpoint alone. -/
  | perstN (up : Bool) (gts width vfs : Nat) (busMaster : Bool)
  /-- MGMT_TLS_HANDSHAKE (R493). A TLS connection to the management port is accepted with a trusted certificate or refused with MGMT_TLS_REFUSED. -/
  | mgmtTlsHandshake (conn : Nat) (cert : Bool) (anchor : Option Nat)
  /-- POWER_REQUEST (R496). A write of POWER_REQUEST starts an ascent or a descent to the requested mode, or aborts below the floor or on a refuser. -/
  | powerRequest (rq : Request)
  /-- DESCENT_RETRY (R510). The refuser of an idle descent clears and the descent is tried again. -/
  | descentRetry
  /-- HIBERNATE_TO_LISTEN (R502). The sequencer runs the fixed steps from HIBERNATE to LISTEN, resetting ATC and starting the listening chain. -/
  | hibernateToListen
  /-- LISTEN_TO_ATTEND (R503). The sequencer runs the fixed steps to ATTEND from LISTEN or LISTEN_RETAIN, sampling SOC_PG and restoring rings, keys and time. -/
  | listenToAttend (pg : Bool) (pass : List Nat)
  /-- ATTEND_TO_ACTIVE (R504). The sequencer powers the ACTIVE slots, raises VDD_CORE and CORECLK, and dispatches held submissions. -/
  | attendToActive (ack : Bool)
  /-- ACTIVE_TO_ATTEND (R505). The sequencer scrubs and switches off all but the Chime slots and lowers CORECLK and VDD_CORE. -/
  | activeToAttend (ack : Bool)
  /-- DESCENT_FROM_ATTEND (R506). The sequencer descends from ATTEND to LISTEN_RETAIN, LISTEN or HIBERNATE through its point of no return. -/
  | descentFromAttend (late : Option (Nat × Nat))
  /-- WAKE_RETRY (R501). Ten milliseconds after a failed wake the part retries it, up to 3 times. -/
  | wakeRetry
  /-- WAKE_PIN (R500). WAKE_N held low for 1 ms wakes the part to LISTEN or ATTEND, or aborts a descent before its point of no return. -/
  | wakePin
  /-- POWER_ALARM (R500). SECNS reaches POWER_ALARM WHEN and the part wakes to TARGET, clearing ENABLE. -/
  | powerAlarm
  /-- BRACE_START (R516). VAON falls below 1.62 V and the part braces, halving CORECLK and holding flash programs. -/
  | braceStart
  /-- BRACE_END (R517). VAON stays at or above 1.67 V for 100 µs and the brace ends, reversing its actions. -/
  | braceEnd (lowestMv durationUs : Nat)
  /-- VAON_RESET (R518). VAON falls below 1.50 V, the package is reset, and a cold start follows after 1 ms above 1.55 V. -/
  | vaonReset
  /-- AON_BROWNOUT (R514). The always-on rail stays below 0.72 V for 2 µs, the Tchirix die resets and the part cold-starts. -/
  | aonBrownout
  /-- EMERGENCY_START (R523). A sensor reaches 102 °C or PWR_ALERT_N is asserted and every powered slot drops to half rate. -/
  | emergencyStart (sensor : Option (Nat × Int))
  /-- EMERGENCY_END (R523). At a whole second meeting the end conditions the emergency ends and CORECLK returns. -/
  | emergencyEnd (second : Nat)
  /-- SLOWED_SECOND (R524). At the end of a second in which a brace or emergency held, every partition's SLOWED_SECONDS increases by 1. -/
  | slowedSecond
  /-- THERMAL_TRIP (R525). A sensor reaches 115 °C and the part deasserts SOC_PWR_EN and holds the package in reset. -/
  | thermalTrip (sensor : Nat) (tj : Int)
  /-- THERMAL_TRIP_RELEASE (R525). Every sensor reads below 95 °C after a thermal trip and the part makes a cold start. -/
  | thermalTripRelease (highest : Int)
  /-- KEY_IMPORT (R532). A write of KEY_IMPORT unwraps the partition secret and derives the slot keys, or aborts. -/
  | keyImport (rq : Request)
  /-- KEY_DESTROY (R537). A write of TRUE to KEY_DESTROY resets the partition and destroys its key slot, leaving its objects RETAINED. -/
  | keyDestroy (rq : Request)
  /-- TENANT_ENROL (R538). A write of TENANT_ENROL installs the first credential of an UNCLAIMED partition. -/
  | tenantEnrol (rq : Request)
  /-- TENANT_RELEASE (R545). A write of TRUE to TENANT_RELEASE by the operator starts a tenant scrub. -/
  | tenantRelease (rq : Request)
  /-- TENANT_SCRUB (R545). A write of TRUE to TENANT_SCRUB by the tenant starts a tenant scrub. -/
  | tenantScrub (rq : Request)
  /-- TENANT_SCRUB_DONE (R545). The defaults of the partition's SAVED objects are programmed and the partition becomes UNCLAIMED. -/
  | tenantScrubDone (p : Nat)
  /-- CREDENTIALS (R539). A block write of CREDENTIALS replaces the partition's credential list, closing sessions whose credential is removed. -/
  | credentials (rq : Request)
  /-- PATTERN_KEYS (R539). A block write of PATTERN_KEYS replaces the partition's pattern-signing keys. -/
  | patternKeys (rq : Request)
  /-- PUBLISHERS (R539). A block write of PUBLISHERS replaces the partition's trusted publisher keys. -/
  | publishers (rq : Request)
  /-- ATTEST_NONCE (R542). A write of 48 bytes to a partition's or the device's attestation nonce arms one report for the session. -/
  | attestNonce (rq : Request)
  /-- ATTEST_REPORT (R542). A READ_BLOCK of a partition's or the device's attestation report snapshots and signs it and consumes the nonce. -/
  | attestReport (rq : Request)
  /-- MGMT_TRUST (R541). A write of MGMT_TRUST sets the management trust anchors, once from the PCIe physical function and afterwards by MANAGEMENT sessions. -/
  | mgmtTrust (rq : Request)
  /-- SECURITY_VERSION (R530). A write of SECURITY_VERSION by a MANAGEMENT session blows fuse bits to raise the count. -/
  | securityVersion (rq : Request)
  /-- WARM_RESET (R559). A write of TRUE to WARM_RESET starts a warm reset, after any flash program in progress completes. -/
  | warmReset (rq : Request) (w : WarmTest)
  /-- COLD_RESET (R557). A write of TRUE to COLD_RESET starts a cold reset. -/
  | coldReset (rq : Request)
  /-- SYS_RESET_N (R598). SYS_RESET_N rises after a low whose duration selects nothing, a warm reset or a cold reset. -/
  | sysResetN (lowNs : Nat) (w : WarmTest)
  /-- WARM_RESET_DEFERRED (R555). A warm reset waiting on a flash program or brace begins once that ends. -/
  | warmResetDeferred (w : WarmTest)
  /-- COLD_START (R557). The part runs its cold start sequence after supplies or a cold reset, testing, training and loading everything. -/
  | coldStart (t : SelfTest)
  /-- COLD_START_THERMAL_HOLD_END (R603). A cold start held below the grade's minimum temperature continues when the minimum is reached or 60 s pass. -/
  | coldStartThermalHoldEnd (ms : Nat) (t : SelfTest)
  /-- MCU_FAILURE (R568). A control microcontroller's lockstep mismatch or missed heartbeat retires it and the spare takes its duty, or a warm start follows. -/
  | mcuFailure (mcu : Nat) (w : WarmTest)
  /-- PLL_FAILURE (R569). The root PLL in use falls out of step and the part fails in-flight strokes and switches to the standby PLL. -/
  | pllFailure
  /-- SYSTEM_DATA_UNCORRECTABLE (R570). An uncorrectable line of the DRAM system region is rebuilt, damages objects or forces a warm start. -/
  | systemDataUncorrectable (kind addr : Nat) (handles : List Nat) (w : WarmTest)
  /-- FIRMWARE_STAGE (R564). A block write of FIRMWARE_STAGE verifies an image and programs it into the bank not in force. -/
  | firmwareStage (rq : Request)
  /-- FIRMWARE_COMMIT (R564). A write of TRUE to FIRMWARE_COMMIT names the staged bank in force for the next start. -/
  | firmwareCommit (rq : Request)
  /-- TRACE_RING (R581). A write of TRACE_RING binds or unbinds a partition's trace ring object. -/
  | traceRing (rq : Request)
  /-- TRACE_LOAD_SAMPLE (R579). Every 1 ms the hub records a device LOAD trace record. -/
  | traceLoadSample (vddMv : Nat) (tj : Int) (mw : Nat)
  /-- JTAG_IDCODE (R584). The IDCODE instruction selects the 32-bit identification register. -/
  | jtagIdcode
  /-- JTAG_TRACE_REGION (R583). The TRACE_REGION instruction selects a trace region and resets the reader to its oldest record. -/
  | jtagTraceRegion (region : Nat)
  /-- JTAG_TRACE_READ (R583). The TRACE_READ instruction captures a copy of the next record of the selected region, or zeros. -/
  | jtagTraceRead
  /-- JTAG_BYPASS (R583). BYPASS, and every other instruction code, selects the one-bit bypass register. -/
  | jtagBypass (code : Nat)
  /-- PORT_LINK_CHANGE (R473). A 25G port's link comes up or goes down as its partner completes link training or drops, changing PORT_STATUS LINK and what the bridge and PTP port can carry. -/
  | portLinkChange (port : Nat) (up : Bool) (speed : Nat)
  /-- PEER_EMPTY_FRAME (R344). A peer-link frame with LINES = 0 arrives in a slot, carrying ACK_SEQ and NAK fields that free the replay buffer and can end a link fault as LINK_RESOLVED. -/
  | peerEmptyFrame (port : Nat) (f : PeerFrame)
  /-- MESH_ROUTER_MISMATCH (R571). A mesh router's logic mismatches its checking copy; the router continues on the copy and the flits in transit are dropped and their transfers fail. -/
  | meshRouterMismatch (router port : Nat) (hit : List (Nat × Nat × Nat × Nat))
  /-- STANDBY_PLL_FAILURE (R569). The standby root PLL fails its lock comparison and is reported FAILED in ROOT_PLL_STATE without interrupting work. -/
  | standbyPllFailure
  /-- DRAM_CHANNEL_LOST (R572). A DRAM channel is lost, the group's DRAM_GROUP_STATE reads FAILED, and every later access to the group is handled as an uncorrectable line. -/
  | dramChannelLost (group : Nat)
  /-- SYS_RESET_N_FALLING_EDGE (R598). SYS_RESET_N falls, starting the reset-pin timer and, in HIBERNATE, starting REFCLK so that the start can proceed at the rising edge. -/
  | sysResetNFallingEdge
  /-- HELD_REQUESTS_NEXT_SECOND (R550). At the next whole second, the session and block-transfer requests held after a partition's 16 refusals of that second are taken up again. -/
  | heldRequestsNextSecond
  /-- REGULATOR_LIMIT_REACHED (R513). The load on the always-on regulator reaches 90 % of the limit in force and REG_LIMIT_EVENTS is increased. -/
  | regulatorLimitReached
deriving DecidableEq, Repr

end Sys2Proof
end

