-- ==== Sys2Proof/Config.lean ====
section
/-! DEFINITION. The free values: what the spec leaves open, or fuses into the part without printing it.
None has a body, so nothing can be proved of the value any of them has. -/

namespace Sys2Proof.Config

/-- The k-th value the spec leaves open, as a number (assumption 3). -/
opaque freeNat : Nat → Nat

/-- The k-th value the spec leaves open, as a string of bytes: its byte at a place. -/
opaque freeByte : Nat → Nat → Byte

/-- Whether a signature over a message verifies under a public key (assumption 6). -/
opaque verifies : Bytes → Bytes → Bytes → Bool

/-- HMAC-SHA-384 under a key over a message: its byte at a place (R63, R532, assumption 6). -/
opaque hmac384 : Bytes → Bytes → Nat → Byte

/-- HKDF-SHA-384 of a secret, with a salt and an info string: its output byte at a place (R62, R527, R532, assumption 6). -/
opaque hkdf384 : Bytes → Bytes → Bytes → Nat → Byte

/-- The secret that ECDH over P-384 makes of a private scalar and a public key: its byte at a place (R62, R532, assumption 6). -/
opaque ecdh : Nat → Bytes → Nat → Byte

/-- The public key of a private scalar of P-384, uncompressed: its byte at a place (R62, R527, assumption 6). -/
opaque publicKey : Nat → Nat → Byte

/-- The ECDSA P-384 signature that a private scalar makes over a message: its byte at a place (R529, assumption 6). Signatures differ from
one use to the next by a number that the signer draws, the second operand. -/
opaque ecdsa : Nat → Nat → Bytes → Nat → Byte

/-- A byte of the device seed, which the factory writes into fuses (R527). -/
opaque deviceSeed : Nat → Byte

/-- What a firmware image says of itself: image, version, security version, and whether its signature verifies (R562, assumption 6). -/
opaque firmware : Bytes → Nat × Nat × Nat × Bool

/-- SHA-384 (assumption 6). -/
opaque sha384 : Bytes → Bytes

/-- Where the DRAM allocator puts the i-th 64 KiB extent of a placement: PA[36:16] (R318, assumption 7). -/
opaque extentAt : Nat → Nat → Nat

/-- Where the DRAM allocator puts the i-th 4 MiB frame of a placement: PA[36:22] (R318, assumption 7). -/
opaque frameAt : Nat → Nat → Nat

/-- A line of 128 bytes enciphered with AES-256-XTS: the KEY_CHECK that names the key, the line address, the line (R306, assumption 6). -/
opaque cipherLine : Nat → Nat → Bytes → Bytes

/-- What the softmax unit answers for an FP32 code, by function, where R95 gives it only a bound (assumption 8). -/
opaque unitResult : Nat → Nat → Nat

/-- The step-boundary term that a pattern of more than one step brings to a worst-case time, in ns (assumption 21). -/
opaque boundaryNs : Bytes → Nat

/-- The FP32 taps of a filter of the front end, by filter and tap (R391, R392, R397: 0 and 1 the half-bands, 2 the compensation FIR, 3
and 4 the network filters, 8 + r the beam-rate FIR of rate code r; 16 + q the gain of a CIC of ratio q) (assumption 9). -/
opaque firTap : Nat → Nat → Nat

/-- The FP32 taps of the interpolator, by set and tap (R396, assumption 9). -/
opaque interpTap : Nat → Nat → Nat

/-- The FP32 weight of a mel filter, by number of bands, band and bin (R401, assumption 9). -/
opaque melWeight : Nat → Nat → Nat → Nat

/-- The FP32 value of the periodic Hann window of 400 points at a point (R401, assumption 9). -/
opaque hannWindow : Nat → Nat

/-- The natural logarithm of an FP32 code, where R401 gives it only a bound (assumption 9). -/
opaque lnResult : Nat → Nat

/-- What a Tick model takes: its MACs per frame and its bytes of activations (R410, assumption 9). -/
opaque tickCost : Bytes → Nat × Nat

/-- A byte of a value that the part's fuses hold and the spec does not print, by object and place (assumption 3). -/
opaque fuseByte : Nat → Nat → Byte

/-- How long the control bus takes for a camera's settings, in ns: the protocol, SCL in kHz, the bytes of exposure and of gain, and whether
there is a group hold (R442, assumption 26). -/
opaque transferNs : Nat → Nat → Nat → Nat → Bool → Nat

/-- The demosaic filter: the value of a missing colour from the phase, the colour and the 25 samples of the neighbourhood, row by row
(R432, assumption 10). -/
opaque demosaic : Nat → Nat → List Nat → Nat

end Sys2Proof.Config
end

