-- ==== Sys2Proof/Machine/State.lean ====
section
/-! DEFINITION. All the state the spec gives the part, as plain data, and the state after reset: the
moment a cold start from power-on has completed (assumptions 1 and 2). The default of a field is its value
at reset. -/

namespace Sys2Proof.Machine

/-! ### Logs, sessions and the dictionary service (02_object_dictionary.md) -/

/-- One record of a log (R80). `atNs` is the time kept to the nanosecond (R81); `valid` says whether the
WHEN that it shows was valid. -/
structure LogRec where
  atNs : Nat
  valid : Bool
  code : Nat
  scope : Nat
  source : Nat
  repeats : Nat := 1
  detail : Bytes := []
deriving DecidableEq, Repr

/-- A log: a ring of records, newest first, and per view (0 to 7 the partitions, 8 the device) the
records written and overwritten since its CLEAR, and the records written since the start (R82). -/
structure Log where
  recs : List LogRec := []
  count : List Nat := List.replicate 9 0
  lost : List Nat := List.replicate 9 0
  total : List Nat := List.replicate 9 0
deriving DecidableEq, Repr

/-- Who a session or a subscription belongs to: an Ethernet session, the window of a PCIe function,
a TLS connection, or an address that uses session 0. -/
inductive Owner where
  | session (id : Nat)
  | fn (n : Nat)
  | tls (conn : Nat)
  | anon (src : Source)
deriving DecidableEq, Repr

/-- The classes a sender holds (R47) and where its answers go. -/
structure Who where
  owner : Owner
  source : Source
  tenant : Option Nat := none
  operator : Bool := false
  management : Bool := false
deriving DecidableEq, Repr

/-- An open session on an Ethernet transport (R62 to R66). `kept` is the window of R64: the last 64 accepted
SEQ and their responses, none while a request is in progress. `tenant` is none for an OPERATOR session. `key` is the session key. -/
structure Session where
  id : Nat
  source : Source
  tenant : Option Nat
  credential : Nat
  key : Bytes := []
  highest : Nat := 0
  kept : List (Nat × Option Frame) := []
  notifySeq : Nat := 0
  lastFrameNs : Nat := 0
deriving DecidableEq, Repr

/-- An open block transfer (R71 to R74). For a write, `value` holds the bytes received from offset 0, `lastSeq` the newest SEQ, `gap` says
that a segment has come beyond them, and `sinceAck` counts the segments since the last SEGMENT_ACK. For a read, `value` is the snapshot,
`sentTo` the next offset to send and `acked` the last NEXT_OFFSET. -/
structure Block where
  owner : Owner
  who : Who
  write : Bool
  part : Nat
  index : Nat
  sub : Nat
  typ : Nat
  total : Nat
  crc : Nat
  lastSeq : Nat := 0
  gap : Bool := false
  sinceAck : Nat := 0
  value : Bytes := []
  sentTo : Nat := 0
  acked : Nat := 0
deriving DecidableEq, Repr

/-- A notification sent and not yet answered (R76); `pos` is where it ends in a PCIe ring. -/
structure Unanswered where
  seq : Nat
  frame : Frame
  attempts : Nat := 1
  pos : Option Nat := none
deriving DecidableEq, Repr

/-- A subscription (R75, R76). -/
structure Subscription where
  id : Nat
  who : Who
  part : Nat
  index : Nat
  sub : Nat
  typ : Nat
  mode : Nat
  periodUs : Nat
  unanswered : List Unanswered := []
  last : Bytes := []
  held : Option Bytes := none
  queue : Bytes := []
  streamOffset : Nat := 0
deriving DecidableEq, Repr

/-- The Onnum window of one PCIe function (R60). -/
structure Window where
  reqPending : Bool := false
  reqBuf : Bytes := []
  rspBuf : Option Frame := none
  rspLen : Nat := 0
  ringBase : Nat := 0
  ringBytes : Nat := 0
  head : Nat := 0
  tail : Nat := 0
  overflow : Bool := false
  notifySeq : Nat := 0
deriving DecidableEq, Repr

/-- A write of a SAVED object waiting for its flash program (R51); `beginNs` is when its program begins (R549), and `braced`
says that a brace has held it. -/
structure Saving where
  request : Request
  who : Who
  part : Nat
  index : Nat
  sub : Nat
  value : Bytes
  beginNs : Nat := 0
  braced : Bool := false
deriving DecidableEq, Repr

/-- What a request that the part sent as an Onnum client asks for (R35, R36, R70). -/
inductive ClientPurpose where
  | readNode
  | openSession
  | subscribeTokens
  | answer
deriving DecidableEq, Repr

/-- A request of the part as an Onnum client, not yet answered (R70). An answering request has its value, and, once its first response has
come, the server's WINDOW and SEGMENT_SIZE and how far segments have been sent (R71). -/
structure ClientReq where
  id : Nat
  part : Nat
  purpose : ClientPurpose
  frame : Frame
  attempts : Nat := 1
  value : Bytes := []
  window : Nat := 0
  segSize : Nat := 0
  sentTo : Option Nat := none
deriving DecidableEq, Repr

/-- The dictionary service: sessions, block transfers, subscriptions, windows, saves and counts. `detail` is the
DETAIL that a check has found for the record of the abort it leads to; `signals` are the objects whose subscribers are
owed a notification (R371); `refused` counts by partition the refusals of R550 in a second, and `heldReqs` are the requests held to
the next second. `queued` are the requests that wait for an earlier one of their sender or of their object (R67), with whether a WRITE_BLOCK
carries its value whole. `notifySeqs` has the last SEQ of the NOTIFY frames to each sender that has neither a session nor a window (R64);
`closing` says that a descent has been accepted and the service has still to answer what it has accepted and to end (R69). -/
structure Service where
  sessions : List Session := []
  nextSession : Nat := 1
  tls : List Nat := []
  blocks : List Block := []
  subs : List Subscription := []
  nextSub : Nat := 1
  windows : List Window := List.replicate 9 {}
  saving : List Saving := []
  clients : List ClientReq := []
  nextClient : Nat := 1
  counts : List Nat := List.replicate 8 0
  latency : List Nat := List.replicate 16 0
  notifySeqs : List (Owner × Nat) := []
  windowSel : List (Owner × Nat × Nat × Nat) := []
  detail : Bytes := []
  signals : List (Nat × Nat × Nat) := []
  refused : List (Nat × Nat) := List.replicate 8 (0, 0)
  heldReqs : List (Request × Who) := []
  queued : List (Request × Who × Bool) := []
  closing : Bool := false
deriving DecidableEq, Repr

/-- What the part gives out: frames, interrupts, pin pulses and the like, newest first in `State.sent`. A frame of the part as an Onnum client
goes to a node by UDP to the address and port of GONG_SERVER_ADDR (R35); `bus` are writes of a camera's registers on its control bus (R441). -/
inductive Sent where
  | frame (dest : Source) (f : Frame)
  | client (node : Nat) (addr : Bytes) (f : Frame)
  | msix (fn vec : Nat)
  | pulse (pin : String) (ns : Nat)
  | ptp (port typ sequenceId : Nat) (correction : Int)
  | ether (port queue : Nat) (vid : Option Nat) (bytes : Bytes)
  | pcieRead (fn : Nat) (bytes : Bytes)
  | peer (port : Nat) (f : PeerFrame)
  | pcieError (fn : Nat)
  | audio (buffer : Nat) (bytes : Bytes)
  | bus (master address : Nat) (writes : List (Nat × Bytes))
deriving DecidableEq, Repr

/-- Which sessions reach an object (R47, R49, and the owners the chapters name). -/
inductive Acc where
  | pub | tenant | area | operator | management | slot | camera | rx | tx | trig | trigStatus | capture | cascade
deriving DecidableEq, Repr

/-- Where an object's value lives (R50). -/
inductive Persist where
  | volatile | saved | fuse
deriving DecidableEq, Repr

/-- A row of the object tables. An object stands at `base + i * stride + j * stride2`, subindexes `sub`
to `sub + subs - 1`. `mem` lists the type codes of a record's members, 0x100 + n for n octets. -/
structure ObjRow where
  name : String
  base : Nat
  stride : Nat := 1
  insts : Nat := 1
  stride2 : Nat := 1
  insts2 : Nat := 1
  sub : Nat
  subs : Nat := 1
  ty : Nat
  acc : Acc
  per : Persist
  wr : Bool := false
  rd : Bool := true
  mem : List Nat := []
  maxLen : Nat := 0
  dflt : List Nat := []
  lo : Nat := 0
  hi : Nat := 0
deriving DecidableEq, Repr

/-- An object a request has found: its row, its instance numbers and the partition it resolves to (R49). -/
structure Target where
  row : ObjRow
  i : Nat
  j : Nat
  part : Nat
  index : Nat
  sub : Nat
deriving DecidableEq, Repr

/-! ### Numbers (04_number_formats.md) -/

/-- The sticky flags of a stroke and its count of saturated elements (R129). -/
structure Flags where
  nanOut : Bool := false
  saturated : Bool := false
  intOverflow : Bool := false
  satCount : Nat := 0
deriving DecidableEq, Repr

/-- A number of any format, exactly: `num m e` is m × 2^e with m not 0 (R120 to R123). -/
inductive Num where
  | nan
  | inf (neg : Bool)
  | zero (neg : Bool)
  | num (m : Int) (e : Int)
deriving DecidableEq, Repr

/-- A floating-point layout (R120). `inf` says whether the top exponent holds infinities and NaNs, as IEEE 754
does; `topNan` whether, with none, the all-ones code is NaN (R121). -/
structure Flt where
  ebits : Nat
  mbits : Nat
  bias : Nat
  inf : Bool
  topNan : Bool := false
deriving DecidableEq, Repr

/-! ### Core slots, strokes and partitions (03, 05 and 12) -/

/-- What a stroke writes when it completes: bytes in the scratchpad (1), the working accumulator (2) or the
stream-state region (4) of a slot, or in an object (3) named by owner × 8192 + index. `tile` is the tile of the stroke that writes it (R146). -/
structure Write where
  space : Nat
  place : Nat
  addr : Nat
  bytes : Bytes
  tile : Nat := 0
deriving DecidableEq, Repr

/-- A stroke that has issued and has not completed (R87, R108). `units` are the units it holds: 0 transfer
engine, 1 MAC array, 2 element-wise pipeline, 3 page walker, 4 PWL unit, 5 softmax unit, 6 rotation unit. `holds` says that it keeps later
strokes of its context from issuing on the core (SYNC, WAIT_TIME). `marks` are the flags of R168 beside those of R129. `tiles` are its tiles and
`tile` the position reached: those before it have written their results (R107, R146). `resets` are the resets of stream state it has taken up. -/
structure Running where
  ctx : Nat
  core : Nat
  stroke : Nat
  word0 : Nat
  units : List Nat := []
  holds : Bool := false
  preempted : Bool := false
  writes : List Write := []
  signals : List (Nat × Nat × Nat) := []
  flags : Flags := {}
  marks : Nat := 0
  untilNs : Option Nat := none
  sync : Option (Nat × Nat) := none
  elements : Nat := 0
  peer : Option Nat := none
  tiles : Nat := 1
  tile : Nat := 0
  resets : List (Nat × Nat × Nat) := []
deriving DecidableEq, Repr

/-- A descriptor that a stream prefetcher holds (R163, R291), the stroke that gave it and the object its source
binding named; `block` is the next block to deliver. -/
structure Prefetcher where
  part : Nat
  ctx : Nat
  core : Nat
  desc : Bytes
  stroke : Nat
  handle : Nat
  block : Nat := 0
deriving DecidableEq, Repr

/-- A core slot (R109): 1 ACTIVE, 2 STANDBY, 3 RETIRED, 4 ABSENT; its memories, its token counters (8 for
each of 16 contexts), its stream prefetchers, the corrected errors of the last 24 h (row and time) and the rows marked
for having 16 of them (R112). `walked` are the entries of its page cache: the sequence object (owner × 8192 + index), the copy and the line (R234). -/
structure Slot where
  state : Nat
  part : Nat := 0xFF
  logical : Nat := 0xFF
  reason : Nat := 0
  whenNs : Nat := 0
  whenValid : Bool := false
  repairs : Nat := 0
  ceCount : Nat := 0
  counts : List Nat := List.replicate 6 0
  completions : Nat := 0
  marked : List Nat := []
  errors : List (Nat × Nat) := []
  spad : List Host.Cell := []
  acc : List Host.Cell := []
  stream : List Host.Cell := []
  buddy : List Host.Cell := []
  tokens : List Nat := List.replicate 128 0
  prefetchers : List (Option Prefetcher) := List.replicate 16 none
  walked : List (Nat × Nat × Nat) := []
deriving DecidableEq, Repr

/-- A replacement being taken into service (R114); `written` are the stream slots that the failed steps had written. -/
structure Replacement where
  part : Nat
  logical : Nat
  retired : Nat
  slot : Nat
  written : List Nat := []
deriving DecidableEq, Repr

/-- A pattern loaded into a context (R366): its handle and the container's bytes (R179). -/
structure Loaded where
  handle : Nat
  bytes : Bytes
deriving DecidableEq, Repr

/-- An accepted submission entry (R370); `gated` where its gate has been run (R289), and `moved` by how many ns the time has stepped since its
release (R462). -/
structure Submission where
  index : Nat
  seq : Nat
  bucket : Nat
  flags : Nat
  tag : Nat
  releaseNs : Nat
  overrides : List (Nat × Nat) := []
  malformed : Bool := false
  gated : Bool := false
  released : Option Nat := none
  deadline : Option Nat := none
  moved : Int := 0
deriving DecidableEq, Repr

/-- The strokes of a submission on one logical core: the indexes still to issue, and what has been done. `lastIssued` counts the strokes with LAST that have issued; `ranWide` are the layers that have run wide
(R218), `gate` the layer and entry of a gate stroke whose decision is awaited, and `wide` the layer and entry whose wide range runs, with its
first stroke and their count. `stalls` are the
causes of R326 under which the wait of the stroke at the head has been counted, and `queued` the entries of the stroke queue that hold the
first strokes of `todo` (R364). -/
structure CoreRun where
  core : Nat
  todo : List Nat
  ended : Bool := false
  steps : Nat := 0
  lastIssued : Nat := 0
  syncs : List (Nat × Nat) := []
  layers : List (Nat × Nat × Nat) := []
  rerun : Nat := 0
  ranWide : List Nat := []
  gate : Option (Nat × Nat) := none
  wide : Option (Nat × Nat × Nat × Nat) := none
  split : Bool := false
  stalls : List Nat := []
  queued : Nat := 0
deriving DecidableEq, Repr

/-- A row of a stream step as it was placed (R279): its slot, core and marks, and whether its slot is closed
or of another generation. -/
structure StreamRow where
  slot : Nat
  core : Nat
  marks : Nat
  released : Bool
deriving DecidableEq, Repr

/-- The submission in flight of a context (R157, R371). `stop` is the refusal or fault that ends it: code,
logical core, stroke index. `started` says that the step `step` has started; `awaiting` are the members whose outcome
it waits for (R254); `seqRows` are the sequences of the step (owner, index, flags), `publishes` the registered publishes
(owner, index, generation), `streamRows` the rows of a stream step, and `slotsWritten` and `resetsDone` what its
stream strokes have written and reset, and `chunkSlots` the slots its chunk has processed (R288). -/
structure Flight where
  sub : Submission
  binds : List (Nat × Nat)
  cores : List CoreRun
  step : Nat := 0
  ended : Nat := 0
  flags : Flags := {}
  marks : Nat := 0
  userValue : Nat := 0
  stop : Option (Nat × Nat × Nat) := none
  tripped : Bool := false
  rerun : Bool := false
  started : Bool := false
  awaiting : List Nat := []
  seqRows : List (Nat × Nat × Nat) := []
  publishes : List (Nat × Nat × Nat) := []
  streamRows : List StreamRow := []
  slotsWritten : List Nat := []
  resetsDone : List (Nat × Nat × Nat) := []
  sawReleased : Bool := false
  chunkSlots : List Nat := []
deriving DecidableEq, Repr

/-- The saturation record of a layer (0x2061, R213 to R218). -/
structure LayerStat where
  layer : Nat
  lastCode : Nat := 0
  elements : Nat := 0
  saturated : Nat := 0
  watches : Nat := 0
  trips : Nat := 0
  reruns : Nat := 0
  tripsNot : Nat := 0
  lastReason : Nat := 0
deriving DecidableEq, Repr

/-- A context of a partition (R362 to R378). `held` are the doorbells the urgent path holds (R378), `reload` the pattern
object whose load a wake owes the context (R420), `gating` the chunk that waits for its gate submission, with that
submission's code once it has completed (R289), `latency` the feature latency in ns that the release of chunk `chunkIndex` has, and `lastRelease` the release in ns of the chunk before
it (R287). -/
structure Context where
  pattern : Option Loaded := none
  binds : List (Nat × Nat) := []
  producer : Nat := 0
  cplProducer : Nat := 0
  queue : List Submission := []
  flight : Option Flight := none
  held : List Nat := []
  lastAcceptNs : Option Nat := none
  wcrt : Nat := 0
  lastDispatched : Nat := 0
  lastCompleted : Nat := 0
  lastCode : Nat := 0
  counts : List Nat := List.replicate 7 0
  layerStats : List LayerStat := []
  shortage : List Nat := [0, 0, 0, 0, 0]
  shortRows : List Nat := []
  chunkIndex : Nat := 0
  latency : Option Nat := none
  lastRelease : Nat := 0
  reload : Option Nat := none
  gating : Option (Nat × Option Nat) := none
deriving DecidableEq, Repr

/-- A partition (R359 to R361): 0 UNDEFINED, 1 STOPPED, 2 RUNNING, 3 LOST, 4 RESETTING, 5 STOPPING. `map`
gives the slot of each logical core, none where it is unbacked. -/
structure Partition where
  state : Nat := 0
  earlier : Nat := 0
  resetGen : Nat := 0
  map : List (Option Nat) := []
  mapGen : Nat := 0
  ctxs : List Context := List.replicate 16 {}
  running : List Running := []
  counts : List Nat := List.replicate 13 0
  kvCounts : List Nat := List.replicate 9 0
  streamCounts : List Nat := List.replicate 12 0
  stalls : List (Nat × Nat) := List.replicate 8 (0, 0)
deriving DecidableEq, Repr

/-! ### Recurrent streams (09_recurrent_streams.md) -/

/-- A stream slot (R256 to R262, 0x4000). `home` is its logical core, or the last it had; `move` a registered
move, its destination and the stroke that asked for it; `gate` 0 none, 1 closed, 2 open; `low` and `closedFor` count
the chunks that R289 counts. -/
structure StreamSlot where
  opened : Bool := false
  home : Nat := 0
  gen : Nat := 0
  record : Nat := 0
  buddyValid : Bool := false
  gate : Nat := 0
  low : Nat := 0
  closedFor : Nat := 0
  lastCode : Nat := 0
  chunks : Nat := 0
  resets : Nat := 0
  ends : Nat := 0
  moves : Nat := 0
  restores : Nat := 0
  late : Nat := 0
  move : Option (Nat × Option (Nat × Nat × Nat)) := none
  closing : Bool := false
deriving DecidableEq, Repr

/-! ### Objects (10_memory_tiers.md) -/

/-- A claim of a partition on an object (R321 to R323): level 1 DRAM, 2 CACHE. `release` marks a release
that waits for the claim to complete. -/
structure Claim where
  part : Nat
  level : Nat
  done : Bool := false
  release : Bool := false
  held : Bool := false
deriving DecidableEq, Repr

/-- An object (R316 to R320): kind 1 SEALED, 2 WORKING, 3 KV_SEQUENCE, 4 KV_POOL; state 1 LOADING,
2 SEALING, 3 READY, 4 DAMAGED, 5 RETAINED, 6 DELETING. `keyCheck` is the KEY_CHECK in force at its creation
(R534), `place` names the allocator's placement of its extents, and `pages` holds reference count × 65,536 +
generation of each page of a pool (R225). -/
structure Obj where
  owner : Nat
  index : Nat
  gen : Nat
  kind : Nat
  state : Nat
  pinnable : Bool := false
  size : Nat
  allocated : Nat := 0
  residence : Nat := 2
  pub : Bool := false
  keyId : Nat := 0
  digest : Bytes := []
  sig : Bytes := []
  keyCheck : Option Nat := none
  place : Nat := 0
  pages : List (Nat × Nat) := []
  claims : List Claim := []
  deleting : Bool := false
  content : List Host.Cell := []
deriving DecidableEq, Repr

/-- A DRAM group (R307, R308): the lanes steered to its spares, its failed lanes, its STATE, its counts, the lines that patrol
has rewritten, and its corrected errors by lane (within an hour) and by row (within 24 h), each with its time. -/
structure DramGroup where
  spares : List Nat := [0xFF, 0xFF]
  failed : Nat := 0
  state : Nat := 1
  corrected : Nat := 0
  uncorrectable : Nat := 0
  patrol : List (Nat × Nat) := []
  laneErrors : List (Nat × Nat) := []
  rowErrors : List (Nat × Nat) := []
  marked : List Nat := []
deriving DecidableEq, Repr

/-- A line of the shared cache (R294, R296): its line address, the partition that placed it, its way, whether it is dirty, and the handle
of the object that it is a line of. -/
structure CacheLine where
  a : Nat
  part : Nat
  way : Nat
  dirty : Bool := false
  obj : Nat
deriving DecidableEq, Repr

/-- The flash translation layer (R309 to R315). `map` takes a page of user space to its raw page, `saved` is the map at the last checkpoint;
`used` are the blocks that are not free, each with its pages programmed; `opened` are the 16 blocks, one of each die, that the next stripe of
pages goes to, `row` its place in them and `next` its next page; `reads` counts reads by block, and `rewrite` are the pages that a
rebuild has restored. A raw page is a block × 1,024 + a page, and a block a die × 8,192 + its place in the die. -/
structure Flash where
  map : List (Nat × Nat) := []
  saved : List (Nat × Nat) := []
  used : List (Nat × Nat) := []
  opened : List Nat := []
  row : Nat := 0
  next : Nat := 0
  reads : List (Nat × Nat) := []
  rewrite : List Nat := []
deriving DecidableEq, Repr

/-- The memory tiers: the ways in force (R295), SLICE_STATE, the DRAM groups and the refresh period (R305), the flash with its window, the
erase counts of its blocks, those that are bad, and its totals (R309 to R315), and the cache's lines, the most recently used first (R296). `refetch` are the
SEALED objects with a line being fetched again, each with the partition that waits for it, and `erasing` the placements of erased objects that
patrol has still to overwrite, with their bytes and the time (R324). -/
structure Tiers where
  ways : List Nat := List.replicate 8 0
  lines : List CacheLine := []
  flash : Flash := {}
  erasing : List (Nat × Nat × Nat) := []
  slices : List Nat := ((List.range 16).map fun n => 1 + 8 * n) ++ [2 + 8 * 31]
  groups : List DramGroup := List.replicate 8 {}
  hot : Bool := false
  refetch : List (Nat × Nat) := []
  windowOpen : Bool := false
  windowAtNs : Nat := 0
  erases : List (Nat × Nat) := []
  badBlocks : List Nat := []
  disturbed : Nat := 0
  rebuilt : Nat := 0
deriving DecidableEq, Repr

/-! ### Peer links (11_mesh_and_peer_links.md) -/

/-- A peer-link port (R341 to R347): 1 DOWN, 2 TRAINING, 3 UP, 4 RETRY, 5 LANE_SWITCH, 6 RETRAIN, 7 FAILED, 8 DISABLED.
`rxSeq` is the last LINK_SEQ received in order, `txSeq` the last sent; `replay` the frames not yet acknowledged and
`held` those that wait; `gap` says that frames are discarded until the expected one comes, `nak` that the next frame
carries NAK; `faultUpTo` the last frame outstanding at the first error of an open fault. -/
structure PeerPort where
  state : Nat := 8
  partnerNode : Nat := 0
  partnerPort : Nat := 0
  lanes : Nat := 0
  laneStates : List Nat := List.replicate 5 60
  counts : List Nat := List.replicate 10 0
  rxSeq : Nat := 0
  txSeq : Nat := 0
  replay : List PeerFrame := []
  held : List PeerFrame := []
  gap : Bool := false
  nak : Bool := false
  attempts : Nat := 0
  faultUpTo : Option Nat := none
deriving DecidableEq, Repr

/-- A PEER_SEND or PEER_REDUCE in progress (R352, R353). `members` are those of the collective, `own` this member's
elements, `got` what has been gathered, `inChain` and `inOut` the XFER_SEQ of the chain and of the result that have begun to
come (0 for none), `place` and `addr` where D lies, and `down` the failed links that its routes go round (R350). -/
structure Coll where
  p : Nat
  c : Nat
  core : Nat
  stroke : Nat
  pair : Nat
  xferSeq : Nat
  reduce : Bool
  kind : Nat := 0
  members : List Nat
  words : List Nat := []
  own : Bytes := []
  got : Bytes := []
  frames : Nat := 0
  chained : Bool := false
  inChain : Nat := 0
  inOut : Nat := 0
  place : Nat := 0
  addr : Nat := 0
  flags : Flags := {}
  extended : Bool := false
  down : List (Nat × Nat) := []
deriving DecidableEq, Repr

/-- The peer links, the mesh's counts and the constellation in force, with its lead member. `pairs` is PEER_PAIR in force: pair, partition,
context and members. `down` are the failed links known, as member and port. Lists by pair and member are keyed by
pair × 16 + member; `lastIn` has the last SEND of each under 1,024 more. -/
structure Peers where
  id : Nat := 0
  topology : Nat := 0
  members : Nat := 0
  index : Nat := 0
  lead : Nat := 0
  pairs : List (Nat × Nat × Nat × Nat) := []
  ports : List PeerPort := List.replicate 4 {}
  down : List (Nat × Nat) := []
  sentSeq : List (Nat × Nat) := []
  lastIn : List (Nat × Nat) := []
  aborted : List (Nat × Nat) := []
  refused : List (Nat × Nat) := []
  inbox : List PeerFrame := []
  colls : List Coll := []
  outcomes : List (Nat × Nat × Nat) := []
  counts : List (List Nat) := List.replicate 8 (List.replicate 7 0)
  meshErrors : List Nat := [0, 0]
  recoveryCopies : Nat := 0
deriving DecidableEq, Repr

/-! ### Microphones, beams and the Tchirix die (13_acoustic_front_end.md). Samples are FP32 codes. -/

/-- Consecutive samples: `next` is the index after the newest, `words` has the newest first. -/
structure Track where
  next : Nat := 0
  words : List Nat := []
deriving DecidableEq, Repr

/-- The chains of one PDM clock (R390 to R392): whether it runs, its first tick S0, whether the settle time is over and its
end S, the next output index, the bits still to be passed over before its first output's (`skip`), and the bits not yet used, per
input. -/
structure Chain where
  running : Bool := true
  s0 : Nat := 68726784
  settled : Bool := false
  s : Nat := 0
  next : Nat := 0
  skip : Nat := 0
  bits : List (List Nat) := []
deriving DecidableEq, Repr

/-- A wake record (R421). -/
structure WakeRec where
  seq : Nat
  epoch : Nat
  mode : Nat
  outcome : Nat := 0
  flags : Nat
  beam : Nat := 0xFF
  score : Nat
  start : Nat
  stop : Nat
  chime : Nat
  forward : Nat
  arrayValid : Nat
  beamValid : Nat
  switch : Nat
  atNs : Nat
  valid : Bool
  switchNs : Option Nat := none
deriving DecidableEq, Repr

/-- A feed (R405 to R408): whether it delivers, its next block and that block's first index, the wake record that it
follows (0 for none), and the index at which its candidate was decided. -/
structure Feed where
  on : Bool := false
  block : Nat := 0
  index : Nat := 0
  cand : Nat := 0
  fresh : Bool := false
  gap : Bool := false
  confirmed : Bool := false
deriving DecidableEq, Repr

/-- The acoustic front end and the Tchirix die. `phase` counts the 50ths of an AUDCLK tick; `micFailed` are the failed inputs
(0 to 31 the array, 32 the listening input, 33 the spare); `lines` are the array inputs at 48 kHz, `arrayRows` at the array's
own rate, `beams48` the beams before their rate filter, `history` the 17 rows of R404, `preroll` the ring of R409; `table`
is the beam table in force and `waiting` one committed with its APPLY_INDEX; `held` is the SEQ of the candidate held; `gaps`
are the row-0 indices flagged GAP, and `lateAt` the 48 kHz indices whose beams missed a network sample; `features` holds the frames computed, by source, newest first. -/
structure Afe where
  atc : Nat := 68726784
  phase : Nat := 0
  epoch : Nat := 1
  map : Option (Nat × Nat × Nat) := none
  ratio : Nat := 0
  rateRange : Bool := false
  spare : Bool := false
  micFailed : List Nat := []
  array : Chain := {}
  arrayOwn : Chain := {}
  tcx : Chain := {}
  lines : List Track := List.replicate 32 {}
  arrayRows : List Track := List.replicate 32 {}
  beams48 : List Track := List.replicate 16 {}
  history : List Track := List.replicate 17 {}
  preroll : Track := {}
  gaps : List (Nat × Nat) := []
  table : Bytes := []
  waiting : Option (Nat × Bytes) := none
  tableGen : Nat := 0
  applied : Nat := 0
  netLate : Nat := 0
  lateAt : List Nat := []
  wakes : List WakeRec := []
  wakeSeq : Nat := 0
  held : Option Nat := none
  feeds : List Feed := List.replicate 16 {}
  played : List Nat := List.replicate 16 0
  features : List (Nat × List (Nat × Bytes)) := []
  counts : List Nat := List.replicate 7 0
deriving DecidableEq, Repr

/-! ### Cameras (14_image_pipeline.md) -/

/-- A line of a frame: its samples shifted to 14 bits, and whether it is a real line (R427). -/
structure CamLine where
  samples : List Nat
  real : Bool := true
deriving DecidableEq, Repr

/-- A frame that has started and has not been published: FRAME_SEQ, the frame number of its FS, its flags (R436), the lines that
have arrived, those that the pipeline has taken, whether it is closed, its times in ns, and the settings taken at its FS: the
ISP controls, STATS_GRID and the four OUT_CFG. `slots` are the ring slots of its outputs. -/
structure CamFrame where
  seq : Nat
  csi : Nat
  flags : Nat := 0
  arrived : Nat := 0
  lines : List CamLine := []
  closed : Bool := false
  dropped : Bool := false
  replaced : Nat := 0
  crcLines : Nat := 0
  fsNs : Nat
  feNs : Nat := 0
  triggerNs : Option Nat := none
  valid : Bool
  ctl : List Bytes
  slots : List (Option Nat) := []
deriving DecidableEq, Repr

/-- A value of a settings request: its generation, the value, and the slots in which it has failed (R441, R442). -/
structure CamSetting where
  gen : Nat
  value : Nat
  failed : Nat := 0
deriving DecidableEq, Repr

/-- A camera: STATE, the frames since it was enabled, its line FIFO (frame, line), the frame that receives lines, the frames not
yet published, what waits for a slot and what the open slot sends (exposure, gain), the settings that have taken effect with
the frame from which they hold, the next ring slot of each output, and the drops since the last published frame. -/
structure Camera where
  state : Nat := 0
  seq : Nat := 0
  fifo : List (Nat × CamLine) := []
  recving : Option Nat := none
  frames : List CamFrame := []
  waitE : Option CamSetting := none
  waitG : Option CamSetting := none
  slotSeq : Nat := 0
  slotE : Option CamSetting := none
  slotG : Option CamSetting := none
  effE : List (Nat × CamSetting) := []
  effG : List (Nat × CamSetting) := []
  rewrite : Bool := false
  lastGen : Nat := 0
  sentGen : Nat := 0
  replacedReqs : Nat := 0
  failedReqs : Nat := 0
  ctrlCode : Nat := 0
  outIdx : List Nat := [0, 0, 0, 0]
  drops : List (Nat × Nat) := []
  lastCode : Nat := 0
  lastFsNs : Nat := 0
  periodNs : Nat := 0
  counts : List Nat := List.replicate 15 0
deriving DecidableEq, Repr

/-- The image pipeline: its cameras, and the camera it served last. -/
structure Image where
  cams : List Camera := List.replicate 8 {}
  served : Nat := 7
deriving DecidableEq, Repr

/-! ### Meridian (15_meridian_time.md). Times are counts of 2⁻³² ns, as NS112 is (R447). -/

/-- A time message kept for its companion: a two-step Sync, a Delay_Req or Pdelay_Req of the part, a
Pdelay_Resp, or the residence of a Sync that crossed the bridge (R457, R458, R463). -/
structure PtpKept where
  typ : Nat
  port : Nat
  source : Nat
  sequenceId : Nat
  stamp : Nat
  correction : Int := 0
  origin : Nat := 0
deriving DecidableEq, Repr

/-- A master heard of (R455). -/
structure Master where
  port : Nat
  identity : Nat
  data : Announce
deriving DecidableEq, Repr

/-- A 25G port as the ordinary clock sees it: 0x1620. -/
structure PtpPort where
  state : Nat := 1
  linkDelay : Rat := 0
  delays : List Rat := []
deriving DecidableEq, Repr

/-- A trigger unit (R466 to R469): STATE and its target T. -/
structure Trigger where
  state : Nat := 0
  target : Nat := 0
  firings : Nat := 0
  skipped : Nat := 0
  overruns : Nat := 0
  lastFired : Option Nat := none
  enabledAt : Nat := 0
deriving DecidableEq, Repr

/-- A capture unit (R470, R471): its undelivered records and its counts. -/
structure Capture where
  undelivered : List Bytes := []
  seq : Nat := 0
  events : Nat := 0
  lost : Nat := 0
  lostBefore : Bool := false
  lastAt : Option Nat := none
deriving DecidableEq, Repr

/-- The time unit. `freq` and `phase` are F and P of R459. -/
structure Meridian where
  ns112 : Nat := 2800000000 * 2 ^ 32
  increment : Nat := 0x271000000
  secns : Nat := 2800000000 * 2 ^ 32
  secInc : Nat := 0x28B0AAAAAB
  nsInForce : Bool := true
  state : Nat := 0
  generation : Nat := 0
  freq : Rat := 0
  phase : Rat := 0
  thetas : List (Rat × Nat) := []
  offset : Rat := 0
  paths : List Rat := []
  syncDelta : Option Rat := none
  insideRun : Nat := 0
  beyond : Nat := 0
  largeLogged : Bool := false
  firstOffset : Bool := true
  sleepPpb : Int := 0
  ports : List PtpPort := [{}, {}]
  masters : List Master := []
  parent : Option Master := none
  keptPtp : List PtpKept := []
  ptpSeq : Nat := 0
  counts : List Nat := List.replicate 12 0
  triggers : List Trigger := List.replicate 16 {}
  captures : List Capture := List.replicate 16 {}
deriving DecidableEq, Repr

/-! ### Ports, bridge, AES67 and PCIe (16_network_and_host_ports.md) -/

/-- A 25G port: its link and what it runs at, and the speed that auto is trying (R473). -/
structure NetPort where
  link : Bool := false
  speed : Nat := 0
  fec : Bool := false
  trying : Nat := 1
deriving DecidableEq, Repr

/-- A learned address (R475). -/
structure MacEntry where
  vid : Nat
  mac : Nat
  port : Nat
  atNs : Nat
deriving DecidableEq, Repr

/-- A receive channel (R479 to R482): the SSRC and the sequence numbers received, the samples that have arrived and wait
for their release, by index at the stream's rate, the next index to release, what has been released (`raw` at 96 kHz, where the stream has that rate, and `released` at 48 kHz), and its counts: packets,
late, concealed, duplicates, malformed, changes of SSRC. -/
structure RxChannel where
  ssrc : Option Nat := none
  seqs : List Nat := []
  got : List (Nat × Nat) := []
  next : Option Nat := none
  released : Track := {}
  raw : Track := {}
  concealing : Bool := false
  counts : List Nat := List.replicate 6 0
deriving DecidableEq, Repr

/-- A transmit channel (R485): m0, the samples sent, the PCM24 codes left of the block of its ring in use, the blocks used, its next RTP sequence number,
and PACKETS and TX_UNDERRUN. -/
structure TxChannel where
  m0 : Option Nat := none
  sent : Nat := 0
  rest : List Nat := []
  block : Nat := 0
  rtpSeq : Nat := 0
  counts : List Nat := [0, 0]
deriving DecidableEq, Repr

/-- The ports. `apertures` holds HANDLE and OFFSET by function × 4 + k (R489); `counts` are BRIDGE_COUNTS, six per port. -/
structure Net where
  ports : List NetPort := [{}, {}]
  macs : List MacEntry := []
  counts : List Nat := List.replicate 12 0
  rx : List (Nat × RxChannel) := []
  tx : List (Nat × TxChannel) := []
  groups : List (Nat × Nat × Nat) := []
  pcieUp : Bool := false
  busMaster : Bool := false
  gts : Nat := 0
  width : Nat := 0
  vfs : Nat := 0
  aer : List Nat := [0, 0]
  apertures : List (Nat × Nat × Nat) := []
deriving DecidableEq, Repr

/-! ### Power (17_power.md) and the cascade (01_roles_and_cascade.md) -/

/-- The power manager and the mode sequencer. `down` is a descent that has been accepted, its target and its ORIGIN; `up` the
target of a wake from below ATTEND that has started; `refused` the refuser and the target of an idle descent that waits to be
tried again (R510); `wanted` a requested descent that waits for an ascent (R507); `retries` the failed attempts of the wake in progress, `failed` that it waits to be retried; `store` the
records of R512, each with the log it belongs to (0 error, 1 refusal), and `storeLost` what it has dropped; `shortHold` says
that the part entered ATTEND from below for a candidate (1) and that Chime rejected it (2); `slowed` that a brace or an
emergency held in this second; `since` when the transition in progress started, in 2⁻³² ns; `plan` the claims of the wake plan (partition,
handle, level), `rings` the rings to make again (partition, context, subindex, size, consumer index) and `outs` the output objects of
CHIME_CAMERA (camera, output, size, whether pinnable); `view` holds THROTTLED_WINDOWS, THROTTLE_CYCLES and SLOWED_SECONDS of each partition. -/
structure Power where
  down : Option (Nat × Nat) := none
  up : Option Nat := none
  refused : Option (Nat × Nat) := none
  wanted : Option Nat := none
  retries : Nat := 0
  failed : Bool := false
  store : List (Nat × LogRec) := []
  storeLost : List Nat := [0, 0]
  shortHold : Nat := 0
  braced : Bool := false
  emergency : Bool := false
  emergencyAtNs : Nat := 0
  slowed : Bool := false
  tripped : Bool := false
  since : Nat := 0
  plan : List (Nat × Nat × Nat) := []
  rings : List (Nat × Nat × Nat × Nat × Nat) := []
  outs : List (Nat × Nat × Nat × Bool) := []
  duty : List Nat := List.replicate 8 16
  view : List (List Nat) := List.replicate 8 [0, 0, 0]
  counts : List Nat := [0, 0, 0, 0, 1, 0, 0, 0, 0, 0, 0, 0]
deriving DecidableEq, Repr

/-- The cascade: WAKE_COUNTS, the promotions still owed (0 Chime, 1 Bell, 2 Gong), the partition and handle of the one in progress, and
whether Gong's may start; the answering requests queued and served, by partition, each with whether it is the part's own and its
bytes; and the part as a Gong client: its session with its key, the private scalar of the ephemeral key of the SESSION_OPEN that it has sent,
the SEQ of the notifications it has relayed, whether the server's identity has been read since the entry to ATTEND, the requests that wait
for it, and the codes with which its requests
have completed, newest first. `clientKey` is the private scalar of each partition's client key. -/
structure Cascade where
  wakeCounts : List Nat := [0, 0, 0, 0]
  owed : List Nat := []
  promoting : Option (Nat × Nat) := none
  gongAsked : Bool := false
  answers : List (List (Bool × Bytes)) := List.replicate 8 []
  serving : List (Option (Bool × Bytes)) := List.replicate 8 none
  session : Option Nat := none
  sessionKey : Bytes := []
  ephemeral : Nat := 0
  tokenSeqs : List Nat := []
  contacted : Bool := false
  waiting : List Bytes := []
  bellDone : List Nat := []
  clientKey : List (Option Nat) := List.replicate 8 none
deriving DecidableEq, Repr

/-! ### Security and tenants (18_security_and_isolation.md) -/

/-- The security block's own state beside the key slots. `scrubbing` is the origin (1 operator, 2 tenant) of a tenant scrub whose
saved defaults are being programmed; `epochs` are the TENANT_EPOCH values, the scrubs since manufacture; `nonces` the unconsumed
nonces (R542), each with who wrote it and the partition it asks about, or 0xFF; `counts` those of SECURITY_COUNTS. -/
structure Security where
  scrubbing : List (Option Nat) := List.replicate 8 none
  epochs : List Nat := List.replicate 8 0
  nonces : List (Owner × Nat × Bytes) := []
  counts : List Nat := List.replicate 6 0
deriving DecidableEq, Repr

/-! ### Starts, resets and recovery (19_startup_reset_and_ras.md) -/

/-- A bank of a firmware image (R562); `digest` is none for the image that the part left the factory with. -/
structure Bank where
  version : Nat := 0
  secVersion : Nat := 0
  digest : Option Bytes := none
deriving DecidableEq, Repr

/-- A firmware image: its banks, the bank named in force, and the bank that runs. -/
structure FwImage where
  a : Bank := {}
  b : Bank := {}
  inForce : Nat := 0
  running : Nat := 0
deriving DecidableEq, Repr

/-- Starts and recovery. `cold` is the reason of a cold start that has begun and not completed, `held` that it waits for the minimum
temperature (R603), `holdMs` how long it held, `recovery` that it serves the recovery dictionary (R563); `asked` is a reset that a
write has just asked for and `deferred` one that waits (R555), each its reason and whether it is cold. `counts` are those of
RECOVERY_COUNTS; `mcus` and `plls` give STATE and DUTY of R567; `images` the firmware images in the order of R562 and `staged` those
staged and not committed; `training` the junction temperature in 0.1 °C, the time and the kind of each DRAM group's training. -/
structure Ras where
  reason : Nat := 0x0D01
  kind : Nat := 1
  coldStarts : Nat := 1
  warmStarts : Nat := 0
  startNs : Int := 2800000000
  timesKey : Nat := 0
  cold : Option Nat := none
  held : Bool := false
  holdMs : Nat := 0
  recovery : Bool := false
  asked : Option (Nat × Bool) := none
  deferred : Option (Nat × Bool) := none
  pinLow : Bool := false
  refclk : Bool := false
  counts : List Nat := List.replicate 6 0
  mcus : List (Nat × Nat) := [(1, 0), (1, 1), (1, 2), (1, 3), (2, 7)]
  plls : List Nat := [1, 2]
  images : List FwImage := List.replicate 4 {}
  staged : List Nat := []
  training : List (Int × Option Nat × Nat) := List.replicate 8 (0, none, 1)
  savedGen : Nat := 0
  savedCopy : Nat := 0
  defaultsUsed : Bool := false
deriving DecidableEq, Repr

/-! ### Trace (20_trace_and_counters.md) -/

/-- A region of the trace hub (R576 to R578): its records with their SEQ and whether the partition consented to their export (R580),
oldest first, and how far each drain has come. -/
structure TraceRegion where
  seq : Nat := 0
  recs : List (Nat × Bytes × Bool) := []
  captured : Nat := 0
  dropped : Nat := 0
  ringDropped : Nat := 0
  streamDropped : Nat := 0
  lostBefore : Bool := false
  ringNext : Nat := 0
  streamNext : Nat := 0
deriving DecidableEq, Repr

/-- The trace hub and the debug port's reader (R576, R583). `ir` is the instruction register of the TAP. -/
structure TraceHub where
  regions : List TraceRegion := List.replicate 9 {}
  ir : Nat := 1
  jtagRegion : Nat := 0
  jtagNext : Nat := 0
  jtagData : Nat := 0
deriving DecidableEq, Repr

/-! ### The whole -/

/-- A fault stops the model. The part has none: no frame, event or arithmetic result stops it (R78, R83,
R121), so no meaning of the model raises one. -/
inductive Fault where
  /-- Raised by no meaning. Safe: a stop claims nothing. -/
  | stopped (why : String)
deriving DecidableEq, Repr

/-- A refusal of the model to give a command a meaning. -/
inductive Refusal where
  /-- Raised by an arm of `exec` whose command has no meaning yet. Safe. -/
  | notModelled (mnemonic : String)
deriving DecidableEq, Repr

/-- The state of the block. `pending`, `sent` and `freeCount` are the model's own: the commands that
wait, what the part has given out (newest first), and the counter the free values are drawn by. `ascend` says that a
reason to enter ACTIVE stands (R497). -/
structure State where
  pending : List Instr := []
  sent : List Sent := []
  freeCount : Nat := 0
  mode : Nat := 4
  serving : Bool := true
  dict : List (Nat × Bytes) := []
  errorLog : Log := {}
  violationLog : Log := {}
  refusalLog : Log := {}
  svc : Service := {}
  time : Meridian := {}
  slots : List Slot := (List.range 72).map fun n => { state := if n < 64 then 1 else 2 }
  coreMapGen : Nat := 0
  replacing : List Replacement := []
  accStreamKib : Nat := 384
  streamBytes : Nat := 24576
  streams : List (Nat × StreamSlot) := []
  parts : List Partition := List.replicate 8 {}
  objects : List Obj := []
  objGens : List (Nat × Nat) := []
  trace : TraceHub := {}
  peer : Peers := {}
  keys : List (Option Nat) := List.replicate 8 none
  tileCapRefusals : Nat := 0
  tiers : Tiers := {}
  ascend : Bool := false
  afe : Afe := {}
  net : Net := {}
  image : Image := {}
  power : Power := {}
  cascade : Cascade := {}
  sec : Security := {}
  ras : Ras := {}
deriving DecidableEq, Repr

/-- The part right after a cold start from power-on (R557). -/
def State.reset : State := {}

end Sys2Proof.Machine
end

