-- ==== Sys2Proof/Machine/Ops.lean ====
section
/-! DEFINITION. The operations every family shares: fields and byte orders, memory in canonical form,
the free values, the clock in force and the logs. -/

namespace Sys2Proof.Machine

/-! ### Fields and byte orders (R19) -/

/-- The low byte of a number. -/
def byteOf (n : Nat) : Byte := BitVec.ofNat 8 n

/-- `n` bytes of a number, most significant first (network byte order). -/
def be : Nat → Nat → Bytes
  | 0, _ => []
  | n + 1, v => byteOf (v / 256 ^ n) :: be n v

/-- `n` bytes of a number, least significant first. -/
def le : Nat → Nat → Bytes
  | 0, _ => []
  | n + 1, v => byteOf v :: le n (v / 256)

/-- The number that bytes in network byte order spell. -/
def ofBE (b : Bytes) : Nat := b.foldl (fun a x => a * 256 + x.toNat) 0

/-- The number that little-endian bytes spell. -/
def ofLE : Bytes → Nat
  | [] => 0
  | b :: r => b.toNat + 256 * ofLE r

/-- The field [hi:lo] of a word. -/
def bits (w hi lo : Nat) : Nat := (w / 2 ^ lo) % 2 ^ (hi + 1 - lo)

/-- A w-bit field read as two's complement. -/
def signed (w n : Nat) : Int := if n % 2 ^ w < 2 ^ (w - 1) then (n % 2 ^ w : Nat) else ((n % 2 ^ w : Nat) : Int) - (2 ^ w : Nat)

/-- An integer as a w-bit two's complement field. -/
def unsigned (w : Nat) (i : Int) : Nat := (i % (2 ^ w : Nat)).toNat

/-- `n` bytes of a string from an offset, zeros beyond its end. -/
def slice (b : Bytes) (off n : Nat) : Bytes := (List.range n).map fun i => b.getD (off + i) 0

/-- 1 for TRUE, 0 for FALSE. -/
def b01 (b : Bool) : Nat := if b then 1 else 0

/-- An integer held between two bounds. -/
def clampInt (lo hi i : Int) : Int := if i < lo then lo else if hi < i then hi else i

/-- Rounds a rational to the nearest integer, ties to even. -/
def roundEven (q : Rat) : Int :=
  let f := q.floor
  let d := q - f
  if d < 1 / 2 then f else if 1 / 2 < d then f + 1 else if f % 2 = 0 then f else f + 1

/-- Adds 1 to one of a list of counts. -/
def bump (l : List Nat) (i : Nat) : List Nat := l.modify i (· + 1)

/-- Adds an amount to one of a list of counts. -/
def bumpBy (l : List Nat) (i n : Nat) : List Nat := l.modify i (· + n)

/-- One bit of the CRC-32 of IEEE 802.3, least significant bit first. -/
def crcBit (c : Nat) : Nat := if c % 2 = 1 then c / 2 ^^^ 0xEDB88320 else c / 2

/-- The CRC-32 of IEEE 802.3. -/
def crc32 (b : Bytes) : Nat :=
  (b.foldl (fun c x => (List.range 8).foldl (fun c _ => crcBit c) (c ^^^ x.toNat)) 0xFFFFFFFF) ^^^ 0xFFFFFFFF

/-! ### Memory: pairs of address and byte, addresses rising, no entry zero (assumption 4) -/

/-- One byte; an address not listed reads as zero. -/
def memGet : List Host.Cell → Nat → Byte
  | [], _ => 0
  | (k, b) :: r, a => if k = a then b else memGet r a

/-- Stores one byte, keeping the canonical form. -/
def memSet : List Host.Cell → Nat → Byte → List Host.Cell
  | [], a, b => if b = 0 then [] else [(a, b)]
  | (k, c) :: r, a, b =>
    if a < k then (if b = 0 then (k, c) :: r else (a, b) :: (k, c) :: r)
    else if a = k then (if b = 0 then r else (a, b) :: r)
    else (k, c) :: memSet r a b

/-- The canonical form: addresses strictly rising, no byte equal to what an unlisted address reads as. -/
def memWf : List Host.Cell → Bool
  | [] => true
  | [(_, b)] => b != 0
  | (k, b) :: (j, c) :: r => b != 0 && k < j && memWf ((j, c) :: r)

/-- `n` bytes from an address. -/
def memRead (m : List Host.Cell) (a n : Nat) : Bytes := (List.range n).map fun i => memGet m (a + i)

/-- Stores bytes from an address. -/
def memWrite : List Host.Cell → Nat → Bytes → List Host.Cell
  | m, _, [] => m
  | m, a, b :: r => memWrite (memSet m a b) (a + 1) r

/-- Bytes from the start of a memory. -/
def memOf (b : Bytes) : List Host.Cell := memWrite [] 0 b

/-! ### Values by key, keys rising -/

/-- The value a key has. -/
def kvGet {α : Type} : List (Nat × α) → Nat → Option α
  | [], _ => none
  | (k, v) :: r, a => if k = a then some v else kvGet r a

/-- Gives a key a value, or takes it away. -/
def kvSet {α : Type} : List (Nat × α) → Nat → Option α → List (Nat × α)
  | [], _, none => []
  | [], a, some v => [(a, v)]
  | (k, w) :: r, a, o =>
    if a < k then (match o with | none => (k, w) :: r | some v => (a, v) :: (k, w) :: r)
    else if a = k then (match o with | none => r | some v => (a, v) :: r)
    else (k, w) :: kvSet r a o

/-! ### Free values -/

/-- A fresh free number. -/
def State.free (s : State) : Nat × State := (Config.freeNat s.freeCount, { s with freeCount := s.freeCount + 1 })

/-- A fresh free string of `n` bytes. -/
def State.freeBytes (n : Nat) (s : State) : Bytes × State :=
  ((List.range n).map (Config.freeByte s.freeCount), { s with freeCount := s.freeCount + 1 })

/-! ### Keys (R62, R63, R527 to R532) -/

/-- The bytes of a name. -/
def nameBytes (n : String) : Bytes := n.toList.map fun c => byteOf c.toNat

/-- `n` bytes of HKDF-SHA-384 of a secret, with a salt and an info string. -/
def hkdf (secret salt info : Bytes) (n : Nat) : Bytes := (List.range n).map (Config.hkdf384 secret salt info)

/-- The order of the group of P-384 (PRESUMED, assumption 23). -/
def p384n : Nat := 0xffffffffffffffffffffffffffffffffffffffffffffffffc7634d81f4372ddf581a0db248b0a77aecec196accc52973

/-- The private scalar that R527 chooses of a secret: the first output of 48 bytes, with a counter after the info string, that lies between 1
and the group order less 1. -/
def scalarOf (secret info : Bytes) : Nat :=
  (((List.range 256).map fun c => ofBE (hkdf secret [] (info ++ [byteOf c]) 48)).find? fun k => decide (1 ≤ k) && decide (k < p384n)).getD 0

/-- The device seed of 256 bits (R527). -/
def deviceSeed : Bytes := (List.range 32).map Config.deviceSeed

/-- The private half of the identity key, which signs (R527, R529). -/
def identityKey : Nat := scalarOf deviceSeed (nameBytes "vz8640 identity")

/-- The private half of the key-agreement key, which takes part only in ECDH (R527). -/
def agreementKey : Nat := scalarOf deviceSeed (nameBytes "vz8640 key agreement")

/-- The public key of a private scalar: 97 bytes, uncompressed. -/
def publicBytes (k : Nat) : Bytes := (List.range 97).map (Config.publicKey k)

/-- An ephemeral private scalar, drawn free. -/
def State.drawScalar (s : State) : Nat × State :=
  let r := s.free
  (1 + r.1 % (p384n - 1), r.2)

/-- A signature of 96 bytes over a message by a private scalar. -/
def State.signWith (k : Nat) (msg : Bytes) (s : State) : Bytes × State :=
  let r := s.free
  ((List.range 96).map (Config.ecdsa k r.1 msg), r.2)

/-- A signature of the identity key (R529). -/
def State.identitySign (msg : Bytes) (s : State) : Bytes × State := s.signWith identityKey msg

/-- The session key of R62, from one side's private scalar and the other side's public key; the salt has the client's public key first
(assumption 27). -/
def sessionKey (own : Nat) (other client part : Bytes) : Bytes :=
  hkdf ((List.range 48).map (Config.ecdh own other)) (client ++ part) (nameBytes "onnum session") 48

/-- Gives something out. -/
def State.send (x : Sent) (s : State) : State := { s with sent := x :: s.sent }

/-! ### The counter in force (R450, R452) -/

/-- The counter in force, in units of 2⁻³² ns. -/
def State.nowTicks (s : State) : Nat := if s.time.nsInForce then s.time.ns112 else s.time.secns

/-- The whole nanoseconds of the counter in force. -/
def State.nowNs (s : State) : Nat := s.nowTicks / 2 ^ 32

/-- The moment of a submission's release on the counter as it now counts: steps of the time since then are added (R462). -/
def Submission.releasedNow (q : Submission) : Option Nat := q.released.map fun n => ((n : Int) + q.moved).toNat

/-- The first multiple of 10 ms at or after a moment: programs of the saved-settings area begin only there (R549). -/
def programStart (ns : Nat) : Nat := (ns + 9999999) / 10000000 * 10000000

/-- TIME_VALID (R453). -/
def State.timeValid (s : State) : Bool := s.time.state != 0

/-- A TIME96 on the wire (R45, R452). -/
def time96 (ns : Nat) (valid : Bool) : Bytes :=
  be 8 (ns / 1000000000) ++ be 4 (if valid then ns % 1000000000 else 0xFFFFFFFF)

/-- The present time as a TIME96. -/
def State.stamp (s : State) : Bytes := time96 s.nowNs s.timeValid

/-- The nanoseconds a written TIME96 names, when it is a legal time (R452). -/
def ofTime96 (b : Bytes) : Option Nat :=
  let sec := ofBE (b.take 8)
  let ns := ofBE (b.drop 8)
  if ns > 999999999 ∨ sec ≥ 1208925819614629 then none else some (sec * 1000000000 + ns)

/-- An event arrives at a time that the counter in force has reached (assumption 2). -/
def State.reach (ticks : Nat) (s : State) : State :=
  if s.time.nsInForce then
    { s with time := { s.time with ns112 := max s.time.ns112 ticks } }
  else { s with time := { s.time with secns := max s.time.secns ticks } }

/-! ### The end of a command -/

/-- INCREMENT held within 100 ppm of nominal (R448). -/
def holdIncrement (i : Nat) : Nat := min (max i 0x270F00000) 0x271100000

/-- The time unit's counters at their widths: NS112 of 112 bits, INCREMENT, SECNS of 64 bits of seconds above its
nanoseconds and fraction, and its increment of 48 bits (R447 to R449). -/
def Meridian.hold (m : Meridian) : Meridian :=
  { m with ns112 := m.ns112 % 2 ^ 112, increment := holdIncrement m.increment,
           secns := m.secns % (2 ^ 64 * (1000000000 * 2 ^ 32)), secInc := m.secInc % 2 ^ 48 }

/-- ATC at its 64 bits (R386). -/
def Afe.hold (a : Afe) : Afe := { a with atc := a.atc % 2 ^ 64 }

/-- What a command leaves: its effect, with the counters of R386 and R447 to R449 at their widths, and the queue as the command
found it (assumption 32). -/
def State.settle (old new : State) : State := { new with pending := old.pending, time := new.time.hold, afe := new.afe.hold }

/-- The outcome of a command that began in `old` and whose effect is `new`. -/
def settled (old new : State) : Host.Outcome State Fault Refusal := .next (old.settle new)

/-! ### Logs (R80 to R82) -/

/-- The view a scope belongs to. -/
def viewOf (scope : Nat) : Nat := if scope < 8 then scope else 8

/-- Whether an event adds to the newest record's REPEATS in place of a record of its own (R81). -/
def Log.merges (r : LogRec) (l : Log) : Bool := match l.recs with
  | [] => false
  | n :: _ => n.code == r.code && n.scope == r.scope && n.source == r.source && decide (n.atNs ≤ r.atNs) && decide (r.atNs ≤ n.atNs + 1000000000)

/-- Writes an event to a log, or merges it into the newest record (R81). `cap` is the ring's size. -/
def Log.add (cap : Nat) (r : LogRec) (l : Log) : Log :=
  if l.merges r then { l with recs := match l.recs with
    | [] => []
    | n :: rest => { n with repeats := n.repeats + 1 } :: rest }
  else
    let v := viewOf r.scope
    let overwritten := (l.recs.drop (cap - 1)).foldl (fun lost o => bump lost (viewOf o.scope)) l.lost
    { recs := r :: l.recs.take (cap - 1), count := bump l.count v, lost := overwritten, total := bump l.total v }

/-- Empties a view (R82). -/
def Log.clear (v : Nat) (l : Log) : Log :=
  { l with recs := l.recs.filter (fun r => viewOf r.scope != v), count := l.count.set v 0, lost := l.lost.set v 0 }

/-- The record of an event now. -/
def State.record (code scope source : Nat) (detail : Bytes) (s : State) : LogRec :=
  { atNs := s.nowNs, valid := s.timeValid, code := code, scope := scope, source := source, detail := detail }

/-- A log record as it is read (R80). -/
def LogRec.bytes (r : LogRec) : Bytes :=
  time96 r.atNs r.valid ++ be 2 r.code ++ [byteOf r.scope, byteOf r.source] ++ be 4 r.repeats ++ slice r.detail 0 12

/-- The view of a log that a reader has (R82): its partition's, the device's, or none for a session that holds only PUBLIC. -/
def Who.view (w : Who) : Option Nat := match w.tenant with
  | some p => some p
  | none => if w.operator then some 8 else none

/-- A record that is written into the log at an index, and not merged, goes to the streams of its view, in order (R75). -/
def Service.streamRecord (index : Nat) (l : Log) (r : LogRec) (x : Service) : Service :=
  if l.merges r then x
  else { x with subs := x.subs.map fun e =>
    if e.mode = 3 ∧ e.index = index ∧ e.sub = 2 ∧ e.who.view = some (viewOf r.scope) then { e with queue := e.queue ++ r.bytes } else e }

/-! ### Trace (R576 to R579) -/

/-- The enables of a region's kinds: TRACE_KINDS of a partition, TRACE_DEVICE_KINDS of the device. -/
def State.traceKinds (s : State) (region : Nat) : Nat :=
  ofBE ((kvGet s.dict (if region < 8 then (0x3070 + 0x100 * region) * 256 + 1 else 0x1C00 * 256 + 1)).getD [])

/-- The records a region holds (R576). -/
def regionSize (region : Nat) : Nat := if region < 8 then 512 else 2048

/-- Captures an event in a trace region (R577, R578): where the region is full, the oldest record leaves. -/
def State.capture (region kind : Nat) (payload : Bytes) (s : State) : State :=
  let bit := if region < 8 then kind - 1 else kind - 0x20
  if !(s.traceKinds region).testBit bit then s else
  let rg := s.trace.regions.getD region {}
  let flags := b01 rg.lostBefore + 2 * b01 (!s.time.nsInForce) + 4 * b01 (!s.timeValid)
  let rec_ := le 8 (s.nowNs % 2 ^ 64) ++ [byteOf kind, byteOf (if region < 8 then region else 0xFF), byteOf flags, 0] ++
    le 4 (rg.seq % 2 ^ 32) ++ slice payload 0 16
  let consent := region == 8 || ofBE ((kvGet s.dict ((0x3050 + 0x100 * region) * 256 + 2)).getD []) == 1
  let full := regionSize region ≤ rg.recs.length
  let oldest := rg.recs.headD (0, [], false)
  let streamed := (ofBE ((kvGet s.dict (0x1C00 * 256 + 2)).getD [1, 0])).testBit region && s.svc.subs.any fun e => e.index == 0x1C10
  let ringBound := ofBE ((kvGet s.dict ((0x3070 + 0x100 * region) * 256 + 3)).getD []) != 0
  let rg := { rg with
    seq := rg.seq + 1, captured := rg.captured + 1, lostBefore := false, recs := (if full then rg.recs.drop 1 else rg.recs) ++ [(rg.seq, rec_, consent)],
    ringDropped := rg.ringDropped + b01 (full && ringBound && oldest.2.2 && decide (region < 8) && decide (rg.ringNext ≤ oldest.1)),
    streamDropped := rg.streamDropped + b01 (full && oldest.2.2 && streamed && decide (rg.streamNext ≤ oldest.1)) }
  { s with trace := { s.trace with regions := s.trace.regions.set region rg } }

/-- A record goes into the error log; one that is added in the operator's view raises vector 2 of the physical function (R490). -/
def State.errorEntry (r : LogRec) (s : State) : State :=
  { s with svc := s.svc.streamRecord 0x1200 s.errorLog r, errorLog := s.errorLog.add 1024 r,
           sent := if r.scope = 0xFF ∧ !s.errorLog.merges r then .msix 0 2 :: s.sent else s.sent }

/-- A record goes into the violation log. -/
def State.violationEntry (r : LogRec) (s : State) : State :=
  { s with svc := s.svc.streamRecord 0x1210 s.violationLog r, violationLog := s.violationLog.add 1024 r }

/-- A record goes into the refusal log (R511). -/
def State.refusalEntry (r : LogRec) (s : State) : State :=
  { s with svc := s.svc.streamRecord 0x1420 s.refusalLog r, refusalLog := s.refusalLog.add 256 r }

/-- Logs a fault of the part's own. -/
def State.logError (code scope source : Nat) (detail : Bytes) (s : State) : State :=
  let s := s.errorEntry (s.record code scope source detail)
  if scope = 0xFF then s.capture 8 0x21 (le 2 code ++ [byteOf source, 0] ++ slice detail 0 12) else s

/-- Logs a protocol error of a partner. -/
def State.logViolation (code scope source : Nat) (detail : Bytes) (s : State) : State :=
  let s := s.violationEntry (s.record code scope source detail)
  if scope = 0xFF then s.capture 8 0x21 (le 2 code ++ [byteOf source, 1] ++ slice detail 0 12) else s

/-- Logs a refused descent (R511). -/
def State.logRefusal (code scope source : Nat) (detail : Bytes) (s : State) : State :=
  let s := s.refusalEntry (s.record code scope source detail)
  if scope = 0xFF then s.capture 8 0x21 (le 2 code ++ [byteOf source, 2] ++ slice detail 0 12) else s

/-- The codes of R80 for where a frame came from. -/
def sourceCode : Source → Nat
  | .eth p _ => p + 1
  | .udp p _ => p + 1
  | .pcie 0 => 0x03
  | .pcie (p + 1) => 0x10 + p
  | .mgmt _ => 0x20

end Sys2Proof.Machine
end

