-- ==== Sys2Proof/Machine/ObjTable.lean ====
section
/-! DEFINITION. The table of objects of the dictionary (R22, R43, and the object tables of every chapter):
where each stands, its type, its access class, its persistence, its default and its legal values. -/

namespace Sys2Proof.Machine

/-- Objects, part 1 of the table. -/
def objRows1 : List ObjRow := [
  { name := "VENDOR_ID", base := 0x1000, sub := 1, ty := 4, acc := .pub, per := .fuse, mem := [4], dflt := [57607], hi := 4294967295 },
  { name := "PART_NUMBER", base := 0x1000, sub := 2, ty := 13, acc := .pub, per := .fuse, maxLen := 16 },
  { name := "GRADE", base := 0x1000, sub := 3, ty := 2, acc := .pub, per := .fuse, mem := [2], hi := 255 },
  { name := "DIE_STEPPING", base := 0x1000, sub := 4, ty := 3, acc := .pub, per := .fuse, mem := [3], hi := 65535 },
  { name := "SERIAL", base := 0x1000, sub := 5, ty := 12, acc := .pub, per := .fuse, mem := [272] },
  { name := "NODE_ID", base := 0x1000, sub := 6, ty := 4, acc := .operator, per := .saved, wr := true, mem := [4], hi := 262143 },
  { name := "NODE_ID_ACTIVE", base := 0x1000, sub := 7, ty := 4, acc := .pub, per := .volatile, mem := [4], hi := 4294967295 },
  { name := "FIRMWARE_VERSION", base := 0x1000, sub := 8, ty := 4, acc := .pub, per := .volatile, mem := [4], hi := 4294967295 },
  { name := "ONNUM_VERSION", base := 0x1000, sub := 9, ty := 2, acc := .pub, per := .fuse, mem := [2], dflt := [1], hi := 255 },
  { name := "DEVICE_CERT_CHAIN", base := 0x1000, sub := 10, ty := 14, acc := .pub, per := .fuse, maxLen := 4294967295 },
  { name := "OBJECT_CATALOGUE", base := 0x1000, sub := 11, ty := 14, acc := .pub, per := .volatile, maxLen := 4294967295 },
  { name := "ERROR_COUNT", base := 0x1200, sub := 1, ty := 4, acc := .pub, per := .volatile, mem := [4], hi := 4294967295 },
  { name := "ERROR_LOG", base := 0x1200, sub := 2, ty := 14, acc := .pub, per := .volatile, maxLen := 4294967295 },
  { name := "ERROR_LOST", base := 0x1200, sub := 3, ty := 4, acc := .pub, per := .volatile, mem := [4], hi := 4294967295 },
  { name := "ERROR_CLEAR", base := 0x1200, sub := 4, ty := 1, acc := .pub, per := .volatile, wr := true, rd := false, mem := [1], hi := 1 },
  { name := "VIOLATION_COUNT", base := 0x1210, sub := 1, ty := 4, acc := .pub, per := .volatile, mem := [4], hi := 4294967295 },
  { name := "VIOLATION_LOG", base := 0x1210, sub := 2, ty := 14, acc := .pub, per := .volatile, maxLen := 4294967295 },
  { name := "VIOLATION_LOST", base := 0x1210, sub := 3, ty := 4, acc := .pub, per := .volatile, mem := [4], hi := 4294967295 },
  { name := "VIOLATION_BY_PARTITION", base := 0x1210, sub := 4, ty := 15, acc := .operator, per := .volatile, mem := List.replicate 8 4 },
  { name := "VIOLATION_CLEAR", base := 0x1210, sub := 5, ty := 1, acc := .pub, per := .volatile, wr := true, rd := false, mem := [1], hi := 1 },
  { name := "DEVICE_STATE", base := 0x1220, sub := 1, ty := 2, acc := .pub, per := .volatile, mem := [2], hi := 255 },
  { name := "POWER_MODE", base := 0x1220, sub := 2, ty := 2, acc := .pub, per := .volatile, mem := [2], hi := 255 },
  { name := "TIME_VALID", base := 0x1220, sub := 3, ty := 1, acc := .pub, per := .volatile, mem := [1], hi := 1 },
  { name := "SINCE_START", base := 0x1220, sub := 4, ty := 11, acc := .pub, per := .volatile, mem := [11], hi := 79228162514264337593543950335 },
  { name := "STATUS_CATALOGUE", base := 0x1240, sub := 1, ty := 14, acc := .pub, per := .volatile, maxLen := 4294967295 },
  { name := "ONNUM_UDP_PORT", base := 0x1250, sub := 1, ty := 3, acc := .operator, per := .saved, wr := true, mem := [3], dflt := [51730], lo := 1024, hi := 65535 },
  { name := "ONNUM_TLS_PORT", base := 0x1250, sub := 2, ty := 3, acc := .management, per := .saved, wr := true, mem := [3], dflt := [51731], lo := 1024, hi := 65535 },
  { name := "SESSION_IDLE_S", base := 0x1250, sub := 3, ty := 4, acc := .operator, per := .saved, wr := true, mem := [4], dflt := [300], lo := 10, hi := 86400 },
  { name := "ONNUM_COUNTS", base := 0x1250, sub := 16, ty := 15, acc := .operator, per := .volatile, mem := List.replicate 8 5 },
  { name := "ONNUM_LATENCY", base := 0x1250, sub := 17, ty := 15, acc := .operator, per := .volatile, mem := List.replicate 16 4 },
  { name := "ROLE_MASK", base := 0x1310, sub := 1, ty := 2, acc := .operator, per := .saved, wr := true, mem := [2], dflt := [1], hi := 7 },
  { name := "ROLE_ACTIVE", base := 0x1310, sub := 2, ty := 2, acc := .pub, per := .volatile, mem := [2], dflt := [1], hi := 255 },
  { name := "MODE_FLOOR", base := 0x1310, sub := 3, ty := 2, acc := .operator, per := .saved, wr := true, mem := [2], dflt := [2], lo := 1, hi := 5 },
  { name := "CASCADE_PARTITION", base := 0x1310, sub := 4, ty := 2, acc := .operator, per := .saved, wr := true, mem := [2], hi := 7 },
  { name := "GONG_SERVER", base := 0x1310, sub := 5, ty := 4, acc := .operator, per := .saved, wr := true, mem := [4], hi := 262143 },
  { name := "GONG_PARTITION", base := 0x1310, sub := 6, ty := 2, acc := .operator, per := .saved, wr := true, mem := [2], hi := 7 },
  { name := "CHIME_REJECT_HOLD", base := 0x1310, sub := 7, ty := 4, acc := .operator, per := .saved, wr := true, mem := [4], dflt := [500], hi := 4294967295 },
  { name := "ATTEND_IDLE_HOLD", base := 0x1310, sub := 8, ty := 4, acc := .operator, per := .saved, wr := true, mem := [4], dflt := [10000], hi := 4294967295 },
  { name := "ACTIVE_IDLE_HOLD", base := 0x1310, sub := 9, ty := 4, acc := .operator, per := .saved, wr := true, mem := [4], dflt := [60000], hi := 4294967295 },
  { name := "GONG_PRELOAD", base := 0x1310, sub := 10, ty := 1, acc := .operator, per := .saved, wr := true, mem := [1], dflt := [1], hi := 1 },
  { name := "WAKE_COUNTS", base := 0x1310, sub := 11, ty := 15, acc := .pub, per := .volatile, mem := [4, 4, 4, 4] },
  { name := "ANSWER_QUEUE_DEPTH", base := 0x1310, sub := 12, ty := 2, acc := .operator, per := .saved, wr := true, mem := [2], dflt := [16], lo := 1, hi := 64 },
  { name := "GONG_SERVER_ADDR", base := 0x1310, sub := 13, ty := 15, acc := .operator, per := .saved, wr := true, mem := [272, 3], dflt := [0, 51730] },
  { name := "ANSWER_REQUEST", base := 0x1311, sub := 1, ty := 14, acc := .tenant, per := .volatile, wr := true, rd := false, maxLen := 4294967295 },
  { name := "ANSWER_TOKENS", base := 0x1311, sub := 2, ty := 14, acc := .tenant, per := .volatile, rd := false, maxLen := 4294967295 },
  { name := "GONG_CLIENT_KEY", base := 0x1311, sub := 3, ty := 12, acc := .tenant, per := .volatile, mem := [353] },
  { name := "GONG_CREDENTIAL_ID", base := 0x1311, sub := 4, ty := 4, acc := .tenant, per := .saved, wr := true, mem := [4], hi := 4294967295 },
  { name := "CASCADE_MODELS", base := 0x1311, sub := 5, ty := 15, acc := .tenant, per := .saved, wr := true, mem := [5, 2, 5, 2, 5, 2] },
  { name := "SLOTS_ACTIVE", base := 0x1100, sub := 1, ty := 2, acc := .pub, per := .volatile, mem := [2], hi := 255 },
  { name := "SLOTS_STANDBY", base := 0x1100, sub := 2, ty := 2, acc := .pub, per := .volatile, mem := [2], hi := 255 },
  { name := "SLOTS_RETIRED", base := 0x1100, sub := 3, ty := 2, acc := .pub, per := .volatile, mem := [2], hi := 255 },
  { name := "SLOTS_ABSENT", base := 0x1100, sub := 4, ty := 2, acc := .pub, per := .fuse, mem := [2], hi := 255 },
  { name := "CORE_MAP_GENERATION", base := 0x1100, sub := 5, ty := 4, acc := .pub, per := .saved, mem := [4], hi := 4294967295 },
  { name := "SLOT_STATE", base := 0x1101, sub := 1, ty := 15, acc := .operator, per := .saved, subs := 72, mem := [2, 2, 2, 2, 11, 3, 4] },
  { name := "RETEST_RETIRED", base := 0x1102, sub := 1, ty := 1, acc := .management, per := .saved, wr := true, mem := [1], hi := 1 },
  { name := "LOGICAL_MAP", base := 0x1110, sub := 1, ty := 2, acc := .tenant, per := .volatile, subs := 64, mem := [2], hi := 255 },
  { name := "LOGICAL_MAP_GENERATION", base := 0x1110, sub := 65, ty := 4, acc := .tenant, per := .volatile, mem := [4], hi := 4294967295 },
  { name := "PARTITION_MAP", base := 0x1120, sub := 1, ty := 2, acc := .operator, per := .volatile, stride := 1, insts := 8, subs := 64, mem := [2], hi := 255 },
  { name := "SLICE_STATE", base := 0x1130, sub := 1, ty := 2, acc := .pub, per := .volatile, subs := 17, mem := [2], hi := 255 },
  { name := "DRAM_GROUP_STATE", base := 0x1140, sub := 1, ty := 2, acc := .pub, per := .volatile, subs := 8, mem := [2], hi := 255 }]

/-- Objects, part 2 of the table. -/
def objRows2 : List ObjRow := [
  { name := "PEER_LANE_STATE", base := 0x1150, sub := 1, ty := 2, acc := .pub, per := .volatile, subs := 20, mem := [2], hi := 255 },
  { name := "MIC_INPUT_STATE", base := 0x1160, sub := 1, ty := 2, acc := .pub, per := .volatile, subs := 34, mem := [2], hi := 255 },
  { name := "CONTROL_MCU_STATE", base := 0x1170, sub := 1, ty := 2, acc := .pub, per := .volatile, subs := 5, mem := [2], hi := 255 },
  { name := "ROOT_PLL_STATE", base := 0x1171, sub := 1, ty := 2, acc := .pub, per := .volatile, subs := 2, mem := [2], hi := 255 },
  { name := "CORECLK_KHZ", base := 0x2000, sub := 1, ty := 4, acc := .pub, per := .volatile, mem := [4], hi := 4294967295 },
  { name := "CORES_POWERED", base := 0x2000, sub := 2, ty := 2, acc := .pub, per := .volatile, mem := [2], hi := 255 },
  { name := "ACC_STREAM_KIB", base := 0x2010, sub := 1, ty := 3, acc := .operator, per := .saved, wr := true, mem := [3], dflt := [384], hi := 448 },
  { name := "ACC_STREAM_KIB_ACTIVE", base := 0x2010, sub := 2, ty := 3, acc := .pub, per := .volatile, mem := [3], hi := 65535 },
  { name := "ACC_BUDDY_KIB_ACTIVE", base := 0x2010, sub := 3, ty := 3, acc := .pub, per := .volatile, mem := [3], hi := 65535 },
  { name := "ACC_WORKING_KIB_ACTIVE", base := 0x2010, sub := 4, ty := 3, acc := .pub, per := .volatile, mem := [3], hi := 65535 },
  { name := "TOKEN_WAIT_LIMIT_US", base := 0x2020, sub := 1, ty := 4, acc := .operator, per := .saved, wr := true, mem := [4], dflt := [100000], lo := 10, hi := 10000000 },
  { name := "SLOT_COUNTS", base := 0x2030, sub := 1, ty := 15, acc := .operator, per := .volatile, subs := 72, mem := List.replicate 6 5 },
  { name := "TILE_CAP_CYCLES", base := 0x2040, sub := 1, ty := 4, acc := .pub, per := .volatile, mem := [4], dflt := [3276], hi := 4294967295 },
  { name := "TILE_CAP_REFUSALS", base := 0x2040, sub := 2, ty := 4, acc := .operator, per := .volatile, mem := [4], hi := 4294967295 },
  { name := "SAT_TRIP_PPM", base := 0x2060, sub := 1, ty := 4, acc := .operator, per := .saved, wr := true, mem := [4], dflt := [1000], lo := 1, hi := 1000000 },
  { name := "SAT_WATCH_PPM", base := 0x2060, sub := 2, ty := 4, acc := .operator, per := .saved, wr := true, mem := [4], dflt := [100], lo := 1, hi := 999999 },
  { name := "RERUN_MAX_PER_CORE", base := 0x2060, sub := 3, ty := 2, acc := .operator, per := .saved, wr := true, mem := [2], dflt := [8], hi := 255 },
  { name := "SAT_LAYER_STATS", base := 0x2061, sub := 1, ty := 14, acc := .tenant, per := .volatile, subs := 16, maxLen := 4294967295 },
  { name := "KV_POOL", base := 0x2070, sub := 1, ty := 15, acc := .tenant, per := .saved, subs := 4, wr := true, mem := [2, 2, 4] },
  { name := "KV_POOL_STATE", base := 0x2071, sub := 1, ty := 15, acc := .tenant, per := .volatile, subs := 4, mem := List.replicate 5 4 },
  { name := "KV_SHORTAGE", base := 0x2072, sub := 1, ty := 15, acc := .tenant, per := .volatile, subs := 16, mem := [3, 3, 3, 4, 4, 384] },
  { name := "KV_COUNTS", base := 0x2073, sub := 1, ty := 15, acc := .tenant, per := .volatile, mem := List.replicate 9 5 },
  { name := "STREAM_SLOTS_PER_CORE", base := 0x2410, sub := 1, ty := 2, acc := .pub, per := .volatile, mem := [2], hi := 255 },
  { name := "STREAM_SLOTS_TOTAL", base := 0x2410, sub := 2, ty := 3, acc := .pub, per := .volatile, mem := [3], hi := 65535 },
  { name := "STREAM_STATE_BYTES", base := 0x2410, sub := 3, ty := 4, acc := .operator, per := .saved, wr := true, mem := [4], dflt := [24576], hi := 4294967295 },
  { name := "STREAM_STATE_BYTES_ACTIVE", base := 0x2410, sub := 4, ty := 4, acc := .pub, per := .volatile, mem := [4], hi := 4294967295 },
  { name := "STREAM_CHUNK_CFG", base := 0x2420, sub := 1, ty := 15, acc := .tenant, per := .saved, subs := 16, wr := true, mem := [2, 1, 2, 10, 10, 2, 3, 4], dflt := [1, 0, 255, 0, 0, 1, 0, 1000] },
  { name := "STREAM_COUNTS", base := 0x2430, sub := 1, ty := 15, acc := .tenant, per := .volatile, mem := List.replicate 12 5 },
  { name := "SLOT_PARTITION", base := 0x4000, sub := 1, ty := 2, acc := .operator, per := .saved, stride := 1, insts := 2048, wr := true, mem := [2], dflt := [255], hi := 255 },
  { name := "SLOT_HOME", base := 0x4000, sub := 2, ty := 2, acc := .slot, per := .volatile, stride := 1, insts := 2048, wr := true, mem := [2], hi := 63 },
  { name := "SLOT_IMAGE", base := 0x4000, sub := 3, ty := 14, acc := .slot, per := .volatile, stride := 1, insts := 2048, wr := true, rd := false, maxLen := 4294967295 },
  { name := "SLOT_MOVE_TO", base := 0x4000, sub := 4, ty := 2, acc := .slot, per := .volatile, stride := 1, insts := 2048, wr := true, mem := [2], dflt := [255], hi := 255 },
  { name := "SLOT_CLOSE", base := 0x4000, sub := 5, ty := 1, acc := .slot, per := .volatile, stride := 1, insts := 2048, wr := true, mem := [1], hi := 1 },
  { name := "SLOT_CHANNEL", base := 0x4000, sub := 6, ty := 3, acc := .slot, per := .volatile, stride := 1, insts := 2048, wr := true, mem := [3], dflt := [65535], hi := 65535 },
  { name := "SLOT_STATUS", base := 0x4000, sub := 7, ty := 15, acc := .slot, per := .volatile, stride := 1, insts := 2048, mem := [2, 2, 3, 1, 2, 3, 5] ++ List.replicate 5 4 },
  { name := "DRAM_DATA_BYTES", base := 0x2100, sub := 1, ty := 5, acc := .pub, per := .fuse, mem := [5], dflt := [137438953472], hi := 18446744073709551615 },
  { name := "DRAM_SYSTEM_BYTES", base := 0x2100, sub := 2, ty := 5, acc := .pub, per := .volatile, mem := [5], dflt := [1073741824], hi := 18446744073709551615 },
  { name := "FLASH_USER_BYTES", base := 0x2100, sub := 3, ty := 5, acc := .pub, per := .fuse, mem := [5], dflt := [1759218597888], hi := 18446744073709551615 },
  { name := "FLASH_WINDOW_MS", base := 0x2100, sub := 4, ty := 3, acc := .operator, per := .saved, wr := true, mem := [3], dflt := [10], lo := 10, hi := 1000 },
  { name := "READ_DISTURB_LIMIT", base := 0x2100, sub := 5, ty := 4, acc := .operator, per := .saved, wr := true, mem := [4], dflt := [100000], lo := 10000, hi := 1000000 },
  { name := "FLASH_WEAR", base := 0x2100, sub := 6, ty := 15, acc := .operator, per := .volatile, mem := List.replicate 8 4 },
  { name := "DRAM_ERRORS", base := 0x2100, sub := 7, ty := 15, acc := .operator, per := .volatile, mem := List.replicate 24 4 },
  { name := "DRAM_LANE_MAP", base := 0x2120, sub := 1, ty := 15, acc := .operator, per := .saved, subs := 8, mem := [2, 2, 266] },
  { name := "CACHE_WAY_MASK", base := 0x3060, sub := 1, ty := 3, acc := .operator, per := .saved, stride := 256, insts := 8, wr := true, mem := [3], hi := 65535 },
  { name := "DRAM_QUOTA", base := 0x3060, sub := 2, ty := 5, acc := .operator, per := .saved, stride := 256, insts := 8, wr := true, mem := [5], hi := 18446744073709551615 },
  { name := "FLASH_QUOTA", base := 0x3060, sub := 3, ty := 5, acc := .operator, per := .saved, stride := 256, insts := 8, wr := true, mem := [5], hi := 18446744073709551615 },
  { name := "FLASH_TURNS", base := 0x3060, sub := 4, ty := 2, acc := .operator, per := .saved, stride := 256, insts := 8, wr := true, mem := [2], hi := 63 },
  { name := "MEM_USAGE", base := 0x3060, sub := 5, ty := 15, acc := .operator, per := .volatile, stride := 256, insts := 8, mem := [5, 5, 5] },
  { name := "OBJECT_CREATE", base := 0x3061, sub := 1, ty := 15, acc := .area, per := .volatile, stride := 256, insts := 8, wr := true, rd := false, mem := [3, 2, 2, 5, 268] },
  { name := "OBJECT_DELETE", base := 0x3061, sub := 2, ty := 5, acc := .area, per := .volatile, stride := 256, insts := 8, wr := true, rd := false, mem := [5], hi := 18446744073709551615 },
  { name := "OBJECT_SEAL", base := 0x3061, sub := 3, ty := 15, acc := .area, per := .volatile, stride := 256, insts := 8, wr := true, rd := false, mem := [5, 2, 264, 352] },
  { name := "OBJECT_CLAIM", base := 0x3061, sub := 4, ty := 15, acc := .area, per := .volatile, stride := 256, insts := 8, wr := true, rd := false, mem := [5, 2] },
  { name := "OBJECT_WINDOW_SEL", base := 0x3061, sub := 5, ty := 15, acc := .area, per := .volatile, stride := 256, insts := 8, wr := true, mem := [5, 5, 4] },
  { name := "OBJECT_WINDOW", base := 0x3061, sub := 6, ty := 14, acc := .area, per := .volatile, stride := 256, insts := 8, wr := true, maxLen := 4294967295 },
  { name := "OBJECT_TABLE", base := 0x3061, sub := 7, ty := 14, acc := .area, per := .volatile, stride := 256, insts := 8, maxLen := 4294967295 },
  { name := "OBJECT_EVENTS", base := 0x3061, sub := 8, ty := 14, acc := .area, per := .volatile, stride := 256, insts := 8, rd := false, maxLen := 4294967295 },
  { name := "MEM_USAGE_OWN", base := 0x3061, sub := 9, ty := 15, acc := .area, per := .volatile, stride := 256, insts := 8, mem := List.replicate 5 5 },
  { name := "MEM_STALLS", base := 0x3062, sub := 1, ty := 15, acc := .area, per := .volatile, stride := 256, insts := 8, mem := List.replicate 16 5 },
  { name := "MESH_PATH_CYCLES", base := 0x2050, sub := 1, ty := 2, acc := .pub, per := .fuse, mem := [2], dflt := [38], hi := 255 },
  { name := "MESH_SLOTS_FREE", base := 0x2050, sub := 2, ty := 2, acc := .operator, per := .volatile, mem := [2], dflt := [60], hi := 255 }]

/-- Objects, part 3 of the table. -/
def objRows3 : List ObjRow := [
  { name := "MESH_ERRORS", base := 0x2050, sub := 3, ty := 15, acc := .operator, per := .volatile, mem := [5, 5] },
  { name := "MESH_RECOVERY_COPIES", base := 0x2050, sub := 4, ty := 4, acc := .operator, per := .volatile, mem := [4], hi := 4294967295 },
  { name := "CONSTELLATION_ID", base := 0x1A00, sub := 1, ty := 4, acc := .operator, per := .saved, wr := true, mem := [4], hi := 4294967295 },
  { name := "TOPOLOGY", base := 0x1A00, sub := 2, ty := 2, acc := .operator, per := .saved, wr := true, mem := [2], hi := 2 },
  { name := "MEMBERS", base := 0x1A00, sub := 3, ty := 2, acc := .operator, per := .saved, wr := true, mem := [2], hi := 16 },
  { name := "MEMBER_INDEX", base := 0x1A00, sub := 4, ty := 2, acc := .operator, per := .saved, wr := true, mem := [2], hi := 15 },
  { name := "LEAD_MEMBER", base := 0x1A00, sub := 5, ty := 2, acc := .operator, per := .saved, wr := true, mem := [2], hi := 15 },
  { name := "MEMBER_NODES", base := 0x1A00, sub := 6, ty := 15, acc := .operator, per := .saved, wr := true, mem := List.replicate 16 4 },
  { name := "CONSTELLATION_STATE", base := 0x1A00, sub := 7, ty := 2, acc := .pub, per := .volatile, mem := [2], hi := 255 },
  { name := "COLL_TIMEOUT_US", base := 0x1A00, sub := 8, ty := 4, acc := .operator, per := .saved, wr := true, mem := [4], dflt := [100], lo := 50, hi := 10000 },
  { name := "PEER_PAIR", base := 0x1A10, sub := 1, ty := 15, acc := .operator, per := .saved, subs := 64, wr := true, mem := [2, 2, 3], dflt := [255, 0, 0] },
  { name := "PORT_STATE", base := 0x1A20, sub := 1, ty := 15, acc := .operator, per := .volatile, subs := 4, mem := [2, 4, 2, 2] },
  { name := "PORT_COUNTS", base := 0x1A30, sub := 1, ty := 15, acc := .operator, per := .volatile, subs := 4, mem := List.replicate 10 5 },
  { name := "PEER_COUNTS", base := 0x1A40, sub := 1, ty := 15, acc := .tenant, per := .volatile, mem := List.replicate 7 5 },
  { name := "PARTITION_CORES", base := 0x3000, sub := 1, ty := 2, acc := .operator, per := .saved, stride := 256, insts := 8, wr := true, mem := [2], hi := 64 },
  { name := "PARTITION_SLOTS", base := 0x3000, sub := 2, ty := 12, acc := .operator, per := .saved, stride := 256, insts := 8, wr := true, mem := [265] },
  { name := "DRAM_TURNS", base := 0x3000, sub := 3, ty := 2, acc := .operator, per := .saved, stride := 256, insts := 8, wr := true, mem := [2], hi := 63 },
  { name := "MESH_SLOTS", base := 0x3000, sub := 4, ty := 2, acc := .operator, per := .saved, stride := 256, insts := 8, wr := true, mem := [2], hi := 60 },
  { name := "PEER_SLOTS", base := 0x3000, sub := 5, ty := 2, acc := .operator, per := .saved, stride := 256, insts := 8, wr := true, mem := [2], hi := 63 },
  { name := "POWER_CAP_MW", base := 0x3000, sub := 6, ty := 4, acc := .operator, per := .saved, stride := 256, insts := 8, wr := true, mem := [4], hi := 165000 },
  { name := "PARTITION_RUN", base := 0x3000, sub := 7, ty := 1, acc := .operator, per := .saved, stride := 256, insts := 8, wr := true, mem := [1], hi := 1 },
  { name := "PARTITION_RESET", base := 0x3000, sub := 8, ty := 1, acc := .operator, per := .volatile, stride := 256, insts := 8, wr := true, mem := [1], hi := 1 },
  { name := "PARTITION_STATE", base := 0x3000, sub := 9, ty := 2, acc := .operator, per := .volatile, stride := 256, insts := 8, mem := [2], hi := 255 },
  { name := "PARTITION_VIEW", base := 0x3001, sub := 1, ty := 15, acc := .area, per := .volatile, stride := 256, insts := 8, mem := List.replicate 7 2 ++ [4, 4] },
  { name := "TENANT_RESET", base := 0x3001, sub := 2, ty := 1, acc := .area, per := .volatile, stride := 256, insts := 8, wr := true, mem := [1], hi := 1 },
  { name := "CTX_CLASS", base := 0x3010, sub := 1, ty := 2, acc := .operator, per := .saved, stride := 256, insts := 8, stride2 := 4, insts2 := 16, wr := true, mem := [2], hi := 255 },
  { name := "CTX_PRIORITY", base := 0x3010, sub := 2, ty := 2, acc := .operator, per := .saved, stride := 256, insts := 8, stride2 := 4, insts2 := 16, wr := true, mem := [2], dflt := [8], hi := 15 },
  { name := "SPAD_BASE", base := 0x3010, sub := 3, ty := 3, acc := .operator, per := .saved, stride := 256, insts := 8, stride2 := 4, insts2 := 16, wr := true, mem := [3], hi := 32767 },
  { name := "SPAD_LIMIT", base := 0x3010, sub := 4, ty := 3, acc := .operator, per := .saved, stride := 256, insts := 8, stride2 := 4, insts2 := 16, wr := true, mem := [3], hi := 32768 },
  { name := "ACC_BASE", base := 0x3010, sub := 5, ty := 3, acc := .operator, per := .saved, stride := 256, insts := 8, stride2 := 4, insts2 := 16, wr := true, mem := [3], hi := 65535 },
  { name := "ACC_LIMIT", base := 0x3010, sub := 6, ty := 3, acc := .operator, per := .saved, stride := 256, insts := 8, stride2 := 4, insts2 := 16, wr := true, mem := [3], hi := 65535 },
  { name := "QUEUE_ENTRIES", base := 0x3010, sub := 7, ty := 2, acc := .operator, per := .saved, stride := 256, insts := 8, stride2 := 4, insts2 := 16, wr := true, mem := [2], hi := 60 },
  { name := "BEAT_US", base := 0x3010, sub := 8, ty := 4, acc := .operator, per := .saved, stride := 256, insts := 8, stride2 := 4, insts2 := 16, wr := true, mem := [4], dflt := [10000], lo := 50, hi := 100000 },
  { name := "BEAT_PHASE_US", base := 0x3010, sub := 9, ty := 4, acc := .operator, per := .saved, stride := 256, insts := 8, stride2 := 4, insts2 := 16, wr := true, mem := [4], hi := 4294967295 },
  { name := "RESERVED_CORES", base := 0x3010, sub := 10, ty := 12, acc := .operator, per := .saved, stride := 256, insts := 8, stride2 := 4, insts2 := 16, wr := true, mem := [264] },
  { name := "URGENT_MIN_INTERVAL_US", base := 0x3010, sub := 11, ty := 4, acc := .operator, per := .saved, stride := 256, insts := 8, stride2 := 4, insts2 := 16, wr := true, mem := [4], dflt := [100], lo := 10, hi := 1000000 },
  { name := "URGENT_BUCKET", base := 0x3010, sub := 12, ty := 3, acc := .operator, per := .saved, stride := 256, insts := 8, stride2 := 4, insts2 := 16, wr := true, mem := [3], hi := 65535 },
  { name := "SUB_RING", base := 0x3011, sub := 1, ty := 5, acc := .area, per := .saved, stride := 256, insts := 8, stride2 := 4, insts2 := 16, wr := true, mem := [5], hi := 18446744073709551615 },
  { name := "CPL_RING", base := 0x3011, sub := 2, ty := 5, acc := .area, per := .saved, stride := 256, insts := 8, stride2 := 4, insts2 := 16, wr := true, mem := [5], hi := 18446744073709551615 },
  { name := "RING_ENTRIES", base := 0x3011, sub := 3, ty := 3, acc := .area, per := .saved, stride := 256, insts := 8, stride2 := 4, insts2 := 16, wr := true, mem := [3], dflt := [64], lo := 16, hi := 4096 },
  { name := "DOORBELL", base := 0x3011, sub := 4, ty := 4, acc := .area, per := .volatile, stride := 256, insts := 8, stride2 := 4, insts2 := 16, wr := true, rd := false, mem := [4], hi := 4294967295 },
  { name := "PATTERN_LOAD", base := 0x3012, sub := 1, ty := 5, acc := .area, per := .volatile, stride := 256, insts := 8, stride2 := 4, insts2 := 16, wr := true, rd := false, mem := [5], hi := 18446744073709551615 },
  { name := "PATTERN_UNLOAD", base := 0x3012, sub := 2, ty := 1, acc := .area, per := .volatile, stride := 256, insts := 8, stride2 := 4, insts2 := 16, wr := true, rd := false, mem := [1], hi := 1 },
  { name := "PATTERN_INFO", base := 0x3012, sub := 3, ty := 15, acc := .area, per := .volatile, stride := 256, insts := 8, stride2 := 4, insts2 := 16, mem := [5, 272, 4, 2, 3, 3] },
  { name := "BINDINGS", base := 0x3012, sub := 4, ty := 14, acc := .area, per := .volatile, stride := 256, insts := 8, stride2 := 4, insts2 := 16, wr := true, maxLen := 4294967295 },
  { name := "CTX_STATUS", base := 0x3013, sub := 1, ty := 15, acc := .area, per := .volatile, stride := 256, insts := 8, stride2 := 4, insts2 := 16, mem := [2, 2, 2, 1, 3, 3, 3, 3, 2, 4, 4, 4, 4, 3] },
  { name := "CTX_COUNTS", base := 0x3013, sub := 2, ty := 15, acc := .area, per := .volatile, stride := 256, insts := 8, stride2 := 4, insts2 := 16, mem := List.replicate 7 5 },
  { name := "ARRAY_ENABLE", base := 0x2200, sub := 1, ty := 1, acc := .operator, per := .saved, wr := true, mem := [1], dflt := [1], hi := 1 },
  { name := "ARRAY_INPUT_MASK", base := 0x2200, sub := 2, ty := 4, acc := .operator, per := .saved, wr := true, mem := [4], dflt := [4294967295], hi := 4294967295 },
  { name := "ARRAY_RATE", base := 0x2200, sub := 3, ty := 2, acc := .operator, per := .saved, wr := true, mem := [2], dflt := [1], hi := 4 },
  { name := "ARRAY_PDM_DIV", base := 0x2200, sub := 4, ty := 2, acc := .operator, per := .saved, wr := true, mem := [2], dflt := [8], lo := 8, hi := 16 },
  { name := "ARRAY_SETTLE_US", base := 0x2200, sub := 5, ty := 4, acc := .operator, per := .saved, wr := true, mem := [4], dflt := [5000], hi := 50000 },
  { name := "ARRAY_START_TRIGGER", base := 0x2200, sub := 6, ty := 2, acc := .operator, per := .saved, wr := true, mem := [2], dflt := [255], hi := 255 },
  { name := "AUDIO_EPOCH", base := 0x2200, sub := 7, ty := 4, acc := .pub, per := .volatile, mem := [4], hi := 4294967295 },
  { name := "ATC_NOW", base := 0x2200, sub := 8, ty := 5, acc := .pub, per := .volatile, mem := [5], hi := 18446744073709551615 },
  { name := "ATC_MAP", base := 0x2200, sub := 9, ty := 15, acc := .pub, per := .volatile, mem := [5, 11, 5, 1] },
  { name := "BEAM_ENABLE", base := 0x2210, sub := 1, ty := 3, acc := .operator, per := .saved, wr := true, mem := [3], dflt := [65535], hi := 65535 },
  { name := "BEAM_RATE", base := 0x2210, sub := 2, ty := 2, acc := .operator, per := .saved, wr := true, mem := [2], dflt := [1], hi := 4 },
  { name := "BEAM_TABLE", base := 0x2210, sub := 3, ty := 14, acc := .operator, per := .saved, wr := true, maxLen := 4294967295 },
  { name := "BEAM_NET_INPUTS", base := 0x2210, sub := 4, ty := 15, acc := .operator, per := .saved, wr := true, mem := List.replicate 32 3, dflt := List.replicate 32 65535 }]

/-- Objects, part 4 of the table. -/
def objRows4 : List ObjRow := [
  { name := "BEAM_NET_LAG_US", base := 0x2210, sub := 5, ty := 4, acc := .operator, per := .saved, wr := true, mem := [4], dflt := [4000], lo := 250, hi := 85000 },
  { name := "BEAM_STATUS", base := 0x2210, sub := 6, ty := 15, acc := .operator, per := .volatile, mem := [4, 5, 5, 5, 1] },
  { name := "INTERP_COEFS", base := 0x2210, sub := 7, ty := 12, acc := .pub, per := .fuse, mem := [8448] },
  { name := "FEATURE_BANDS", base := 0x2220, sub := 1, ty := 2, acc := .operator, per := .saved, wr := true, mem := [2], dflt := [40], lo := 40, hi := 80 },
  { name := "FEATURE_LATENCY_US", base := 0x2220, sub := 2, ty := 15, acc := .pub, per := .volatile, mem := List.replicate 17 4 },
  { name := "FEATURE_MEL_WEIGHTS", base := 0x2220, sub := 4, ty := 14, acc := .pub, per := .fuse, maxLen := 4294967295 },
  { name := "DECIMATOR_COEFS", base := 0x2220, sub := 5, ty := 12, acc := .pub, per := .fuse, maxLen := 65535 },
  { name := "TICK_MODEL", base := 0x2230, sub := 1, ty := 14, acc := .operator, per := .saved, wr := true, rd := false, maxLen := 4294967295 },
  { name := "TICK_THRESHOLD", base := 0x2230, sub := 2, ty := 2, acc := .operator, per := .saved, wr := true, mem := [2], dflt := [192], lo := 1, hi := 255 },
  { name := "PREROLL_LEAD", base := 0x2230, sub := 3, ty := 3, acc := .operator, per := .saved, wr := true, mem := [3], dflt := [3200], hi := 16000 },
  { name := "CANDIDATE_HOLD_MS", base := 0x2230, sub := 4, ty := 3, acc := .operator, per := .saved, wr := true, mem := [3], dflt := [3000], lo := 100, hi := 10000 },
  { name := "TCX_PDM_DIV", base := 0x2230, sub := 5, ty := 2, acc := .operator, per := .saved, wr := true, mem := [2], dflt := [32], lo := 16, hi := 32 },
  { name := "LISTEN_INPUT", base := 0x2230, sub := 6, ty := 2, acc := .pub, per := .volatile, mem := [2], hi := 255 },
  { name := "TICK_MODEL_INFO", base := 0x2230, sub := 7, ty := 15, acc := .pub, per := .volatile, mem := [304, 4, 4] },
  { name := "WAKE_RECORDS", base := 0x2230, sub := 8, ty := 14, acc := .cascade, per := .volatile, maxLen := 4294967295 },
  { name := "CHIME_CONTEXT", base := 0x2230, sub := 9, ty := 2, acc := .operator, per := .saved, wr := true, mem := [2], hi := 15 },
  { name := "TCX_SETTLE_US", base := 0x2230, sub := 11, ty := 4, acc := .operator, per := .saved, wr := true, mem := [4], dflt := [5000], hi := 50000 },
  { name := "AUDIO_FEED", base := 0x2240, sub := 1, ty := 15, acc := .cascade, per := .saved, subs := 16, wr := true, mem := [1, 2, 2, 2, 2, 4, 3, 2, 2, 2, 2, 1, 3], dflt := List.replicate 6 0 ++ [16, 1] ++ List.replicate 5 0 },
  { name := "TDM_PORT", base := 0x2250, sub := 1, ty := 15, acc := .operator, per := .saved, subs := 2, wr := true, mem := [1, 2, 2, 2, 4] },
  { name := "PLAYBACK", base := 0x2251, sub := 1, ty := 15, acc := .cascade, per := .saved, subs := 16, wr := true, mem := [2, 4, 3, 2, 2, 2, 2] },
  { name := "TDM_SLOT_MAP", base := 0x2252, sub := 1, ty := 15, acc := .operator, per := .saved, subs := 2, wr := true, mem := List.replicate 8 2 },
  { name := "AFE_COUNTS", base := 0x2260, sub := 1, ty := 15, acc := .operator, per := .volatile, mem := List.replicate 7 5 },
  { name := "CSI_PORT", base := 0x2300, sub := 1, ty := 15, acc := .operator, per := .saved, subs := 4, wr := true, mem := [1, 2, 3, 1, 2, 2] },
  { name := "CHIME_CAMERA", base := 0x2300, sub := 5, ty := 2, acc := .operator, per := .saved, wr := true, mem := [2], hi := 7 },
  { name := "PIPE_LOAD", base := 0x2300, sub := 6, ty := 15, acc := .operator, per := .volatile, mem := List.replicate 9 4 },
  { name := "CTRL_MASTER", base := 0x2300, sub := 7, ty := 15, acc := .operator, per := .saved, subs := 4, wr := true, mem := [2, 3] },
  { name := "CAM_PARTITION", base := 0x6000, sub := 1, ty := 2, acc := .operator, per := .saved, stride := 32, insts := 8, wr := true, mem := [2], dflt := [255], hi := 255 },
  { name := "CAM_ENABLE", base := 0x6000, sub := 2, ty := 1, acc := .operator, per := .saved, stride := 32, insts := 8, wr := true, mem := [1], hi := 1 },
  { name := "CAM_VC", base := 0x6000, sub := 3, ty := 2, acc := .operator, per := .saved, stride := 32, insts := 8, wr := true, mem := [2], hi := 3 },
  { name := "DATA_TYPE", base := 0x6000, sub := 4, ty := 2, acc := .operator, per := .saved, stride := 32, insts := 8, wr := true, mem := [2], dflt := [43], hi := 255 },
  { name := "ACTIVE_WIDTH", base := 0x6000, sub := 5, ty := 3, acc := .operator, per := .saved, stride := 32, insts := 8, wr := true, mem := [3], dflt := [1920], hi := 65535 },
  { name := "ACTIVE_LINES", base := 0x6000, sub := 6, ty := 3, acc := .operator, per := .saved, stride := 32, insts := 8, wr := true, mem := [3], dflt := [1080], hi := 65535 },
  { name := "LINE_TIME_NS", base := 0x6000, sub := 7, ty := 4, acc := .operator, per := .saved, stride := 32, insts := 8, wr := true, mem := [4], dflt := [14815], lo := 100, hi := 1000000 },
  { name := "CAM_PRIORITY", base := 0x6000, sub := 8, ty := 2, acc := .operator, per := .saved, stride := 32, insts := 8, wr := true, mem := [2], dflt := [4], hi := 7 },
  { name := "FSYNC_OUT", base := 0x6000, sub := 9, ty := 2, acc := .operator, per := .saved, stride := 32, insts := 8, wr := true, mem := [2], dflt := [255], hi := 255 },
  { name := "FSYNC_TRIGGER", base := 0x6000, sub := 10, ty := 2, acc := .operator, per := .saved, stride := 32, insts := 8, wr := true, mem := [2], dflt := [255], hi := 255 },
  { name := "LATE_LIMIT_US", base := 0x6000, sub := 11, ty := 4, acc := .operator, per := .saved, stride := 32, insts := 8, wr := true, mem := [4], dflt := [1000], lo := 10, hi := 100000 },
  { name := "FRAME_TIMEOUT_US", base := 0x6000, sub := 12, ty := 4, acc := .operator, per := .saved, stride := 32, insts := 8, wr := true, mem := [4], dflt := [50000], lo := 1000, hi := 1000000 },
  { name := "CTRL_BUS", base := 0x6001, sub := 1, ty := 15, acc := .operator, per := .saved, stride := 32, insts := 8, wr := true, mem := [2, 2] },
  { name := "SENSOR_MAP", base := 0x6001, sub := 2, ty := 15, acc := .operator, per := .saved, stride := 32, insts := 8, wr := true, mem := [3, 2, 3, 2, 3, 2, 2], dflt := [0, 1, 0, 1, 65535, 0, 0] },
  { name := "EXPOSURE_DELAY", base := 0x6001, sub := 3, ty := 2, acc := .operator, per := .saved, stride := 32, insts := 8, wr := true, mem := [2], dflt := [2], hi := 7 },
  { name := "GAIN_DELAY", base := 0x6001, sub := 4, ty := 2, acc := .operator, per := .saved, stride := 32, insts := 8, wr := true, mem := [2], dflt := [1], hi := 7 },
  { name := "CTRL_WINDOW_US", base := 0x6001, sub := 5, ty := 4, acc := .operator, per := .saved, stride := 32, insts := 8, wr := true, mem := [4], dflt := [1000], lo := 100, hi := 20000 },
  { name := "CFA", base := 0x6002, sub := 1, ty := 2, acc := .camera, per := .saved, stride := 32, insts := 8, wr := true, mem := [2], hi := 255 },
  { name := "BLACK_LEVEL", base := 0x6002, sub := 2, ty := 15, acc := .camera, per := .saved, stride := 32, insts := 8, wr := true, mem := [3, 3, 3, 3] },
  { name := "DPC_THRESHOLD", base := 0x6002, sub := 3, ty := 3, acc := .camera, per := .saved, stride := 32, insts := 8, wr := true, mem := [3], hi := 65535 },
  { name := "DPC_LIST", base := 0x6002, sub := 4, ty := 14, acc := .camera, per := .saved, stride := 32, insts := 8, wr := true, maxLen := 4294967295 },
  { name := "WB_GAINS", base := 0x6002, sub := 5, ty := 15, acc := .camera, per := .saved, stride := 32, insts := 8, wr := true, mem := [3, 3, 3], dflt := [4096, 4096, 4096] },
  { name := "CCM", base := 0x6002, sub := 6, ty := 15, acc := .camera, per := .saved, stride := 32, insts := 8, wr := true, mem := List.replicate 12 7, dflt := [4096, 0, 0, 0, 4096, 0, 0, 0, 4096, 0, 0, 0] },
  { name := "GAMMA_LUT", base := 0x6002, sub := 7, ty := 12, acc := .camera, per := .saved, stride := 32, insts := 8, wr := true, mem := [2306] },
  { name := "STATS_GRID", base := 0x6003, sub := 1, ty := 15, acc := .camera, per := .saved, stride := 32, insts := 8, wr := true, mem := [2, 2, 3, 3, 3, 3], dflt := [16, 12, 0, 0, 0, 0] },
  { name := "OUT_CFG", base := 0x6004, sub := 1, ty := 15, acc := .camera, per := .saved, stride := 32, insts := 8, stride2 := 1, insts2 := 4, wr := true, mem := [1, 5, 5, 4, 2] ++ List.replicate 6 3 ++ [2, 2, 2] ++ List.replicate 6 10 ++ [2, 2, 2, 2, 1, 3] },
  { name := "EXPOSURE_REQ", base := 0x6008, sub := 1, ty := 15, acc := .camera, per := .volatile, stride := 32, insts := 8, wr := true, rd := false, mem := [2, 4, 4] },
  { name := "EXPOSURE_STATUS", base := 0x6008, sub := 2, ty := 15, acc := .camera, per := .volatile, stride := 32, insts := 8, mem := [3, 3, 3, 3, 4, 4, 3] },
  { name := "CAM_STATUS", base := 0x6009, sub := 1, ty := 15, acc := .camera, per := .volatile, stride := 32, insts := 8, mem := [2, 4, 3, 4] },
  { name := "CAM_COUNTS", base := 0x6009, sub := 2, ty := 15, acc := .camera, per := .volatile, stride := 32, insts := 8, mem := List.replicate 15 5 },
  { name := "TIME_STATE", base := 0x1600, sub := 1, ty := 2, acc := .pub, per := .volatile, mem := [2], hi := 255 },
  { name := "TIME_NOW", base := 0x1600, sub := 2, ty := 11, acc := .pub, per := .volatile, mem := [11], hi := 79228162514264337593543950335 },
  { name := "INCREMENT_ACTIVE", base := 0x1600, sub := 3, ty := 5, acc := .operator, per := .volatile, mem := [5], hi := 18446744073709551615 },
  { name := "RATE_PPB", base := 0x1600, sub := 4, ty := 8, acc := .pub, per := .volatile, mem := [8], hi := 4294967295 }]

/-- Objects, part 5 of the table. -/
def objRows5 : List ObjRow := [
  { name := "OFFSET_NS", base := 0x1600, sub := 5, ty := 9, acc := .operator, per := .volatile, mem := [9], hi := 18446744073709551615 },
  { name := "MEAN_PATH_NS", base := 0x1600, sub := 6, ty := 9, acc := .operator, per := .volatile, mem := [9], hi := 18446744073709551615 },
  { name := "TIME_GENERATION", base := 0x1600, sub := 7, ty := 4, acc := .pub, per := .volatile, mem := [4], hi := 4294967295 },
  { name := "SLEEP_PPB", base := 0x1600, sub := 8, ty := 8, acc := .operator, per := .volatile, mem := [8], hi := 4294967295 },
  { name := "FREQ_PPB", base := 0x1600, sub := 9, ty := 8, acc := .operator, per := .volatile, mem := [8], hi := 4294967295 },
  { name := "PTP_ENABLE", base := 0x1610, sub := 1, ty := 1, acc := .operator, per := .saved, wr := true, mem := [1], dflt := [1], hi := 1 },
  { name := "PTP_PROFILE", base := 0x1610, sub := 2, ty := 2, acc := .operator, per := .saved, wr := true, mem := [2], dflt := [1], hi := 1 },
  { name := "PTP_DOMAIN", base := 0x1610, sub := 3, ty := 2, acc := .operator, per := .saved, wr := true, mem := [2], hi := 127 },
  { name := "PTP_TRANSPORT", base := 0x1610, sub := 4, ty := 2, acc := .operator, per := .saved, wr := true, mem := [2], dflt := [2], lo := 1, hi := 7 },
  { name := "PTP_DELAY_MECH", base := 0x1610, sub := 5, ty := 2, acc := .operator, per := .saved, wr := true, mem := [2], dflt := [1], lo := 1, hi := 2 },
  { name := "PTP_VLAN", base := 0x1610, sub := 6, ty := 3, acc := .operator, per := .saved, wr := true, mem := [3], dflt := [65535], hi := 65535 },
  { name := "TC_MODE", base := 0x1610, sub := 7, ty := 2, acc := .operator, per := .saved, wr := true, mem := [2], dflt := [1], hi := 2 },
  { name := "LOCK_THRESHOLD_NS", base := 0x1610, sub := 8, ty := 4, acc := .operator, per := .saved, wr := true, mem := [4], dflt := [1000], lo := 50, hi := 1000000 },
  { name := "STEP_THRESHOLD_NS", base := 0x1610, sub := 9, ty := 4, acc := .operator, per := .saved, wr := true, mem := [4], dflt := [100000], lo := 51, hi := 1000000000 },
  { name := "PHASE_TC_MS", base := 0x1610, sub := 10, ty := 4, acc := .operator, per := .saved, wr := true, mem := [4], dflt := [2000], lo := 250, hi := 100000 },
  { name := "FREQ_WINDOW", base := 0x1610, sub := 11, ty := 2, acc := .operator, per := .saved, wr := true, mem := [2], dflt := [16], lo := 4, hi := 64 },
  { name := "TIME_RESTEP", base := 0x1610, sub := 12, ty := 1, acc := .operator, per := .saved, wr := true, mem := [1], hi := 1 },
  { name := "TIME_SET", base := 0x1610, sub := 13, ty := 11, acc := .operator, per := .volatile, wr := true, rd := false, mem := [11], hi := 79228162514264337593543950335 },
  { name := "PTP_PORT", base := 0x1620, sub := 1, ty := 15, acc := .operator, per := .saved, subs := 2, wr := true, mem := [8, 2, 8] },
  { name := "PTP_PARENT", base := 0x1630, sub := 1, ty := 15, acc := .operator, per := .volatile, mem := [266, 264, 2, 3, 2] },
  { name := "PTP_COUNTS", base := 0x1630, sub := 2, ty := 15, acc := .operator, per := .volatile, mem := List.replicate 12 5 },
  { name := "TRIG_OWNER", base := 0x1700, sub := 1, ty := 2, acc := .operator, per := .saved, stride := 1, insts := 16, wr := true, mem := [2], dflt := [255], hi := 255 },
  { name := "TRIG_CFG", base := 0x1700, sub := 2, ty := 15, acc := .trig, per := .saved, stride := 1, insts := 16, wr := true, mem := [1, 5, 4, 4, 5, 4, 1, 2, 2, 4], dflt := List.replicate 7 0 ++ [255, 255, 0] },
  { name := "TRIG_CFG_OPERATOR", base := 0x1700, sub := 3, ty := 15, acc := .operator, per := .saved, stride := 1, insts := 16, wr := true, mem := [1, 5, 4, 4, 5, 4, 1, 2, 2, 4], dflt := List.replicate 7 0 ++ [255, 255, 0] },
  { name := "TRIG_STATUS", base := 0x1700, sub := 4, ty := 15, acc := .trigStatus, per := .volatile, stride := 1, insts := 16, mem := [2, 11, 5, 5, 4] },
  { name := "CAP_OWNER", base := 0x1780, sub := 1, ty := 2, acc := .operator, per := .saved, stride := 1, insts := 16, wr := true, mem := [2], dflt := [255], hi := 255 },
  { name := "CAP_CFG", base := 0x1780, sub := 2, ty := 15, acc := .capture, per := .saved, stride := 1, insts := 16, wr := true, mem := [1, 2, 2] },
  { name := "CAP_RECORDS", base := 0x1780, sub := 3, ty := 14, acc := .capture, per := .volatile, stride := 1, insts := 16, rd := false, maxLen := 4294967295 },
  { name := "CAP_STATUS", base := 0x1780, sub := 4, ty := 15, acc := .capture, per := .volatile, stride := 1, insts := 16, mem := [5, 5] },
  { name := "PORT_CFG", base := 0x1800, sub := 1, ty := 15, acc := .operator, per := .saved, subs := 2, wr := true, mem := [1, 2, 1, 1, 3, 2] },
  { name := "PORT_STATUS", base := 0x1800, sub := 3, ty := 15, acc := .pub, per := .volatile, subs := 2, mem := [2, 2, 1] },
  { name := "VLAN_TABLE", base := 0x1800, sub := 5, ty := 14, acc := .operator, per := .saved, wr := true, maxLen := 4294967295 },
  { name := "IP_CFG", base := 0x1800, sub := 6, ty := 15, acc := .operator, per := .saved, wr := true, mem := [260, 2, 260, 272, 2] },
  { name := "MAC_BASE", base := 0x1800, sub := 7, ty := 12, acc := .pub, per := .fuse, mem := [262] },
  { name := "BRIDGE_COUNTS", base := 0x1800, sub := 8, ty := 15, acc := .operator, per := .volatile, mem := List.replicate 12 5 },
  { name := "PCIE_STATUS", base := 0x1900, sub := 1, ty := 15, acc := .operator, per := .volatile, mem := [2, 2, 2, 5, 5] },
  { name := "MGMT_IP_CFG", base := 0x1900, sub := 2, ty := 15, acc := .management, per := .saved, wr := true, mem := [260, 2, 260, 272, 2] },
  { name := "RX_PARTITION", base := 0x5000, sub := 1, ty := 2, acc := .operator, per := .saved, stride := 1, insts := 1024, wr := true, mem := [2], dflt := [255], hi := 255 },
  { name := "RX_STREAM", base := 0x5000, sub := 2, ty := 15, acc := .operator, per := .saved, stride := 1, insts := 1024, wr := true, mem := [1, 2, 272, 272, 3] ++ List.replicate 5 2 ++ [3, 4, 4, 3] },
  { name := "RX_STATUS", base := 0x5000, sub := 3, ty := 15, acc := .rx, per := .volatile, stride := 1, insts := 1024, mem := [1, 4] ++ List.replicate 5 5 ++ [4] },
  { name := "TX_PARTITION", base := 0x5400, sub := 1, ty := 2, acc := .operator, per := .saved, stride := 1, insts := 64, wr := true, mem := [2], dflt := [255], hi := 255 },
  { name := "TX_STREAM", base := 0x5400, sub := 2, ty := 15, acc := .operator, per := .saved, stride := 1, insts := 64, wr := true, mem := [1, 2, 272, 272, 3] ++ List.replicate 5 2 ++ [3, 4, 4, 3, 2, 4] },
  { name := "TX_SOURCE", base := 0x5400, sub := 3, ty := 15, acc := .tx, per := .saved, stride := 1, insts := 64, wr := true, mem := [2] },
  { name := "TX_STATUS", base := 0x5400, sub := 4, ty := 15, acc := .tx, per := .volatile, stride := 1, insts := 64, mem := [5, 5] },
  { name := "POWER_REQUEST", base := 0x1400, sub := 1, ty := 2, acc := .operator, per := .volatile, wr := true, rd := false, mem := [2], lo := 1, hi := 5 },
  { name := "TRANSITION_STATE", base := 0x1400, sub := 2, ty := 15, acc := .pub, per := .volatile, mem := [2, 2, 2, 4] },
  { name := "POWER_ALARM", base := 0x1400, sub := 3, ty := 15, acc := .operator, per := .volatile, wr := true, mem := [1, 11, 2], dflt := [0, 0, 4] },
  { name := "WAKE_REASON", base := 0x1400, sub := 4, ty := 2, acc := .pub, per := .volatile, mem := [2], hi := 255 },
  { name := "WAKE_PIN_MODE", base := 0x1400, sub := 5, ty := 2, acc := .operator, per := .saved, wr := true, mem := [2], dflt := [4], lo := 2, hi := 4 },
  { name := "DOMAIN_STATE", base := 0x1410, sub := 1, ty := 2, acc := .pub, per := .volatile, subs := 116, mem := [2], hi := 255 },
  { name := "REFUSAL_COUNT", base := 0x1420, sub := 1, ty := 4, acc := .pub, per := .volatile, mem := [4], hi := 4294967295 },
  { name := "REFUSAL_LOG", base := 0x1420, sub := 2, ty := 14, acc := .pub, per := .volatile, maxLen := 4294967295 },
  { name := "REFUSAL_LOST", base := 0x1420, sub := 3, ty := 4, acc := .pub, per := .volatile, mem := [4], hi := 4294967295 },
  { name := "REFUSAL_CLEAR", base := 0x1420, sub := 4, ty := 1, acc := .pub, per := .volatile, wr := true, rd := false, mem := [1], hi := 1 },
  { name := "POWER_COUNTS", base := 0x1430, sub := 1, ty := 15, acc := .operator, per := .volatile, mem := List.replicate 12 5 },
  { name := "POWER_CAP_DEVICE_MW", base := 0x1440, sub := 1, ty := 4, acc := .operator, per := .saved, wr := true, mem := [4], dflt := [165000], lo := 35000, hi := 165000 },
  { name := "UNCORE_ALLOWANCE_MW", base := 0x1440, sub := 2, ty := 4, acc := .pub, per := .fuse, mem := [4], dflt := [25000], hi := 4294967295 },
  { name := "CAP_SHARES", base := 0x1440, sub := 3, ty := 15, acc := .operator, per := .volatile, mem := List.replicate 8 4 },
  { name := "SUPPLY_STATUS", base := 0x1450, sub := 1, ty := 15, acc := .operator, per := .volatile, mem := [3, 3, 1, 1, 7] },
  { name := "POWER_VIEW", base := 0x3002, sub := 1, ty := 15, acc := .area, per := .volatile, stride := 256, insts := 8, mem := [4, 2, 5, 5, 5] }]

/-- Objects, part 6 of the table. -/
def objRows6 : List ObjRow := [
  { name := "SECURITY_VERSION", base := 0x1B00, sub := 1, ty := 2, acc := .pub, per := .fuse, wr := true, mem := [2], hi := 255 },
  { name := "LIFECYCLE", base := 0x1B00, sub := 2, ty := 2, acc := .pub, per := .fuse, mem := [2], dflt := [1], hi := 255 },
  { name := "DEBUG_STATE", base := 0x1B00, sub := 3, ty := 4, acc := .pub, per := .volatile, mem := [4], hi := 4294967295 },
  { name := "MGMT_TRUST", base := 0x1B10, sub := 1, ty := 14, acc := .management, per := .saved, wr := true, maxLen := 4294967295 },
  { name := "OPERATOR_CREDENTIALS", base := 0x1B10, sub := 2, ty := 14, acc := .management, per := .saved, wr := true, maxLen := 4294967295 },
  { name := "ATTEST_NONCE_DEVICE", base := 0x1B20, sub := 1, ty := 12, acc := .operator, per := .volatile, wr := true, rd := false, mem := [304] },
  { name := "ATTEST_REPORT_DEVICE", base := 0x1B20, sub := 2, ty := 14, acc := .operator, per := .volatile, maxLen := 4294967295 },
  { name := "KEY_SLOTS", base := 0x1B30, sub := 1, ty := 15, acc := .operator, per := .volatile, mem := List.replicate 8 2 },
  { name := "SECURITY_COUNTS", base := 0x1B40, sub := 1, ty := 15, acc := .operator, per := .volatile, mem := List.replicate 6 5 },
  { name := "TENANT_PCIE_TAG", base := 0x3050, sub := 1, ty := 1, acc := .area, per := .saved, stride := 256, insts := 8, wr := true, mem := [1], hi := 1 },
  { name := "TRACE_CONSENT", base := 0x3050, sub := 2, ty := 1, acc := .area, per := .saved, stride := 256, insts := 8, wr := true, mem := [1], hi := 1 },
  { name := "TENANT_ENROL", base := 0x3051, sub := 1, ty := 15, acc := .operator, per := .volatile, stride := 256, insts := 8, wr := true, rd := false, mem := [4, 353] },
  { name := "TENANT_RELEASE", base := 0x3051, sub := 2, ty := 1, acc := .operator, per := .volatile, stride := 256, insts := 8, wr := true, rd := false, mem := [1], hi := 1 },
  { name := "TENANT_VIEW", base := 0x3051, sub := 3, ty := 15, acc := .operator, per := .volatile, stride := 256, insts := 8, mem := [2, 4, 2] },
  { name := "CREDENTIALS", base := 0x3052, sub := 1, ty := 14, acc := .area, per := .saved, stride := 256, insts := 8, wr := true, maxLen := 4294967295 },
  { name := "PATTERN_KEYS", base := 0x3052, sub := 2, ty := 14, acc := .area, per := .saved, stride := 256, insts := 8, wr := true, maxLen := 4294967295 },
  { name := "PUBLISHERS", base := 0x3052, sub := 3, ty := 14, acc := .area, per := .saved, stride := 256, insts := 8, wr := true, maxLen := 4294967295 },
  { name := "KEY_IMPORT", base := 0x3053, sub := 1, ty := 15, acc := .area, per := .volatile, stride := 256, insts := 8, wr := true, rd := false, mem := [353, 288, 272] },
  { name := "KEY_STATUS", base := 0x3053, sub := 2, ty := 15, acc := .area, per := .volatile, stride := 256, insts := 8, mem := [1, 272, 4, 4] },
  { name := "KEY_DESTROY", base := 0x3053, sub := 3, ty := 1, acc := .area, per := .volatile, stride := 256, insts := 8, wr := true, rd := false, mem := [1], hi := 1 },
  { name := "TENANT_SCRUB", base := 0x3054, sub := 1, ty := 1, acc := .area, per := .volatile, stride := 256, insts := 8, wr := true, rd := false, mem := [1], hi := 1 },
  { name := "ATTEST_NONCE", base := 0x3055, sub := 1, ty := 12, acc := .area, per := .volatile, stride := 256, insts := 8, wr := true, rd := false, mem := [304] },
  { name := "ATTEST_REPORT", base := 0x3055, sub := 2, ty := 14, acc := .area, per := .volatile, stride := 256, insts := 8, maxLen := 4294967295 },
  { name := "START_REASON", base := 0x1300, sub := 1, ty := 3, acc := .pub, per := .volatile, mem := [3], hi := 65535 },
  { name := "START_KIND", base := 0x1300, sub := 2, ty := 2, acc := .pub, per := .volatile, mem := [2], hi := 255 },
  { name := "COLD_STARTS", base := 0x1300, sub := 3, ty := 4, acc := .pub, per := .saved, mem := [4], hi := 4294967295 },
  { name := "WARM_STARTS", base := 0x1300, sub := 4, ty := 4, acc := .pub, per := .saved, mem := [4], hi := 4294967295 },
  { name := "START_TIMES", base := 0x1300, sub := 5, ty := 15, acc := .operator, per := .volatile, mem := List.replicate 16 4 },
  { name := "WARM_RESET", base := 0x1300, sub := 6, ty := 1, acc := .operator, per := .volatile, wr := true, rd := false, mem := [1], hi := 1 },
  { name := "COLD_RESET", base := 0x1300, sub := 7, ty := 1, acc := .operator, per := .volatile, wr := true, rd := false, mem := [1], hi := 1 },
  { name := "RECOVERY_COUNTS", base := 0x1300, sub := 8, ty := 15, acc := .operator, per := .volatile, mem := List.replicate 6 5 },
  { name := "DRAM_TRAIN_DRIFT_C", base := 0x1301, sub := 1, ty := 2, acc := .operator, per := .saved, wr := true, mem := [2], dflt := [20], lo := 5, hi := 40 },
  { name := "TRAINING_STATE", base := 0x1301, sub := 2, ty := 15, acc := .operator, per := .saved, mem := [7, 11, 2, 7, 11, 2, 7, 11, 2, 7, 11, 2, 7, 11, 2, 7, 11, 2, 7, 11, 2, 7, 11, 2] },
  { name := "SAVED_STATE", base := 0x1301, sub := 3, ty := 15, acc := .operator, per := .volatile, mem := [4, 2, 1] },
  { name := "FIRMWARE_BANKS", base := 0x1330, sub := 1, ty := 15, acc := .pub, per := .volatile, mem := [2, 4, 4, 2, 2, 2, 4, 4, 2, 2, 2, 4, 4, 2, 2, 2, 4, 4, 2, 2] },
  { name := "FIRMWARE_STAGE", base := 0x1330, sub := 2, ty := 14, acc := .management, per := .volatile, wr := true, rd := false, maxLen := 4294967295 },
  { name := "FIRMWARE_COMMIT", base := 0x1330, sub := 3, ty := 1, acc := .management, per := .volatile, wr := true, rd := false, mem := [1], hi := 1 },
  { name := "CORE_IMAGE", base := 0x3003, sub := 1, ty := 2, acc := .operator, per := .saved, stride := 256, insts := 8, wr := true, mem := [2], hi := 3 },
  { name := "TRACE_DEVICE_KINDS", base := 0x1C00, sub := 1, ty := 4, acc := .operator, per := .saved, wr := true, mem := [4], hi := 31 },
  { name := "TRACE_EXPORT_MASK", base := 0x1C00, sub := 2, ty := 3, acc := .management, per := .saved, wr := true, mem := [3], dflt := [256], hi := 511 },
  { name := "JTAG_TRACE_ENABLE", base := 0x1C00, sub := 3, ty := 1, acc := .management, per := .saved, wr := true, mem := [1], hi := 1 },
  { name := "TRACE_HUB_STATUS", base := 0x1C00, sub := 4, ty := 15, acc := .operator, per := .volatile, mem := List.replicate 27 5 },
  { name := "TRACE_STREAM", base := 0x1C10, sub := 1, ty := 14, acc := .management, per := .volatile, rd := false, maxLen := 4294967295 },
  { name := "TRACE_KINDS", base := 0x3070, sub := 1, ty := 3, acc := .area, per := .saved, stride := 256, insts := 8, wr := true, mem := [3], hi := 127 },
  { name := "STROKE_SAMPLE_SHIFT", base := 0x3070, sub := 2, ty := 2, acc := .area, per := .saved, stride := 256, insts := 8, wr := true, mem := [2], dflt := [8], hi := 16 },
  { name := "TRACE_RING", base := 0x3070, sub := 3, ty := 5, acc := .area, per := .volatile, stride := 256, insts := 8, wr := true, mem := [5], hi := 18446744073709551615 },
  { name := "TRACE_STATUS", base := 0x3070, sub := 4, ty := 15, acc := .area, per := .volatile, stride := 256, insts := 8, mem := [5, 5, 5, 5] },
  { name := "PARTITION_COUNTS", base := 0x3071, sub := 1, ty := 15, acc := .area, per := .volatile, stride := 256, insts := 8, mem := List.replicate 13 5 }]

/-- Every object of the part. -/
def objRows : List ObjRow :=
  objRows1 ++ objRows2 ++ objRows3 ++ objRows4 ++ objRows5 ++ objRows6

end Sys2Proof.Machine
end

