-- ==== Sys2Proof/Machine/Dict.lean ====
section
/-! DEFINITION. The dictionary as every request meets it: finding an object, its value, and the checks of
R79 in their order. -/

namespace Sys2Proof.Machine

/-! ### Rows and values -/

/-- The bytes a member of a record takes (R45). -/
def memberWidth (m : Nat) : Nat :=
  if m ≥ 0x100 then m - 0x100 else
  match m with
  | 1 => 1 | 2 => 1 | 3 => 2 | 4 => 4 | 5 => 8 | 6 => 1 | 7 => 2 | 8 => 4 | 9 => 8 | 10 => 4 | 11 => 12 | _ => 0

/-- Whether a row stands at an index: its instance numbers. -/
def ObjRow.at? (r : ObjRow) (idx : Nat) : Option (Nat × Nat) :=
  if idx < r.base then none else
  let d := idx - r.base
  let i := d / r.stride
  let e := d % r.stride
  if r.insts = 1 ∧ r.insts2 = 1 then (if d = 0 then some (0, 0) else none)
  else if i < r.insts ∧ e % r.stride2 = 0 ∧ e / r.stride2 < r.insts2 then some (i, e / r.stride2) else none

/-- The rows that stand at an index. -/
def rowsAt (idx : Nat) : List ObjRow := objRows.filter fun r => (r.at? idx).isSome

/-- The row of an object. -/
def findRow (idx sub : Nat) : Option ObjRow :=
  objRows.find? fun r => (r.at? idx).isSome && decide (r.sub ≤ sub) && decide (sub < r.sub + r.subs)

/-- A record's bytes from the numbers of its members. -/
def encodeMembers : List Nat → List Nat → Bytes
  | [], _ => []
  | m :: ms, [] => be (memberWidth m) 0 ++ encodeMembers ms []
  | m :: ms, v :: vs => be (memberWidth m) v ++ encodeMembers ms vs

/-- The default of an object (a default the tables do not print is zeros, assumption 5). -/
def ObjRow.default (r : ObjRow) : Bytes := encodeMembers r.mem r.dflt

/-- The length of a value of fixed size. -/
def ObjRow.size? (r : ObjRow) : Option Nat :=
  if r.mem = [] then none else some ((r.mem.map memberWidth).sum)

/-- Whether a value's length suits the object (R56): OCTETS take 0 to their maximum (R45). -/
def ObjRow.fitsLength (r : ObjRow) (n : Nat) : Bool := match r.size? with
  | some k => if r.ty = 12 then decide (n ≤ k) else n == k
  | none => decide (n ≤ r.maxLen)

/-- The place of an object's value in the dictionary's store. -/
def okey (part idx sub : Nat) : Nat := part * 2 ^ 24 + idx * 256 + sub

/-- The value of an object that holds what was last written (R53). -/
def State.obj (s : State) (part idx sub : Nat) : Bytes :=
  match kvGet s.dict (okey part idx sub) with
  | some v => v
  | none => match findRow idx sub with
    | some r => r.default
    | none => []

/-- Gives an object a value; the default is not listed, so equal dictionaries are equal data. -/
def State.setObj (part idx sub : Nat) (v : Bytes) (s : State) : State :=
  let dflt := match findRow idx sub with
    | some r => r.default
    | none => []
  { s with dict := kvSet s.dict (okey part idx sub) (if v = dflt then none else some v) }

/-- The number an object of the device holds. -/
def State.cfg (s : State) (idx sub : Nat) : Nat := ofBE (s.obj 0 idx sub)

/-- The number an object of partition p's area holds. -/
def State.area (s : State) (p off sub : Nat) : Nat := s.cfg (0x3000 + 0x100 * p + off) sub

/-- The number an object of a context's four indexes holds. -/
def State.ctxCfg (s : State) (p c off sub : Nat) : Nat := s.cfg (0x3010 + 0x100 * p + 4 * c + off) sub

/-- Where a member of a record begins. -/
def memberOffset (ms : List Nat) (k : Nat) : Nat := ((ms.take k).map memberWidth).sum

/-- The number a member of a record holds. -/
def memberAt (ms : List Nat) (v : Bytes) (k : Nat) : Nat :=
  ofBE (slice v (memberOffset ms k) (memberWidth (ms.getD k 0)))

/-- The member list of an object's row. -/
def rowMem (idx sub : Nat) : List Nat := match findRow idx sub with
  | some r => r.mem
  | none => []

/-- The number a member of a stored record holds. -/
def State.field (s : State) (part idx sub k : Nat) : Nat := memberAt (rowMem idx sub) (s.obj part idx sub) k

/-- The cascade partition (0x1310.04). -/
def State.cascadePart (s : State) : Nat := s.cfg 0x1310 4

/-! ### Legal values (R45) -/

/-- Whether the bytes of one member are a legal value of its type. -/
def legalMember (m : Nat) (b : Bytes) : Bool :=
  match m with
  | 1 => decide (ofBE b ≤ 1)
  | 10 => bits (ofBE b) 30 23 != 255
  | 11 => decide (ofBE (b.drop 8) ≤ 999999999)
  | _ => true

/-- Whether every member of a record is legal. -/
def legalMembers : List Nat → Bytes → Bool
  | [], _ => true
  | m :: ms, b => legalMember m (b.take (memberWidth m)) && legalMembers ms (b.drop (memberWidth m))

/-- Whether bytes are well-formed UTF-8: lengths of sequences and their continuation bytes. -/
def utf8 : Nat → Bytes → Bool
  | 0, [] => true
  | 0, _ :: _ => false
  | _ + 1, [] => true
  | n + 1, b :: r =>
    let x := b.toNat
    let cont := fun (k : Nat) => (r.take k).length == k && (r.take k).all fun c => c.toNat / 64 == 2
    let c1 := (r.headD 0).toNat
    if x < 0x80 then utf8 n r
    else if 0xC2 ≤ x ∧ x ≤ 0xDF then cont 1 && utf8 n (r.drop 1)
    else if 0xE0 ≤ x ∧ x ≤ 0xEF then
      cont 2 && (x != 0xE0 || decide (0xA0 ≤ c1)) && (x != 0xED || decide (c1 < 0xA0)) && utf8 n (r.drop 2)
    else if 0xF0 ≤ x ∧ x ≤ 0xF4 then
      cont 3 && (x != 0xF0 || decide (0x90 ≤ c1)) && (x != 0xF4 || decide (c1 < 0x90)) && utf8 n (r.drop 3)
    else false

/-- The value test that a row's type and bounds give. A mask of OCTETS that is not whole is out of range (DEDUCED,
assumption 35). -/
def ObjRow.legal (r : ObjRow) (v : Bytes) : Bool :=
  legalMembers r.mem v && (match r.size? with
    | some k => v.length == k
    | none => true) && (r.ty != 13 || utf8 v.length v) &&
  (!(decide (2 ≤ r.ty) && decide (r.ty ≤ 5)) || (decide (r.lo ≤ ofBE v) && decide (ofBE v ≤ r.hi)))

/-! ### Finding an object (R44, R46 to R49) -/

/-- The RECORD objects' rows, in the table's order. -/
def recordRows : List ObjRow := objRows.filter fun r => r.ty == 15

/-- The j-th number that an ascending list leaves out. -/
def leftOut : List Nat → Nat → Nat
  | [], j => j
  | t :: r, j => if t ≤ j then leftOut r (j + 1) else j

/-- Puts a number into an ascending list. -/
def insertRising (a : Nat) : List Nat → List Nat
  | [] => [a]
  | t :: r => if a ≤ t then a :: t :: r else t :: insertRising a r

/-- The places of `n` definitions beyond those already `taken`, no two alike (R46). -/
def definitionPlaces : Nat → List Nat → List Nat
  | 0, _ => []
  | n + 1, taken =>
    let j := leftOut taken (Config.freeNat (10 ^ 30 + taken.length) % (0xFE0 - taken.length))
    j :: definitionPlaces n (insertRising j taken)

/-- The definition index of the k-th RECORD row, which the firmware fixes: each RECORD has one of its own (R46, assumptions 3 and 58). -/
def definitionIndex (k : Nat) : Nat := 0x20 + (definitionPlaces (k + 1) []).getD k 0

/-- The index of a member's type. -/
def memberType (m : Nat) : Nat := if 0x100 ≤ m then 0x0C else m

/-- The bytes of a base type, 0 where it varies (R46). -/
def typeSize : Nat → Nat
  | 1 => 1 | 2 => 1 | 3 => 2 | 4 => 4 | 5 => 8 | 6 => 1 | 7 => 2 | 8 => 4 | 9 => 8 | 10 => 4 | 11 => 12 | _ => 0

/-- The highest subindex in use at an index (R44). -/
def highestSub (idx : Nat) : Nat := (rowsAt idx).foldl (fun m r => max m (r.sub + r.subs - 1)) 0

/-- The RECORD row that a definition index describes. -/
def definedRow (idx : Nat) : Option ObjRow :=
  if 0x20 ≤ idx ∧ idx ≤ 0x0FFF then ((definitionPlaces recordRows.length []).idxOf? (idx - 0x20)).bind fun k => recordRows[k]? else none

/-- The objects that R44 and R46 describe, all PUBLIC and read only: subindex 0 of every index, the sizes of the base types, and the
record definitions. Their type and value. -/
def metaValue (idx sub : Nat) : Option (Nat × Bytes) :=
  if 1 ≤ idx ∧ idx ≤ 0x0F then (if sub = 0 then some (2, [1]) else if sub = 1 then some (4, be 4 (typeSize idx)) else none)
  else match definedRow idx with
    | some r => if sub = 0 then some (2, be 1 r.mem.length) else if sub ≤ r.mem.length then some (3, be 2 (memberType (r.mem.getD (sub - 1) 0))) else none
    | none => if sub = 0 ∧ rowsAt idx ≠ [] then some (2, be 1 (highestSub idx)) else none

/-- Whether an index exists. -/
def indexExists (idx : Nat) : Bool := (decide (1 ≤ idx) && decide (idx ≤ 0x0F)) || !(rowsAt idx).isEmpty || (definedRow idx).isSome

/-- What the part serves where no bank of an image verifies (R563). -/
def inRecovery (idx sub : Nat) : Bool := idx == 0x1000 || (idx == 0x1300 && sub == 1) || (idx == 0x1330 && (sub == 1 || sub == 2))

/-- The partition an object of the given kind belongs to, by the object that names its owner. -/
def State.ownerOf (s : State) (a : Acc) (i : Nat) : Nat :=
  match a with
  | .slot => s.cfg (0x4000 + i) 1
  | .camera => s.cfg (0x6000 + 0x20 * i) 1
  | .rx => s.cfg (0x5000 + i) 1
  | .tx => s.cfg (0x5400 + i) 1
  | .trig => s.cfg (0x1700 + i) 1
  | .trigStatus => s.cfg (0x1700 + i) 1
  | .capture => s.cfg (0x1780 + i) 1
  | .cascade => s.cascadePart
  | _ => i

/-- Checks 6 and 7 of R79: the code of the first that fails, or the object. Objects that only an owner
reaches answer as absent to everyone else (R259, R445, R466, R470, R484). -/
def State.resolve (s : State) (w : Who) (idx sub : Nat) : Nat ⊕ Target :=
  if !indexExists idx ∨ (s.ras.recovery ∧ !inRecovery idx sub) then .inl 0x0E04 else
  match findRow idx sub with
  | none => .inl 0x0E05
  | some r =>
    let ij := (r.at? idx).getD (0, 0)
    let t : Target := { row := r, i := ij.1, j := ij.2, part := 0, index := idx, sub := sub }
    match r.acc with
    | .pub => .inr t
    | .operator => if w.operator then .inr t else .inl 0x0E06
    | .management => if w.management then .inr t else .inl 0x0E06
    | .tenant => match w.tenant with
      | some p => .inr { t with part := p }
      | none => .inl 0x0E06
    | .area => if w.tenant = some ij.1 then .inr t else .inl 0x0E06
    | .cascade => match w.tenant with
      | some p => if p = s.cascadePart then .inr { t with part := p } else .inl 0x0E06
      | none => .inl 0x0E06
    | .camera => if w.tenant = some (s.ownerOf .camera ij.1) then .inr t else .inl 0x0E04
    | .rx => if w.tenant = some (s.ownerOf .rx ij.1) then .inr t else .inl 0x0E04
    | .tx => if w.tenant = some (s.ownerOf .tx ij.1) then .inr t else .inl 0x0E06
    | .slot => if w.tenant = some (s.ownerOf .slot ij.1) then .inr t else .inl 0x0E04
    | .trig => if w.tenant = some (s.ownerOf .trig ij.1) then .inr t else .inl 0x0E04
    | .trigStatus =>
      if w.tenant = some (s.ownerOf .trigStatus ij.1) ∨ (s.ownerOf .trigStatus ij.1 = 0xFF ∧ w.operator) then .inr t
      else .inl 0x0E04
    | .capture =>
      if w.tenant = some (s.ownerOf .capture ij.1) ∨ (s.ownerOf .capture ij.1 = 0xFF ∧ w.operator) then .inr t
      else .inl 0x0E04

/-! ### Answers -/

/-- Counts in ONNUM_COUNTS (0x1250.10). -/
def State.countOnnum (i : Nat) (s : State) : State := { s with svc := { s.svc with counts := bump s.svc.counts i } }

/-- The bins of ONNUM_LATENCY that R68 leaves open to a response: the first and how many. A READ, and a WRITE of a VOLATILE object, take 4
to 250 µs, and a SAVED write at most 30 ms, unless a brace held its program; a bin 16 stands for a longer time, which no bin counts. -/
def latencyBins (f : Frame) (braced : Bool) : Nat × Nat :=
  if f.op = 1 then (2, 6)
  else match findRow f.index f.sub with
    | some r => if r.per = .volatile then (2, 6) else if r.per = .saved ∧ !braced then (0, 15) else (0, 17)
    | none => (0, 17)

/-- Counts the time of a response to a READ or a WRITE in ONNUM_LATENCY (0x1250.11, R68): a free time within its bounds. -/
def State.timeOnnum (f : Frame) (braced : Bool) (s : State) : State :=
  let b := latencyBins f braced
  let k := Config.freeNat (10 ^ 31 * (1 + s.nowNs) + s.svc.counts.getD 1 0)
  if f.op = 1 ∨ f.op = 2 then { s with svc := { s.svc with latency := bump s.svc.latency (b.1 + k % b.2) } } else s

/-! ### Frames on the wire (R54, R63) -/

/-- The 20 bytes of a frame's header and its payload, which its tag covers (R63). -/
def wireBytes (f : Frame) : Bytes :=
  [byteOf f.version, byteOf (f.op + (if f.response then 128 else 0)), byteOf f.flags, byteOf f.typ] ++ be 4 f.session ++ be 4 f.seq ++
  be 2 f.index ++ [byteOf f.sub, byteOf f.reserved] ++ be 2 f.payload.length ++ be 2 f.status ++ f.payload

/-- The bytes a frame takes with its tag. -/
def frameLength (f : Frame) : Nat := 20 + f.payload.length + (if f.flags.testBit 2 then 16 else 0)

/-- The tag of a frame under a session key: the first 16 bytes of HMAC-SHA-384 over the header and the payload (R63). -/
def tagOf (key : Bytes) (f : Frame) : Bytes := (List.range 16).map (Config.hmac384 key (wireBytes f))

/-- A frame that the part sends, with the tag of its session where it has TAGGED set (R63). -/
def State.sign (s : State) (f : Frame) : Frame :=
  if f.flags.testBit 2 then (match s.svc.sessions.find? fun e => e.id == f.session with
    | some e => { f with tag := tagOf e.key f }
    | none => f)
  else f

/-- The response to a request (R54, R55). -/
def responseTo (f : Frame) (tagged : Bool) (status typ : Nat) (payload : Bytes) : Frame :=
  { version := 1, op := f.op, response := true, flags := if tagged then 4 else 0, typ := typ, session := f.session,
    seq := f.seq, index := f.index, sub := f.sub, payload := payload, status := status }

/-- Whether a request of a function is still in hand: it waits for a program, for the next second or behind another (R60). -/
def State.windowWaits (s : State) (fn : Nat) : Bool :=
  (s.svc.saving.any fun e => e.request.source == .pcie fn) || (s.svc.heldReqs.any fun e => e.1.source == .pcie fn) ||
  s.svc.queued.any fun e => e.1.source == .pcie fn

/-- Writes a frame to a function's window (R60, R61). -/
def State.windowRespond (fn : Nat) (f : Frame) (s : State) : State :=
  ({ s with svc := { s.svc with windows := s.svc.windows.modify fn fun w =>
    { w with rspBuf := some f, rspLen := frameLength f, reqPending := w.reqPending && s.windowWaits fn } } }).send (.msix fn 0)

/-- Sends a frame the way it came, with its tag (R57, R63). -/
def State.deliver (src : Source) (f : Frame) (s : State) : State :=
  match src with
  | .pcie fn => (s.windowRespond fn (s.sign f)).send (.frame src (s.sign f))
  | _ => s.send (.frame src (s.sign f))

/-- Keeps a response in the window of its session (R64). -/
def State.keep (o : Owner) (f : Frame) (s : State) : State :=
  match o with
  | .session id => { s with svc := { s.svc with sessions := s.svc.sessions.map fun e =>
      if e.id = id then { e with kept := e.kept.map fun k => if k.1 = f.seq then (k.1, some f) else k } else e } }
  | _ => s

/-- Whether a sender's frames carry the tag of a session. -/
def Who.tagged (w : Who) : Bool := match w.owner with
  | .session _ => true
  | _ => false

/-- Answers a request whose sender is known; `braced` says that a brace has held its program. -/
def State.respond (rq : Request) (w : Who) (status typ : Nat) (payload : Bytes) (s : State) (braced : Bool := false) : State :=
  let f := responseTo rq.frame w.tagged status typ payload
  (((s.keep w.owner f).timeOnnum rq.frame braced).countOnnum 1).deliver rq.source f

/-- The scope a sender's errors are logged under (R80). -/
def Who.scope (w : Who) : Nat := w.tenant.getD 0xFF

/-- Aborts a request: the answer of R78, counted and logged in the violation log with what the check found (R83). -/
def State.abort (rq : Request) (w : Who) (code : Nat) (s : State) (braced : Bool := false) : State :=
  let s := ((s.respond rq w code 0 [] braced).countOnnum 7).logViolation code w.scope (sourceCode rq.source) s.svc.detail
  { s with svc := { s.svc with detail := [] } }

/-- Notes the DETAIL of the abort that a check leads to. -/
def State.because (d : Bytes) (s : State) : State := { s with svc := { s.svc with detail := d } }

/-- Answers OK with no payload. -/
def State.ok (rq : Request) (w : Who) (s : State) (braced : Bool := false) : State := s.respond rq w 0 0 [] braced

/-! ### Checks 1 to 5 of R79 -/

/-- The sender of a frame that carries no session. -/
def plainWho (src : Source) : Who :=
  match src with
  | .eth _ _ => { owner := .anon src, source := src }
  | .udp _ _ => { owner := .anon src, source := src }
  | .pcie 0 => { owner := .fn 0, source := src, operator := true }
  | .pcie (p + 1) => { owner := .fn (p + 1), source := src, tenant := some p }
  | .mgmt c => { owner := .tls c, source := src, operator := true, management := true }

/-- The operation codes of R55. -/
def knownOp (op : Nat) : Bool := (decide (1 ≤ op) && decide (op ≤ 9)) || op == 0x10 || op == 0x11

/-- Check 2 of R79: who sends the frame, an abort code, or none where the frame is discarded. -/
def State.sender (s : State) (rq : Request) : Option (Nat ⊕ Who) :=
  let f := rq.frame
  let tagged := f.flags.testBit 2
  let inSession := fun (want : Option Nat) (id : Nat) =>
    match s.svc.sessions.find? (fun e => e.id == id) with
    | none => some (.inl 0x0E0D)
    | some e =>
      if want.isSome ∧ e.tenant ≠ want then some (.inl 0x0E0D)
      else if !tagged then some (.inl 0x0E0D)
      else if !rq.tagOk then none
      else some (.inr { owner := .session id, source := rq.source, tenant := e.tenant, operator := e.tenant.isNone })
  match rq.source with
  | .eth _ _ => if f.session = 0 then (if tagged then some (.inl 0x0E03) else some (.inr (plainWho rq.source))) else inSession none f.session
  | .udp _ _ => if f.session = 0 then (if tagged then some (.inl 0x0E03) else some (.inr (plainWho rq.source))) else inSession none f.session
  | .pcie 0 => if f.session ≠ 0 ∨ tagged then some (.inl 0x0E03) else some (.inr (plainWho rq.source))
  | .pcie (p + 1) =>
    if s.area p 0x50 1 = 1 then (if tagged then inSession (some p) f.session else some (.inl 0x0E0D))
    else if f.session ≠ 0 ∨ tagged then some (.inl 0x0E03) else some (.inr (plainWho rq.source))
  | .mgmt _ => if f.session ≠ 0 ∨ tagged then some (.inl 0x0E03) else some (.inr (plainWho rq.source))

/-- What the window of a session says of a SEQ (R64). -/
inductive SeqVerdict where
  | fresh | stale
  | repeated (f : Option Frame)

/-- Check 3 of R79. -/
def State.seqVerdict (s : State) (w : Who) (seq : Nat) : SeqVerdict :=
  match w.owner with
  | .session id => match s.svc.sessions.find? (fun e => e.id == id) with
    | none => .fresh
    | some e =>
      if seq + 64 ≤ e.highest then .stale
      else match e.kept.find? (fun k => k.1 == seq) with
        | some k => .repeated k.2
        | none => .fresh
  | _ => .fresh

/-- Accepts a SEQ into the window of its session, and notes the time of a valid frame (R64, R66). -/
def State.acceptSeq (w : Who) (seq : Nat) (s : State) : State :=
  match w.owner with
  | .session id => { s with svc := { s.svc with sessions := s.svc.sessions.map fun e =>
      if e.id = id then { e with highest := max e.highest seq, kept := ((seq, none) :: e.kept).take 64, lastFrameNs := s.nowNs } else e } }
  | _ => s

/-- Notes the time of a valid frame of a session (R66). -/
def State.heard (w : Who) (s : State) : State :=
  match w.owner with
  | .session id => { s with svc := { s.svc with sessions := s.svc.sessions.map fun e => if e.id = id then { e with lastFrameNs := s.nowNs } else e } }
  | _ => s

/-- Check 5 of R79 for the header: reserved fields and the direction. -/
def reservedOk (f : Frame) : Bool := decide (f.flags < 8) && f.reserved == 0 && f.status == 0 && !f.response

/-- A frame after checks 1 to 5: answered or discarded, or its sender and the state to go on from. -/
inductive Admit where
  | stop (s : State)
  | go (w : Who) (s : State)

/-- Whether frames from a source are taken (R69): in ATTEND and ACTIVE, and in the recovery dictionary on the PCIe physical
function and the management port (R563). A frame of the management port comes over a TLS connection that is open (R47, R57, R493). -/
def State.listens (s : State) (src : Source) : Bool :=
  (match src with
    | .mgmt c => s.svc.tls.contains c
    | _ => true) &&
  if s.ras.recovery then (match src with
    | .pcie 0 => true
    | .mgmt _ => true
    | _ => false)
  else s.serving && decide (4 ≤ s.mode)

/-- Whether a sender is confined to PUBLIC reads (R65). -/
def Who.isAnon (w : Who) : Bool := match w.owner with
  | .anon _ => true
  | _ => false

/-- The senders of the requests that have been accepted and not answered: those that wait for a program, for the next second, or behind
another of their sender. -/
def State.inHand (s : State) : List Who := s.svc.saving.map (·.who) ++ s.svc.heldReqs.map (·.2) ++ s.svc.queued.map (·.2.1)

/-- Whether an earlier request that waits its turn is a write of the object that another request writes (R67). -/
def State.sameObject (s : State) (rq : Request) (w : Who) (e : Request × Who × Bool) : Bool :=
  let writes := fun (f : Frame) => f.op == 2 || f.op == 4
  writes rq.frame && writes e.1.frame && e.1.frame.index == rq.frame.index && e.1.frame.sub == rq.frame.sub &&
  (match s.resolve w rq.frame.index rq.frame.sub, s.resolve e.2.1 rq.frame.index rq.frame.sub with
    | .inr t, .inr u => t.part == u.part
    | _, _ => false)

/-- Whether a request waits: behind one of its sender, whose responses keep their order, or behind an earlier write of the object it writes
(R67). -/
def State.behind (s : State) (rq : Request) (w : Who) : Bool :=
  (!w.isAnon && s.inHand.any fun x => x.owner == w.owner) || s.svc.queued.any (s.sameObject rq w)

/-- Whether a sender's share of the dictionary queue is full (R548): 28 for each partition, 32 for all others. -/
def State.shareFull (s : State) (w : Who) : Bool :=
  decide ((if w.tenant.isSome then 28 else 32) ≤ (s.inHand.filter fun x => x.tenant == w.tenant).length)

/-- A request joins the dictionary queue. -/
def State.queueRequest (rq : Request) (w : Who) (whole : Bool) (s : State) : State :=
  { s with svc := { s.svc with queued := s.svc.queued ++ [(rq, w, whole)] } }

/-- The partition whose session a frame names, where its sender holds no class (R80). -/
def State.namedTenant (s : State) (f : Frame) : Option Nat := (s.svc.sessions.find? fun e => e.id == f.session).bind (·.tenant)

/-- Who an abort of check 2 goes to: the sender as its transport shows it, with the partition whose session it names (R63, R80). -/
def State.stranger (s : State) (rq : Request) : Who :=
  let w := plainWho rq.source
  { w with owner := .anon rq.source, tenant := w.tenant.or (if w.operator then none else s.namedTenant rq.frame) }

/-- Checks 1 to 5 of R79 for a row whose operation code is `op` and whose payload fits by `fits`, the share of the
dictionary queue, and the request's turn. A frame of another known operation is not this command, and has no effect here. `whole` says that a
WRITE_BLOCK carries its value whole. A doorbell bypasses the queue and waits for nothing (R77). The answer to a bad VERSION goes out as to a
sender without a session, and a repeat of a request that is still in progress is dropped without an answer (assumption 27). -/
def State.admitted (s : State) (rq : Request) (op : Nat) (fits : Bytes → Bool) (whole : Bool := false) : Admit :=
  let f := rq.frame
  if !s.listens rq.source ∨ (knownOp f.op ∧ f.op ≠ op) then .stop s else
  let s := s.countOnnum 0
  match rq.defect with
  | .short => .stop (s.countOnnum 2)
  | .fragment => .stop (s.countOnnum 3)
  | .none =>
    if f.version ≠ 1 then .stop (s.abort rq (plainWho rq.source) 0x0E02) else
    match s.sender rq with
    | none => .stop ((s.countOnnum 4).logViolation 0x0E0E ((s.namedTenant f).getD 0xFF) (sourceCode rq.source) [])
    | some (.inl code) => .stop (s.abort rq (s.stranger rq) code)
    | some (.inr w) =>
      match s.seqVerdict w f.seq with
      | .stale => .stop ((s.countOnnum 5).logViolation 0x0E0F w.scope (sourceCode rq.source) [])
      | .repeated none => .stop (s.heard w)
      | .repeated (some r) => .stop (((s.heard w).countOnnum 6).deliver rq.source r)
      | .fresh =>
        if op ≠ 7 ∧ s.shareFull w then .stop (s.abort rq w 0x0E18)
        else
          let s := s.acceptSeq w f.seq
          if !knownOp f.op then .stop (s.abort rq w 0x0E01)
          else if !reservedOk f ∨ !fits f.payload then .stop (s.abort rq w 0x0E03)
          else if op ≠ 7 ∧ s.behind rq w then .stop (s.queueRequest rq w whole)
          else .go w s

/-! ### Writes -/

/-- The objects under R82 that any session except session 0 may write, as exceptions to R48. -/
def isClear (idx sub : Nat) : Bool :=
  (idx == 0x1200 && sub == 4) || (idx == 0x1210 && sub == 5) || (idx == 0x1420 && sub == 4)

/-- Checks 6 to 9 of R79 for a write: presence, access, writability and type. A WRITE_BLOCK carries no value itself, and its TYPE may be 0x00
(assumption 28). -/
def State.writeAccess (s : State) (w : Who) (f : Frame) (block : Bool) : Nat ⊕ Target :=
  match s.resolve w f.index f.sub with
  | .inl code => if (metaValue f.index f.sub).isSome ∧ code = 0x0E05 then .inl (if w.isAnon then 0x0E06 else 0x0E07) else .inl code
  | .inr t =>
    if w.isAnon then .inl 0x0E06
    else if (t.row.acc = .management ∨ t.row.name = "SECURITY_VERSION") ∧ !w.management then .inl 0x0E06
    else if !t.row.wr then .inl 0x0E07
    else if f.typ ≠ t.row.ty ∧ !(block && f.typ == 0) then .inl 0x0E08
    else .inr t

/-- Checks 6 to 11 of R79 for a write, whole for a block write: an abort code or the object. -/
def State.writeTarget (s : State) (w : Who) (f : Frame) (block : Bool) : Nat ⊕ Target :=
  match s.writeAccess w f block with
  | .inl code => .inl code
  | .inr t =>
    if !block ∧ (t.row.ty = 14 ∨ f.payload.length > 256) then .inl 0x0E0B
    else if !t.row.fitsLength f.payload.length then .inl 0x0E09
    else if !t.row.legal f.payload then .inl 0x0E0A
    else .inr t

/-- A write that has passed the checks of R79 up to its own: an object's own check answers 0 or an abort
code, with what the check itself records. -/
abbrev Check := Who → Target → Bytes → State → Nat × State

/-- What a write does once it is committed. -/
abbrev Commit := Who → Target → Bytes → State → State

/-- The flash-programmed objects wait for their program (R51), which begins at a multiple of 10 ms (R549). -/
def State.queueSave (rq : Request) (w : Who) (t : Target) (s : State) : State :=
  { s with svc := { s.svc with saving := s.svc.saving ++ [{ request := rq, who := w, part := t.part, index := t.index, sub := t.sub, value := rq.frame.payload,
                                                            beginNs := programStart s.nowNs, braced := s.power.braced }] } }

/-- A write request, with the object's own check and effect: R79 in order, then the commit, at once or,
for a SAVED object, when its flash program completes. -/
def State.serveWrite (check : Check) (commit : Commit) (block : Bool) (rq : Request) (s : State) : State :=
  match s.admitted rq (if block then 4 else 2) (fun _ => true) true with
  | .stop s => s
  | .go w s =>
    match s.writeTarget w rq.frame block with
    | .inl code => s.abort rq w code
    | .inr t =>
      match check w t rq.frame.payload s with
      | (0, s) => if t.row.per = .saved then s.queueSave rq w t else (commit w t rq.frame.payload s).ok rq w
      | (code, s) => s.abort rq w code

/-- Whether a request names an object: a row of the tables by its name. -/
def names (rq : Request) (name : String) : Bool := match findRow rq.frame.index rq.frame.sub with
  | some r => r.name == name
  | none => false

/-- A write of an object that has a row of the table of operations of its own: of any other object it is
not this command, and has no effect here. -/
def State.ownWrite (name : String) (check : Check) (commit : Commit) (block : Bool) (rq : Request) (s : State) : State :=
  if names rq name then s.serveWrite check commit block rq else s

end Sys2Proof.Machine
end

