-- ==== Sys2Proof/Machine/Flags.lean ====
section
/-! DEFINITION. The sticky flags of a stroke (R129) and the rounding of exact values under ROUND (R125). -/

namespace Sys2Proof.Machine

/-- No flag. -/
def noFlags : Flags := {}

/-- The flags of two steps together: flags are sticky, the saturated elements add up (R129). -/
def Flags.join (a b : Flags) : Flags :=
  { nanOut := a.nanOut || b.nanOut, saturated := a.saturated || b.saturated, intOverflow := a.intOverflow || b.intOverflow,
    satCount := a.satCount + b.satCount }

/-- An element that raised SATURATED. -/
def satFlag : Flags := { saturated := true, satCount := 1 }

/-- An element that raised NAN_OUT. -/
def nanFlag : Flags := { nanOut := true }

/-- An INT32 operation that saturated. -/
def ovfFlag : Flags := { intOverflow := true }

/-- NAN_OUT, SATURATED and INT_OVERFLOW in bits 0 to 2. -/
def Flags.word (f : Flags) : Nat := b01 f.nanOut + 2 * b01 f.saturated + 4 * b01 f.intOverflow

/-- Whether the magnitude n + r / d, 0 ≤ r < d, is rounded up to n + 1 under a ROUND code (R125). -/
def roundsUp (mode : Nat) (neg : Bool) (n r d : Nat) : Bool :=
  if r = 0 then false
  else match mode with
  | 0 => decide (d < 2 * r) || (2 * r == d && n % 2 == 1)
  | 1 => decide (d ≤ 2 * r)
  | 2 => false
  | 3 => !neg
  | _ => neg

/-- m × 2^e, m a magnitude, rounded to a whole number. -/
def roundMag (mode : Nat) (neg : Bool) (m : Nat) (e : Int) : Nat :=
  match e with
  | .ofNat k => m * 2 ^ k
  | .negSucc k =>
    let d := 2 ^ (k + 1)
    m / d + b01 (roundsUp mode neg (m / d) (m % d) d)

/-- INT32 saturation (R137, R142). -/
def satInt32 (i : Int) : Int × Flags :=
  if i < -2147483648 then (-2147483648, ovfFlag) else if 2147483647 < i then (2147483647, ovfFlag) else (i, noFlags)

end Sys2Proof.Machine
end

