-- ==== Sys2Proof/Machine/Operands.lean ====
section
/-! DEFINITION. The seventeen formats: what a code stands for, how a value is written in a format, packing,
groups and panels, accumulation and lane arithmetic (04_number_formats.md). -/

namespace Sys2Proof.Machine

/-! ### Exact numbers -/

/-- m × 2^e, with zero given its sign. -/
def mkNum (m : Int) (e : Int) (negZero : Bool) : Num := if m = 0 then .zero negZero else .num m e

/-- The sign bit of a number. -/
def Num.neg : Num → Bool
  | .nan => false
  | .inf n => n
  | .zero n => n
  | .num m _ => decide (m < 0)

/-- m × 2^e moved to the exponent f ≤ e. -/
def alignTo (m : Int) (e f : Int) : Int := m * 2 ^ (e - f).toNat

/-- The exact sum of two dyadic values. -/
def dyAdd (a b : Int × Int) : Int × Int :=
  let f := min a.2 b.2
  (alignTo a.1 a.2 f + alignTo b.1 b.2 f, f)

/-- Whether a dyadic value is less than another. -/
def dyLt (a b : Int × Int) : Bool :=
  let f := min a.2 b.2
  decide (alignTo a.1 a.2 f < alignTo b.1 b.2 f)

/-- The exact product (R136, R138): zero times infinity is NaN. -/
def Num.mul : Num → Num → Num
  | .nan, _ => .nan
  | _, .nan => .nan
  | .inf a, .inf b => .inf (a != b)
  | .inf _, .zero _ => .nan
  | .zero _, .inf _ => .nan
  | .inf a, .num m _ => .inf (a != decide (m < 0))
  | .num m _, .inf a => .inf (a != decide (m < 0))
  | .zero a, y => .zero (a != y.neg)
  | x, .zero b => .zero (x.neg != b)
  | .num m e, .num n f => .num (m * n) (e + f)

/-- The exact sum; `rdn` gives an exact zero of opposite signs its sign (R122). -/
def Num.add (rdn : Bool) : Num → Num → Num
  | .nan, _ => .nan
  | _, .nan => .nan
  | .inf a, .inf b => if a = b then .inf a else .nan
  | .inf a, _ => .inf a
  | _, .inf b => .inf b
  | .zero a, .zero b => .zero (if a = b then a else rdn)
  | .zero _, y => y
  | x, .zero _ => x
  | .num m e, .num n f => let s := dyAdd (m, e) (n, f); mkNum s.1 s.2 rdn

/-- The negation. -/
def Num.negate : Num → Num
  | .nan => .nan
  | .inf a => .inf (!a)
  | .zero a => .zero (!a)
  | .num m e => .num (-m) e

/-- The number as a dyadic pair; zero for what is not finite. -/
def Num.dy : Num → Int × Int
  | .num m e => (m, e)
  | _ => (0, 0)

/-- Less than, for numbers that are not NaN; the two zeros are equal. -/
def Num.lt : Num → Num → Bool
  | .nan, _ => false
  | _, .nan => false
  | .inf a, .inf b => a && !b
  | .inf a, _ => a
  | _, .inf b => !b
  | x, y => dyLt x.dy y.dy

/-- An integer as a number. -/
def ofInt (i : Int) : Num := mkNum i 0 false

/-- Multiplication by a power of two, exact. -/
def Num.scale (k : Int) : Num → Num
  | .num m e => .num m (e + k)
  | x => x

/-! ### Layouts -/

/-- binary32. -/
def fp32 : Flt := { ebits := 8, mbits := 23, bias := 127, inf := true }

/-- BF16. -/
def bf16 : Flt := { ebits := 8, mbits := 7, bias := 127, inf := true }

/-- The layout of a floating-point format code (R118, R120). -/
def fltOf : Nat → Option Flt
  | 1 => some fp32
  | 2 => some { ebits := 5, mbits := 10, bias := 15, inf := true }
  | 3 => some bf16
  | 4 => some { ebits := 4, mbits := 3, bias := 7, inf := false, topNan := true }
  | 5 => some { ebits := 5, mbits := 2, bias := 15, inf := true }
  | 6 => some { ebits := 3, mbits := 2, bias := 3, inf := false }
  | 7 => some { ebits := 2, mbits := 3, bias := 1, inf := false }
  | 8 => some { ebits := 2, mbits := 1, bias := 1, inf := false }
  | _ => none

/-- The width in bits of a format's elements (R118); S40 mantissas are 32 bits. -/
def fmtWidth : Nat → Nat
  | 1 => 32 | 2 => 16 | 3 => 16 | 4 => 8 | 5 => 8 | 6 => 6 | 7 => 6 | 8 => 4 | 9 => 32 | 10 => 16 | 11 => 8 | 12 => 8
  | 13 => 4 | 14 => 8 | 15 => 4 | 16 => 32 | 17 => 32 | _ => 0

/-- The code range of an integer format or PCM24 (R123). -/
def intRange : Nat → Option (Int × Int)
  | 9 => some (-2147483648, 2147483647)
  | 10 => some (-32768, 32767)
  | 11 => some (-128, 127)
  | 12 => some (0, 255)
  | 13 => some (-8, 7)
  | 17 => some (-8388608, 8388607)
  | _ => none

/-- The fields of a format descriptor (R119). -/
def descFmt (d : Nat) : Nat := d % 32
/-- GROUP. -/
def descGroup (d : Nat) : Nat := d / 32 % 4
/-- The elements of a group, or 0 where there are none. -/
def groupSize (d : Nat) : Nat := match descGroup d with
  | 1 => 32 | 2 => 64 | 3 => 128 | _ => 0

/-- Whether a descriptor is legal (R119). -/
def descOk (d : Nat) : Bool :=
  let f := descFmt d
  let g := descGroup d
  decide (d < 128) && (
    if 4 ≤ f ∧ f ≤ 8 then decide (g ≤ 1)
    else if f = 14 ∨ f = 15 then decide (1 ≤ g)
    else decide (1 ≤ f) && decide (f ≤ 17) && g == 0)

/-- Whether a descriptor names a grouped form. -/
def descGrouped (d : Nat) : Bool := descGroup d != 0

/-! ### Codes and numbers -/

/-- The largest finite code, sign apart (R120). -/
def Flt.maxCode (F : Flt) : Nat :=
  if F.inf then (2 ^ F.ebits - 1) * 2 ^ F.mbits - 1
  else 2 ^ (F.ebits + F.mbits) - 1 - b01 F.topNan

/-- The place of the sign bit. -/
def Flt.sign (F : Flt) : Nat := 2 ^ (F.ebits + F.mbits)

/-- The canonical NaN (R121); a layout without one answers 0. -/
def Flt.nan (F : Flt) : Nat :=
  if F.inf then (2 ^ F.ebits - 1) * 2 ^ F.mbits + 2 ^ (F.mbits - 1)
  else if F.topNan then 2 ^ (F.ebits + F.mbits) - 1 else 0

/-- What a code of a floating-point layout stands for (R120, R121). -/
def Flt.decode (F : Flt) (c : Nat) : Num :=
  let neg := decide (F.sign ≤ c % (2 * F.sign))
  let mag := c % F.sign
  let ex := mag / 2 ^ F.mbits
  let man := mag % 2 ^ F.mbits
  if F.maxCode < mag then (if F.inf ∧ man = 0 then .inf neg else .nan)
  else
    let m : Nat := if ex = 0 then man else man + 2 ^ F.mbits
    let e : Int := ((max ex 1 : Nat) : Int) - (F.bias : Nat) - (F.mbits : Nat)
    mkNum (if neg then -(m : Int) else (m : Int)) e neg

/-- Whether an overflow in a mode goes to the infinity, or to the largest finite value (R127). -/
def overflowsToInf (mode : Nat) (neg : Bool) : Bool :=
  match mode with
  | 0 => true | 1 => true | 2 => false | 3 => !neg | _ => neg

/-- A number rounded into a floating-point layout (R127). `keepInf` holds for a conversion to the same or a
wider format, which never changes an infinity. DESIGN CHOICE (assumption 63): a NaN into a format without one, E3M2, E2M3 or E2M1, becomes 0
and raises NAN_OUT; R132 states that of the elements of an invalid group alone. -/
def Flt.encode (F : Flt) (mode : Nat) (sat keepInf : Bool) (x : Num) : Nat × Flags :=
  let sgn := fun (neg : Bool) (c : Nat) => if neg then F.sign + c else c
  match x with
  | .nan => (F.nan, nanFlag)
  | .zero n => (sgn n 0, noFlags)
  | .inf n =>
    if F.inf then (if sat ∧ !keepInf then (sgn n F.maxCode, satFlag) else (sgn n (F.maxCode + 1), noFlags))
    else if F.topNan ∧ !sat then (F.nan, nanFlag)
    else (sgn n F.maxCode, satFlag)
  | .num m e =>
    let neg := decide (m < 0)
    let a := m.natAbs
    let top : Int := ((Nat.log2 a : Nat) : Int) + e
    let q : Int := (if top < 1 - (F.bias : Int) then 1 - (F.bias : Int) else top) - (F.mbits : Int)
    let n := roundMag mode neg a (e - q)
    let code := (q + (F.mbits : Int) + (F.bias : Int) - 1).toNat * 2 ^ F.mbits + n
    if code ≤ F.maxCode then (sgn neg code, noFlags)
    else if sat ∨ !overflowsToInf mode neg ∨ (!F.inf ∧ !F.topNan) then (sgn neg F.maxCode, satFlag)
    else if F.inf then (sgn neg (F.maxCode + 1), noFlags)
    else (F.nan, nanFlag)

/-- An exact number rounded to a whole number and clamped to a code range (R128). -/
def toIntRange (mode : Nat) (lo hi : Int) (x : Num) : Int × Flags :=
  match x with
  | .nan => (0, nanFlag)
  | .zero _ => (0, noFlags)
  | .inf n => (if n then lo else hi, satFlag)
  | .num m e =>
    let a := roundMag mode (decide (m < 0)) m.natAbs e
    let i : Int := if m < 0 then -(a : Int) else (a : Int)
    if i < lo then (lo, satFlag) else if hi < i then (hi, satFlag) else (i, noFlags)

/-- What a code of an ungrouped format stands for (R120, R123): PCM24 is c × 2⁻²³. -/
def decodeFmt (f : Nat) (c : Nat) : Num :=
  match fltOf f with
  | some F => F.decode c
  | none => match f with
    | 12 => ofInt (c % 256 : Nat)
    | 17 => (ofInt (signed 24 c)).scale (-23)
    | _ => ofInt (signed (fmtWidth f) c)

/-- Whether a format holds integer codes. -/
def isIntFmt (f : Nat) : Bool := decide (9 ≤ f) && decide (f ≤ 13)

/-- The integer code of an integer format or PCM24. -/
def intCode (f c : Nat) : Int := match f with
  | 12 => ((c % 256 : Nat) : Int)
  | 17 => signed 24 c
  | _ => signed (fmtWidth f) c

/-- Whether a conversion between float formats is to the same or a wider one: the matrix of R130 marks it
exact. -/
def widens (src dst : Nat) : Bool :=
  src == dst || dst == 1 || (dst == 2 && decide (4 ≤ src)) || (dst == 3 && decide (4 ≤ src)) ||
  (dst == 4 && (src == 6 || src == 7 || src == 8)) || (dst == 5 && (src == 6 || src == 8)) ||
  (dst == 6 && src == 8) || (dst == 7 && src == 8)

/-- A number written in an ungrouped format (R127, R128); `src` is the format it comes from. -/
def encodeFmt (src dst mode : Nat) (sat : Bool) (x : Num) : Nat × Flags :=
  match fltOf dst with
  | some F => F.encode mode sat (widens src dst) x
  | none => match intRange dst with
    | some (lo, hi) =>
      let r := toIntRange mode lo hi (if dst = 17 then x.scale 23 else x)
      (unsigned (fmtWidth dst) r.1, r.2)
    | none => (0, noFlags)

/-- A conversion between ungrouped formats (R130): the exact value, or the code between integers and PCM24. -/
def convertCode (src dst mode : Nat) (sat : Bool) (c : Nat) : Nat × Flags :=
  match intRange src, intRange dst with
  | some _, some (lo, hi) =>
    let i := intCode src c
    let r := clampInt lo hi i
    (unsigned (fmtWidth dst) r, if r = i then noFlags else satFlag)
  | _, _ => encodeFmt src dst mode sat (decodeFmt src c)

/-- A rounding into FP32 with SAT clear, as accumulations and lanes do. -/
def toFp32 (mode : Nat) (x : Num) : Nat := (fp32.encode mode false true x).1

/-- The number an FP32 code stands for. -/
def ofFp32 (c : Nat) : Num := fp32.decode c

/-! ### Packing (R124) -/

/-- Element i of elements of w bits packed from bit 0 upward. -/
def elemAt (w : Nat) (b : Bytes) (i : Nat) : Nat :=
  (ofLE (slice b (i * w / 8) 5) / 2 ^ (i * w % 8)) % 2 ^ w

/-- Codes of w bits as one number, the first lowest. -/
def packNat (w : Nat) : List Nat → Nat
  | [] => 0
  | c :: r => c % 2 ^ w + 2 ^ w * packNat w r

/-- The bytes that n elements of w bits take: whole 3-byte units of four 6-bit elements, whole bytes otherwise
(R124). DESIGN CHOICE (assumption 33): the spec gives no layout for a run that does not fill its last unit. -/
def runBytes (w n : Nat) : Nat := if w = 6 then (n + 3) / 4 * 3 else (n * w + 7) / 8

/-- Codes of w bits packed into bytes; the bits of the last unit beyond them are 0. -/
def packCodes (w : Nat) (l : List Nat) : Bytes := le (runBytes w l.length) (packNat w l)

/-- The codes that n elements of w bits hold. -/
def unpackCodes (w n : Nat) (b : Bytes) : List Nat := (List.range n).map (elemAt w b)

/-! ### Groups and panels (R132, R133) -/

/-- The scale of a group: E8M0 for MX, BF16 for VG; an invalid one is NaN. -/
def scaleOf (f : Nat) (c : Nat) : Num :=
  if f = 14 ∨ f = 15 then
    match bf16.decode c with
    | .inf _ => .nan
    | x => x
  else if c % 256 = 255 then .nan else .num 1 ((c % 256 : Nat) - 127)

/-- The bytes of one scale. -/
def scaleBytes (f : Nat) : Nat := if f = 14 ∨ f = 15 then 2 else 1

/-- The element value of a grouped form: VG8 and VG4 hold INT8 and INT4 codes. -/
def groupedElem (f c : Nat) : Num :=
  if f = 14 then ofInt (signed 8 c) else if f = 15 then ofInt (signed 4 c) else decodeFmt f c

/-- P, the depth of a panel (R133). -/
def panelDepth (d : Nat) : Nat :=
  if fmtWidth (descFmt d) = 4 then 128 else if groupSize d = 128 then 128 else 64

/-- The size of a panel's data plane. -/
def dataPlane (d : Nat) : Nat := 64 * panelDepth d * fmtWidth (descFmt d) / 8

/-- The size of a panel: data plane, scale plane, padding to 64 bytes (R133, R134). -/
def panelBytes (d : Nat) : Nat :=
  dataPlane d + (64 * (panelDepth d / groupSize d) * scaleBytes (descFmt d) + 63) / 64 * 64

/-- Where the scale of group g of vector v lies in a panel (R133). -/
def scaleOffset (d v g : Nat) : Nat :=
  dataPlane d + v * (panelDepth d / groupSize d) * scaleBytes (descFmt d) + g * scaleBytes (descFmt d)

/-! ### The MAC array (R89, R135 to R138) -/

/-- How a pair of operands accumulates: K, the chunk, and whether the accumulator is INT32. -/
structure Pairing where
  k : Nat
  chunk : Nat
  int : Bool

/-- The pairs of R89, streamed first, with the group rule of R135. -/
def pairing (da db : Nat) : Option Pairing :=
  let a := descFmt da
  let b := descFmt db
  let ga := groupSize da
  let gb := groupSize db
  let gOk := ga = 0 ∨ gb = 0 ∨ ga = gb
  let f8 := fun (x : Nat) => x = 4 ∨ x = 5
  let f6 := fun (x : Nat) => x = 6 ∨ x = 7
  if (a = 11 ∨ a = 12) ∧ (b = 11 ∨ b = 12) then some { k := 64, chunk := 64, int := true }
  else if a = 11 ∧ b = 13 then some { k := 128, chunk := 128, int := true }
  else if a = 13 ∧ b = 13 then some { k := 128, chunk := 128, int := true }
  else if (a = 14 ∨ a = 11) ∧ b = 14 ∧ gOk then some { k := 64, chunk := gb, int := false }
  else if (a = 14 ∨ a = 11) ∧ b = 15 ∧ gOk then some { k := 128, chunk := gb, int := false }
  else if a = 15 ∧ b = 15 ∧ gOk then some { k := 128, chunk := gb, int := false }
  else if (f8 a ∨ f6 a) ∧ (f8 b ∨ f6 b) then some { k := 64, chunk := 32, int := false }
  else if a = 8 ∧ b = 8 then some { k := 128, chunk := 32, int := false }
  else if (a = 2 ∨ a = 3) ∧ (b = 2 ∨ b = 3) then some { k := 32, chunk := 32, int := false }
  else if a = 10 ∧ (b = 10 ∨ b = 11) then some { k := 32, chunk := 32, int := true }
  else if a = 1 ∧ b = 1 then some { k := 4, chunk := 4, int := false }
  else none

/-- A sum of products as it is formed: the exact finite part, and the special values met (R138). -/
structure ChunkSum where
  fin : Int × Int := (0, 0)
  nan : Bool := false
  pos : Bool := false
  neg : Bool := false

/-- Adds one product to a chunk sum. -/
def ChunkSum.add (s : ChunkSum) (p : Num) : ChunkSum :=
  match p with
  | .nan => { s with nan := true }
  | .inf n => if n then { s with neg := true } else { s with pos := true }
  | .zero _ => s
  | .num m e => { s with fin := dyAdd s.fin (m, e) }

/-- The value of a chunk sum (R138). -/
def ChunkSum.value (s : ChunkSum) : Num :=
  if s.nan ∨ (s.pos ∧ s.neg) then .nan else if s.pos then .inf false else if s.neg then .inf true
  else mkNum s.fin.1 s.fin.2 false

/-- The exact sum of the products of a chunk. -/
def chunkSum (l : List (Num × Num)) : Num := (l.foldl (fun s p => s.add (p.1.mul p.2)) ({} : ChunkSum)).value

/-- A list cut into runs of n. -/
def chunks {α : Type} (n : Nat) : Nat → List α → List (List α)
  | 0, _ => []
  | _ + 1, [] => []
  | fuel + 1, l => l.take n :: chunks n fuel (l.drop n)

/-- One FP32 accumulation: acc := rne(acc + S × sum) (R136). -/
def accFp32 (acc : Nat) (scale sum : Num) : Nat := toFp32 0 (Num.add false (ofFp32 acc) (scale.mul sum))

/-- An element of an operand: its code's value and its group's scale. -/
abbrev ScaledElem := Num × Num

/-- One output element of a matrix stroke (R136): chunks in ascending order from the accumulator held. -/
def accumulate (p : Pairing) (acc : Nat) (l : List (ScaledElem × ScaledElem)) : Nat × Flags :=
  (chunks p.chunk l.length l).foldl (fun r c =>
    let sum := chunkSum (c.map fun e => (e.1.1, e.2.1))
    if p.int then
      let s := satInt32 (signed 32 r.1 + (sum.dy.1 * 2 ^ sum.dy.2.toNat))
      (unsigned 32 s.1, r.2.join s.2)
    else
      let sc := match c with
        | e :: _ => e.1.2.mul e.2.2
        | [] => .num 1 0
      (accFp32 r.1 sc sum, r.2)) (acc, noFlags)

/-! ### Lane arithmetic (R142) -/

/-- FP32 addition under ROUND. -/
def fpAdd (mode a b : Nat) : Nat := toFp32 mode (Num.add (mode == 4) (ofFp32 a) (ofFp32 b))
/-- FP32 subtraction. -/
def fpSub (mode a b : Nat) : Nat := toFp32 mode (Num.add (mode == 4) (ofFp32 a) (ofFp32 b).negate)
/-- FP32 multiplication. -/
def fpMul (mode a b : Nat) : Nat := toFp32 mode ((ofFp32 a).mul (ofFp32 b))
/-- Fused multiply-add, one rounding (R92). -/
def fpFma (mode a b c : Nat) : Nat := toFp32 mode (Num.add (mode == 4) ((ofFp32 a).mul (ofFp32 b)) (ofFp32 c))

/-- Minimum (R142): the other operand of a NaN, and −0 below +0. -/
def fpMin (a b : Nat) : Nat :=
  match ofFp32 a, ofFp32 b with
  | .nan, .nan => fp32.nan
  | .nan, _ => b
  | _, .nan => a
  | .zero x, .zero _ => if x then a else b
  | x, y => if y.lt x then b else a

/-- Maximum (R142). -/
def fpMax (a b : Nat) : Nat :=
  match ofFp32 a, ofFp32 b with
  | .nan, .nan => fp32.nan
  | .nan, _ => b
  | _, .nan => a
  | .zero x, .zero _ => if x then b else a
  | x, y => if x.lt y then b else a

/-- Arithmetic left shift, saturating when a bit that differs from the sign would leave the word. -/
def sla32 (i : Int) (k : Nat) : Int × Flags := satInt32 (i * 2 ^ k)

/-- Evaluates a PWL segment with one rounding (R94). -/
def pwlEval (table : List (Nat × Nat × Nat)) (x : Nat) : Nat :=
  match ofFp32 x with
  | .nan => fp32.nan
  | v =>
    let seg := (table.drop 1).foldl (fun r e => if v.lt (ofFp32 e.1) then r else e) (table.headD (0, 0, 0))
    match v, ofFp32 seg.2.1 with
    | .inf _, .zero _ => seg.2.2
    | _, _ => fpFma 0 seg.2.1 x seg.2.2

/-- Whether a table is legal: breakpoints strictly increase from entry 1, and no field is a NaN (R94). DEDUCED (assumption 63): a NaN in
X_START of entry 0, which R93 ignores, fails the table too, for R94 says any field. -/
def pwlOk (table : List (Nat × Nat × Nat)) : Bool :=
  let isNan := fun (c : Nat) => ofFp32 c == .nan
  table.all (fun e => !isNan e.1 && !isNan e.2.1 && !isNan e.2.2) &&
  ((table.drop 1).zip (table.drop 2)).all (fun p => (ofFp32 p.1.1).lt (ofFp32 p.2.1))

/-- The entries of a PWL table (R93). -/
def pwlTable (n : Nat) (b : Bytes) : List (Nat × Nat × Nat) :=
  (List.range n).map fun i => (ofLE (slice b (12 * i) 4), ofLE (slice b (12 * i + 4) 4), ofLE (slice b (12 * i + 8) 4))

/-- One butterfly stage of the Hadamard transform on bit b (R96). -/
def hadamardStage (b : Nat) (x : List Nat) : List Nat :=
  (List.range x.length).map fun j =>
    if j.testBit b then fpSub 0 (x.getD (j - 2 ^ b) 0) (x.getD j 0) else fpAdd 0 (x.getD j 0) (x.getD (j + 2 ^ b) 0)

/-- 1/√n rounded to FP32 for n = 32, 64, 128 (R96). -/
def hadamardScale : Nat → Nat
  | 5 => 0x3E3504F3
  | 6 => 0x3E000000
  | _ => 0x3DB504F3

/-- The transform of order 2^k of a block (R96). -/
def hadamard (k : Nat) (x : List Nat) : List Nat :=
  ((List.range k).foldl (fun y b => hadamardStage b y) x).map fun c => fpMul 0 c (hadamardScale k)

/-! ### S40 (R139 to R141) -/

/-- The value of an S40 mantissa under an exponent. -/
def s40Value (m : Int) (e : Int) : Num := mkNum m (e - 31) false

/-- A number as an S40 mantissa under a given exponent (R140). -/
def s40Mantissa (mode : Nat) (e : Int) (x : Num) : Int × Flags := toIntRange mode (-2147483648) 2147483647 (x.scale (31 - e))

/-- Renormalisation of a row (R141): the mantissas and the exponent. -/
def s40Renorm (ms : List Int) (e : Int) : List Int × Int × Flags :=
  let big := ms.foldl (fun a m => max a m.natAbs) 0
  if big = 0 then (ms, e, noFlags)
  else
    let k : Int := ((Nat.log2 big : Nat) : Int) - 29
    let e' := clampInt (-128) 127 (e + k)
    let k' := e' - e
    let out := ms.map fun m => toIntRange 0 (-2147483648) 2147483647 (mkNum m (-k') false)
    (out.map (·.1), e', out.foldl (fun f o => f.join o.2) noFlags)

end Sys2Proof.Machine
end

