-- ==== Sys2Proof/Machine/Array.lean ====
section
/-! DEFINITION. The tensor array as every stroke meets it: slots, partitions and contexts, the pattern
container, the words of a stroke, and the spaces its operands lie in (03, 05 and 12). -/

namespace Sys2Proof.Machine

/-! ### Slots, partitions, contexts -/

/-- A partition. -/
def State.part (s : State) (p : Nat) : Partition := s.parts.getD p {}
/-- Changes a partition. -/
def State.modPart (p : Nat) (f : Partition → Partition) (s : State) : State := { s with parts := s.parts.modify p f }
/-- A context. -/
def State.ctx (s : State) (p c : Nat) : Context := (s.part p).ctxs.getD c {}
/-- Changes a context. -/
def State.modCtx (p c : Nat) (f : Context → Context) (s : State) : State :=
  s.modPart p fun q => { q with ctxs := q.ctxs.modify c f }
/-- Changes the submission in flight of a context. -/
def State.modFlight (p c : Nat) (f : Flight → Flight) (s : State) : State :=
  s.modCtx p c fun x => { x with flight := x.flight.map f }
/-- Changes the strokes of a submission on one logical core. -/
def State.modRun (p c core : Nat) (f : CoreRun → CoreRun) (s : State) : State :=
  s.modFlight p c fun x => { x with cores := x.cores.map fun r => if r.core = core then f r else r }
/-- The strokes of a submission on one logical core. -/
def Flight.run? (x : Flight) (core : Nat) : Option CoreRun := x.cores.find? fun r => r.core == core
/-- A slot. -/
def State.slot (s : State) (n : Nat) : Slot := s.slots.getD n { state := 4 }
/-- Changes a slot. -/
def State.modSlot (n : Nat) (f : Slot → Slot) (s : State) : State := { s with slots := s.slots.modify n f }
/-- The slot of a logical core (R115); none where it is unbacked or beyond the partition. -/
def State.slotOf (s : State) (p core : Nat) : Option Nat := ((s.part p).map.getD core none)
/-- The number of logical cores of a partition. -/
def State.cores (s : State) (p : Nat) : Nat := (s.part p).map.length

/-- Counts in CTX_COUNTS. -/
def State.countCtx (p c i : Nat) (s : State) : State := s.modCtx p c fun x => { x with counts := bump x.counts i }
/-- Counts in SLOT_COUNTS. -/
def State.countSlot (n i : Nat) (s : State) : State := s.modSlot n fun x => { x with counts := bump x.counts i }
/-- Counts in PARTITION_COUNTS. -/
def State.countPart (p i n : Nat) (s : State) : State := s.modPart p fun x => { x with counts := bumpBy x.counts i n }

/-- CTX_CLASS (R362): 0 disabled, 1 best effort, 2 real-time, 3 urgent. -/
def State.ctxClass (s : State) (p c : Nat) : Nat := s.ctxCfg p c 0 1

/-- The rank of a context; less wins (R362). -/
def State.rank (s : State) (p c : Nat) : Nat :=
  match s.ctxClass p c with
  | 1 => 32 + s.ctxCfg p c 0 2
  | 2 => 16 + s.ctxCfg p c 0 2
  | 3 => 0
  | _ => 1000

/-- Whether context j wins over context i (R362). -/
def State.outranks (s : State) (p j i : Nat) : Bool :=
  decide (s.rank p j < s.rank p i) || (s.rank p j == s.rank p i && decide (j < i))

/-- Rows of the working region: 256-byte rows in 1,024 − 128 × S KiB (R102). -/
def State.workingRows (s : State) : Nat := (1024 - 2 * s.accStreamKib) * 4

/-! ### Objects by handle (R316) -/

/-- The object at an index of an owner. -/
def State.objAt (s : State) (owner index : Nat) : Option Obj := s.objects.find? fun o => o.owner == owner && o.index == index

/-- The object a handle names; none where it is stale. -/
def State.objOf (s : State) (h : Nat) : Option Obj :=
  if h ≥ 2 ^ 32 then none else
  match s.objAt (bits h 15 13) (bits h 12 0) with
  | some o => if o.gen = bits h 31 16 then some o else none
  | none => none

/-- The handle of an object. -/
def Obj.handle (o : Obj) : Nat := o.index + 8192 * o.owner + 65536 * o.gen

/-- The key a write names an object by. -/
def Obj.key (o : Obj) : Nat := o.owner * 8192 + o.index

/-- Changes an object. -/
def State.modObj (owner index : Nat) (f : Obj → Obj) (s : State) : State :=
  { s with objects := s.objects.map fun o => if o.owner = owner ∧ o.index = index then f o else o }

/-! ### The pattern container (R179, R180) -/

/-- A U16 of a container. -/
def Loaded.u16 (l : Loaded) (off : Nat) : Nat := ofLE (slice l.bytes off 2)
/-- A U32 of a container. -/
def Loaded.u32 (l : Loaded) (off : Nat) : Nat := ofLE (slice l.bytes off 4)
/-- A U64 of a container. -/
def Loaded.u64 (l : Loaded) (off : Nat) : Nat := ofLE (slice l.bytes off 8)
/-- CORES. -/
def Loaded.cores (l : Loaded) : Nat := ofLE (slice l.bytes 36 1)
/-- CLASSES. -/
def Loaded.classes (l : Loaded) : Nat := ofLE (slice l.bytes 37 1)
/-- STEPS. -/
def Loaded.steps (l : Loaded) : Nat := l.u16 38
/-- SPAD_LINES. -/
def Loaded.spadLines (l : Loaded) : Nat := l.u32 40
/-- STROKE_COUNT. -/
def Loaded.strokeCount (l : Loaded) : Nat := l.u32 52
/-- BUCKET_COUNT. -/
def Loaded.bucketCount (l : Loaded) : Nat := l.u16 60
/-- PEAL_COUNT. -/
def Loaded.pealCount (l : Loaded) : Nat := l.u16 62
/-- Where a bucket's entry lies. -/
def Loaded.bucketAt (l : Loaded) (i : Nat) : Nat := l.u32 56 + 16 * i
/-- BUCKET_SIZE. -/
def Loaded.bucketSize (l : Loaded) (i : Nat) : Nat := l.u32 (l.bucketAt i)
/-- BUCKET_DIM. -/
def Loaded.bucketDim (l : Loaded) (i : Nat) : Nat := ofLE (slice l.bytes (l.bucketAt i + 4) 1)
/-- FIRST_STROKE and STROKE_COUNT of a core in a bucket's directory. -/
def Loaded.dir (l : Loaded) (bucket core : Nat) : Nat × Nat :=
  let at_ := l.u32 (l.bucketAt bucket + 8) + 8 * core
  (l.u32 at_, l.u32 (at_ + 4))
/-- Where a bucket's annotation lies. -/
def Loaded.annAt (l : Loaded) (bucket : Nat) : Nat := l.u32 68 + 64 * l.u32 (l.bucketAt bucket + 12)
/-- MAX_TILE_CYCLES of a bucket. -/
def Loaded.maxTile (l : Loaded) (b : Nat) : Nat := l.u32 (l.annAt b + 40)
/-- MAX_NONPREEMPT_CYCLES of a bucket. -/
def Loaded.maxNonPreempt (l : Loaded) (b : Nat) : Nat := l.u32 (l.annAt b + 44)
/-- MAX_ACC_ROWS of a bucket. -/
def Loaded.maxAcc (l : Loaded) (b : Nat) : Nat := l.u32 (l.annAt b + 48)
/-- The sixteen words of a stroke. -/
def Loaded.stroke (l : Loaded) (i : Nat) : List Nat := (List.range 16).map fun k => l.u32 (l.u32 48 + 64 * i + 4 * k)
/-- The logical cores of a peal. -/
def Loaded.peal (l : Loaded) (i : Nat) : List Nat :=
  let m := ofLE (slice l.bytes (l.u32 64 + 16 * i) 9)
  (List.range 72).filter fun k => m.testBit k
/-- The binding table: BIND, ACCESS and MIN_BYTES of each entry. -/
def Loaded.bindings (l : Loaded) : List (Nat × Nat × Nat) :=
  (List.range (l.u16 76)).map fun i =>
    let at_ := l.u32 72 + 16 * i
    (l.u16 at_, ofLE (slice l.bytes (at_ + 2) 1), l.u64 (at_ + 4))
/-- LAYER and RERUN of a stroke. -/
def Loaded.layer (l : Loaded) (i : Nat) : Nat × Nat := (l.u16 (l.u32 80 + 4 * i), l.u16 (l.u32 80 + 4 * i + 2))

/-! ### Words and locations (R144, R147) -/

/-- A word of a stroke. -/
def wd (w : List Nat) (i : Nat) : Nat := w.getD i 0

/-- A location: an operand's place. -/
structure Loc where
  off : Nat
  obj : Nat
  space : Nat
  top : Nat
deriving DecidableEq, Repr

/-- The location in words i and i + 1. -/
def locAt (w : List Nat) (i : Nat) : Loc :=
  let n := wd w i + 2 ^ 32 * wd w (i + 1)
  { off := bits n 39 0, obj := bits n 55 40, space := bits n 59 56, top := bits n 63 60 }

/-- The reserved bits of a location (R148): a NONE location is all zero. -/
def Loc.reservedOk (l : Loc) : Bool :=
  l.top == 0 &&
  (match l.space with
   | 0 => l.off == 0 && l.obj == 0
   | 3 => true
   | 4 => decide (l.obj < 128)
   | _ => decide (4 < l.space) || l.obj == 0)

/-- The alignment of a location (R148). -/
def Loc.alignOk (l : Loc) : Bool :=
  match l.space with
  | 0 => true
  | 2 => l.off % 256 == 0
  | _ => l.off % 64 == 0

/-! ### Where a context's data lies (R101, R202, R203) -/

/-- A stroke at its place: partition, context, logical core, the slot that runs it, its index in the stroke
table and its words, and the bindings of its submission. -/
structure Site where
  p : Nat
  c : Nat
  core : Nat
  slot : Nat
  idx : Nat
  w : List Nat
  pat : Loaded
  binds : List (Nat × Nat)
  split : Bool

/-- A row of the working share as the context sees it: a place in the accumulator, or, staged after a split,
in the context's scratchpad share (R203). -/
def State.accPlace (s : State) (t : Site) (row : Nat) : Nat × Nat :=
  let W := s.ctxCfg t.p t.c 0 6
  if t.split ∧ W ≤ row + 64 then
    (1, (s.ctxCfg t.p t.c 0 3 + t.pat.spadLines + 4 * (row + 64 - W)) * 64)
  else (2, (s.ctxCfg t.p t.c 0 5 + row) * 256)

/-- The object a binding number names in a submission. -/
def State.bound (s : State) (t : Site) (bind : Nat) : Option Obj :=
  match t.binds.find? (fun b => b.1 == bind) with
  | some b => s.objOf b.2
  | none => none

/-- The slot a location lies in. -/
def State.locSlot (s : State) (t : Site) (l : Loc) : Nat :=
  if l.space = 4 then (s.slotOf t.p (l.obj % 128)).getD t.slot else t.slot

/-- `n` bytes at a byte offset of a location's space. -/
def State.readLoc (s : State) (t : Site) (l : Loc) (off n : Nat) : Bytes :=
  match l.space with
  | 1 => memRead (s.slot t.slot).spad (s.ctxCfg t.p t.c 0 3 * 64 + off) n
  | 2 =>
    let pl := s.accPlace t (off / 256)
    memRead (if pl.1 = 1 then (s.slot t.slot).spad else (s.slot t.slot).acc) (pl.2 + off % 256) n
  | 3 => match s.bound t l.obj with
    | some o => memRead o.content off n
    | none => List.replicate n 0
  | 4 => memRead (s.slot (s.locSlot t l)).spad (s.ctxCfg t.p t.c 0 3 * 64 + off) n
  | _ => List.replicate n 0

/-- Bytes in the context's scratchpad share on the stroke's core. -/
def State.readSpad (s : State) (t : Site) (off n : Nat) : Bytes := s.readLoc t { off := 0, obj := 0, space := 1, top := 0 } off n

/-- A write of bytes at a byte offset of a location's space, within one row of the accumulator. -/
def State.writeLoc (s : State) (t : Site) (l : Loc) (off : Nat) (b : Bytes) : Write :=
  match l.space with
  | 2 => let pl := s.accPlace t (off / 256); { space := pl.1, place := t.slot, addr := pl.2 + off % 256, bytes := b }
  | 3 => match s.bound t l.obj with
    | some o => { space := 3, place := o.key, addr := off, bytes := b }
    | none => { space := 0, place := 0, addr := 0, bytes := [] }
  | _ => { space := 1, place := s.locSlot t l, addr := s.ctxCfg t.p t.c 0 3 * 64 + off, bytes := b }

/-- `n` bytes of the memory that a write names by its space and place. -/
def State.readPlace (s : State) (space place addr n : Nat) : Bytes :=
  match space with
  | 1 => memRead (s.slot place).spad addr n
  | 2 => memRead (s.slot place).acc addr n
  | 4 => memRead (s.slot place).stream addr n
  | 3 => match s.objAt (place / 8192) (place % 8192) with
    | some o => memRead o.content addr n
    | none => []
  | _ => []

/-- Does a write. -/
def State.applyWrite (w : Write) (s : State) : State :=
  match w.space with
  | 1 => s.modSlot w.place fun x => { x with spad := memWrite x.spad w.addr w.bytes }
  | 2 => s.modSlot w.place fun x => { x with acc := memWrite x.acc w.addr w.bytes }
  | 4 => s.modSlot w.place fun x => { x with stream := memWrite x.stream w.addr w.bytes }
  | 3 => s.modObj (w.place / 8192) (w.place % 8192) fun o => { o with content := memWrite o.content w.addr w.bytes }
  | _ => s

/-- The 64-byte lines that a write touches: space, place and line. -/
def Write.lines (w : Write) : List (Nat × Nat × Nat) :=
  if w.bytes = [] ∨ w.space = 0 then []
  else (List.range ((w.addr + w.bytes.length - 1) / 64 + 1 - w.addr / 64)).map fun i => (w.space, w.place, w.addr / 64 + i)

/-- Does writes of which each 64-byte line may keep its old content: a line holds what it had or what all of them make of it, and nothing
between (R154, R155). A free value decides for each line. -/
def State.tearAll (ws : List Write) (s : State) : State :=
  (ws.flatMap Write.lines).eraseDups.foldl (fun t l =>
    let coin := t.free
    if coin.1 % 2 = 1 then coin.2
    else coin.2.applyWrite { space := l.1, place := l.2.1, addr := 64 * l.2.2, bytes := s.readPlace l.1 l.2.1 (64 * l.2.2) 64 })
    (ws.foldl (fun s w => s.applyWrite w) s)

/-- Writes that belong to a tile of their stroke. -/
def inTile (k : Nat) (l : List Write) : List Write := l.map fun w => { w with tile := k }

/-! ### Tensors (R149) -/

/-- The code of element (r, c) of a plain tensor of `rows` rows at a location. -/
def State.elem (s : State) (t : Site) (l : Loc) (fmt rows stride r c : Nat) : Nat :=
  let w := fmtWidth fmt
  if l.space = 2 then
    ofLE (s.readLoc t l (l.off + ((c / 64) * rows + r) * 256 + c % 64 * 4) 4) % 2 ^ w
  else
    (ofLE (s.readLoc t l (l.off + r * stride * 64 + c * w / 8) 5) / 2 ^ (c * w % 8)) % 2 ^ w

/-- The write of the columns of block `b` of row `r` of a plain tensor. -/
def State.blockWrite (s : State) (t : Site) (l : Loc) (fmt rows stride r b : Nat) (codes : List Nat) : Write :=
  if l.space = 2 then s.writeLoc t l (l.off + (b * rows + r) * 256) (codes.flatMap fun c => le 4 (c % 2 ^ fmtWidth fmt))
  else s.writeLoc t l (l.off + r * stride * 64 + b * 8 * fmtWidth fmt) (packCodes (fmtWidth fmt) codes)

/-- The writes of one row of codes of a plain tensor, a block of 64 columns each. -/
def State.rowWrites (s : State) (t : Site) (l : Loc) (fmt rows stride r : Nat) (codes : List Nat) : List Write :=
  (chunks 64 codes.length codes).zipIdx.map fun e => s.blockWrite t l fmt rows stride r e.2 e.1

/-- P of an operand of a pair of matrix operands (R186): its own of R133 where it is grouped, else that of the pair, which is 128 where either has
4-bit elements or groups of 128, and otherwise that of the wider elements. DEDUCED (assumption 34). -/
def pairDepth (d other : Nat) : Nat :=
  if descGrouped d then panelDepth d
  else if fmtWidth (descFmt d) = 4 ∨ fmtWidth (descFmt other) = 4 ∨ groupSize other = 128 then 128
  else match max (fmtWidth (descFmt d)) (fmtWidth (descFmt other)) with
    | 32 => 4
    | 16 => 32
    | _ => 64

/-- The bytes of a panel of depth P of a streamed matrix operand. -/
def matPanelBytes (d P : Nat) : Nat := if descGrouped d then panelBytes d else 64 * P * fmtWidth (descFmt d) / 8

/-- The bytes of a stationary panel (R186), which the table gives by the pair: INT8 under INT16 takes 4,096 as INT16 does. -/
def statBytes (da db : Nat) : Nat := if descFmt da = 10 ∧ db = 11 then 4096 else matPanelBytes db (pairDepth db da)

/-- Element k of vector v of an operand in panels of depth P, with its group's scale (R132, R133). `n` is the reduction length. -/
def State.panelElem (s : State) (t : Site) (l : Loc) (d n stride P v k : Nat) : ScaledElem :=
  let f := descFmt d
  let w := fmtWidth f
  let base := l.off + ((v / 64) * ((n + P - 1) / P) + k / P) * stride * 64
  let bit := ((v % 64) * P + k % P) * w
  let c := (ofLE (s.readLoc t l (base + bit / 8) 5) / 2 ^ (bit % 8)) % 2 ^ w
  if descGrouped d then
    (groupedElem f c, scaleOf f (ofLE (s.readLoc t l (base + scaleOffset d (v % 64) (k % P / groupSize d)) (scaleBytes f))))
  else (decodeFmt f c, .num 1 0)

end Sys2Proof.Machine
end

