-- ==== Sys2Proof/Machine/Cache.lean ====
section
/-! DEFINITION. The shared tile cache line by line: where a line of an object lies, look-up, replacement, and what leaves the cache
(R294 to R299). Its lines hold no bytes of their own: what an access reads is the object's content in every tier, so the cache decides which
ways hold which lines and which of them are dirty, and nothing that a program reads. -/

namespace Sys2Proof.Machine

/-- Changes the memory tiers. -/
def State.modTiers (f : Tiers → Tiers) (s : State) : State := { s with tiers := f s.tiers }

/-! ### Addresses (R294, R318) -/

/-- The line address A = PA[36:7] of the i-th line of an object: in its frames of 4 MiB, and in the extents of 64 KiB of its tail. -/
def Obj.lineAddr (o : Obj) (i : Nat) : Nat :=
  let inFrames := o.allocated / 4194304 * 32768
  if i < inFrames then Config.frameAt o.place (i / 32768) % 32768 * 32768 + i % 32768
  else Config.extentAt o.place ((i - inFrames) / 512) % 2097152 * 512 + (i - inFrames) % 512

/-- The logical slice of a line address. -/
def lineSlice (a : Nat) : Nat := bits a 3 0 ^^^ bits a 18 15 ^^^ bits a 22 19 ^^^ bits a 26 23
/-- The set of a line address. -/
def lineSet (a : Nat) : Nat := bits a 14 4
/-- The tag of a line address; with it goes the partition that placed the line. -/
def lineTag (a : Nat) : Nat := bits a 29 15

/-- Whether an entry of the cache lies in the set of a line address. -/
def CacheLine.inSet (l : CacheLine) (a : Nat) : Bool := lineSlice l.a == lineSlice a && lineSet l.a == lineSet a
/-- Whether an entry of a partition is the line of an object at an address: its slice, its set and its tag. -/
def CacheLine.isLine (l : CacheLine) (p obj a : Nat) : Bool := l.part == p && l.obj == obj && l.inSet a && lineTag l.a == lineTag a

/-! ### Access (R296, R298, R300) -/

/-- The ways in force of a partition. -/
def State.waysInForce (s : State) (p : Nat) : Nat := s.tiers.ways.getD p 0

/-- Whether a slice in service has the logical number of a line address; where none has, the line goes to DRAM (R300). -/
def State.sliceServes (s : State) (a : Nat) : Bool := s.tiers.slices.any fun v => v % 8 == 1 && v / 8 == lineSlice a

/-- Whether a CACHE claim of the partition that placed a line pins it (R298). -/
def State.linePinned (s : State) (l : CacheLine) : Bool :=
  s.objects.any fun o => o.handle == l.obj && o.claims.any fun c => c.part == l.part && c.level == 2

/-- The way that a line of a partition is placed in: an empty way of its mask, or that of its least recently used unpinned line. -/
def State.victim (s : State) (p a : Nat) : Option Nat :=
  let here := s.tiers.lines.filter fun l => l.part == p && l.inSet a
  let mask := s.waysInForce p
  match (List.range 16).find? fun w => mask.testBit w && !(here.any fun l => l.way == w) with
  | some w => some w
  | none => (here.reverse.find? fun l => mask.testBit l.way && !s.linePinned l).map (·.way)

/-- An access of a partition to the i-th line of an object, a write or a read: a hit makes the line the most recently used, and a miss
places it, unless the access does not allocate, the partition has no way, or no slice serves it. A line that is replaced is written back. -/
def State.cacheAccess (p : Nat) (o : Obj) (write noAlloc : Bool) (s : State) (i : Nat) : State :=
  let a := o.lineAddr i
  match s.tiers.lines.find? fun l => l.isLine p o.handle a with
  | some l => s.modTiers fun t => { t with lines := { l with dirty := l.dirty || write } :: t.lines.erase l }
  | none =>
    if noAlloc ∨ s.sliceServes a = false then s
    else match s.victim p a with
      | none => s
      | some w => s.modTiers fun t => { t with
          lines := { a := a, part := p, way := w, dirty := write, obj := o.handle } :: t.lines.filter fun l => !(l.part == p && l.inSet a && l.way == w) }

/-- An access to some bytes of an object, line by line upward. -/
def State.cacheSpan (p : Nat) (o : Obj) (off len : Nat) (write noAlloc : Bool) (s : State) : State :=
  if len = 0 then s
  else ((List.range ((off + len + 127) / 128 - off / 128)).map (off / 128 + ·)).foldl (State.cacheAccess p o write noAlloc) s

/-! ### What leaves the cache -/

/-- Lines are written back and invalidated. -/
def State.dropLines (f : CacheLine → Bool) (s : State) : State := s.modTiers fun t => { t with lines := t.lines.filter fun l => !f l }

/-- The lines that a completed CACHE claim pins are fetched into the ways of its partition (R298, R299, R323). -/
def State.fillPinned (s : State) : State :=
  s.objects.foldl (fun s o => (o.claims.filter fun c => c.level == 2 && c.done).foldl (fun s c => s.cacheSpan c.part o 0 o.allocated false false) s) s

end Sys2Proof.Machine
end

