-- ==== Sys2Proof/Machine/Flash.lean ====
section
/-! DEFINITION. The flash translation layer: where a page lies, programs in stripes, garbage collection, wear levelling, refresh for
read disturb, and checkpoints (R309 to R315). The bytes of a page are its object's, which the flash holds with it. -/

namespace Sys2Proof.Machine

/-- The blocks of the flash (R309). -/
def flashBlocks : Nat := 131072
/-- The rated program and erase cycles of a block (R309). -/
def ratedCycles : Nat := 3000

/-- Changes the translation layer. -/
def State.modFlash (f : Flash → Flash) (s : State) : State := s.modTiers fun t => { t with flash := f t.flash }

/-- The free blocks. -/
def Tiers.freeBlocks (t : Tiers) : Nat := flashBlocks - t.badBlocks.length - t.flash.used.length

/-- The page of user space that holds the i-th 16 KiB of an object. -/
def userPage (handle i : Nat) : Nat := handle % 2 ^ 32 * 2 ^ 27 + i
/-- The pages of an object. -/
def Obj.flashPages (o : Obj) : Nat := (o.size + 16383) / 16384

/-- The block of a raw page. -/
def rawBlock (raw : Nat) : Nat := raw / 1024

/-- The valid pages of a block. -/
def Flash.valid (x : Flash) (block : Nat) : List Nat := (x.map.filter fun e => rawBlock e.2 == block).map (·.1)

/-- A free block of a die that is not bad; which one the spec leaves open. -/
def Flash.freeOf (x : Flash) (bad : List Nat) (pick die : Nat) : Nat :=
  let free := ((List.range 8192).map (8192 * die + ·)).filter fun b => (kvGet x.used b).isNone && !bad.contains b
  free.getD (pick % max 1 free.length) (8192 * die)

/-- One free block of each die is opened for the stripes to come. -/
def State.openStripe (s : State) : State :=
  let t := s.free
  t.2.modFlash fun x =>
    let blocks := (List.range 16).map fun d => x.freeOf s.tiers.badBlocks t.1 d
    { x with opened := blocks, row := 0, next := 0, used := blocks.foldl (fun l b => kvSet l b (some 0)) x.used }

/-- A page is programmed at the next place of its stripe: 15 pages and the parity page, whose die rotates, across the 16 dies (R309, R310). -/
def State.programPage (s : State) (page : Nat) : State :=
  let s := if s.tiers.flash.opened = [] ∨ 1024 ≤ s.tiers.flash.row then s.openStripe else s
  s.modFlash fun x =>
    let parity := x.row % 16
    let block := x.opened.getD (if x.next < parity then x.next else x.next + 1) 0
    let used := kvSet x.used block (some (x.row + 1))
    let full : Bool := x.next == 14
    { x with map := kvSet x.map page (some (block * 1024 + x.row)), next := if full then 0 else x.next + 1, row := if full then x.row + 1 else x.row,
             used := if full then kvSet used (x.opened.getD parity 0) (some (x.row + 1)) else used }

/-- The map is written to flash (R310). -/
def State.checkpoint (s : State) : State := s.modFlash fun x => { x with saved := x.map }

/-- The map in DRAM is lost, and read again from the last checkpoint (R310, R503, R570). -/
def Flash.reload (x : Flash) : Flash := { x with map := x.saved }

/-- The pages of an object are programmed (R320). -/
def State.programObject (o : Obj) (s : State) : State :=
  ((List.range o.flashPages).foldl (fun s i => s.programPage (userPage o.handle i)) s).checkpoint

/-- A block's valid pages move to other blocks, and it is erased. -/
def State.evacuate (s : State) (block : Nat) : State :=
  let s := if s.tiers.flash.opened.contains block then s.modFlash fun x => { x with opened := [] } else s
  let s := (s.tiers.flash.valid block).foldl State.programPage s
  (s.modFlash fun x => { x with used := kvSet x.used block none, reads := kvSet x.reads block none }).modTiers fun t =>
    { t with erases := kvSet t.erases block (some ((kvGet t.erases block).getD 0 + 1)) }

/-- A block that fails is bad: its valid pages move, and another block takes its place (R309). -/
def State.condemn (s : State) (block : Nat) : State :=
  if s.tiers.badBlocks.contains block then s
  else
    let s := if (kvGet s.tiers.flash.used block).isSome then s.evacuate block else s
    s.modTiers fun t => { t with badBlocks := block :: t.badBlocks }

/-- The used block for which a measure is least, and of those the lowest-numbered. -/
def Flash.least (x : Flash) (f : Nat → Nat) : Option Nat := x.used.foldl (fun b e => match b with
  | none => some e.1
  | some y => if f e.1 < f y then some e.1 else some y) none

/-- Garbage collection: while fewer than 2 % of the raw blocks are free, the block with the fewest valid pages (R313). -/
def State.collect : Nat → State → State
  | 0, s => s
  | n + 1, s =>
    if flashBlocks ≤ 50 * s.tiers.freeBlocks then s
    else match s.tiers.flash.least fun b => (s.tiers.flash.valid b).length with
      | none => s
      | some b => (s.evacuate b).collect n

/-- Wear levelling: while a block has been erased over 256 times more than the least-erased one, whose data moves (R313). -/
def State.level : Nat → State → State
  | 0, s => s
  | n + 1, s =>
    let count := fun (b : Nat) => (kvGet s.tiers.erases b).getD 0
    match s.tiers.flash.least count with
    | none => s
    | some b => if (s.tiers.erases.map (·.2)).foldl max 0 ≤ count b + 256 then s else (s.evacuate b).level n

/-- The blocks whose reads have reached READ_DISTURB_LIMIT are refreshed, and counted (R314). -/
def State.refreshBlocks (limit : Nat) (s : State) : State :=
  let worn := (s.tiers.flash.reads.filter fun e => decide (limit ≤ e.2)).map (·.1)
  (worn.foldl State.evacuate s).modTiers fun t => { t with disturbed := t.disturbed + worn.length }

/-- What the maintenance window does of itself: the pages of objects that are gone are freed (R324), pages that a rebuild restored are
rewritten (R315), blocks that fail are replaced, and the others refreshed, collected and levelled, and the map is written. -/
def State.maintain (bad : List Nat) (s : State) : State :=
  let s := s.modFlash fun x => { x with map := x.map.filter fun e => (s.objOf (e.1 / 2 ^ 27)).isSome }
  let s := (s.tiers.flash.rewrite.filter fun k => (kvGet s.tiers.flash.map k).isSome).foldl State.programPage s
  let s := (bad.foldl State.condemn (s.modFlash fun x => { x with rewrite := [] })).refreshBlocks (s.cfg 0x2100 5)
  let s := s.collect s.tiers.flash.used.length
  (s.level s.tiers.flash.used.length).checkpoint

/-- A promotion reads every page of an object: the reads of its blocks are counted (R314). -/
def State.readPages (o : Obj) (s : State) : State := s.modFlash fun x =>
  let mine := (x.map.filter fun e => e.1 / 2 ^ 27 == o.handle % 2 ^ 32).map fun e => rawBlock e.2
  { x with reads := mine.foldl (fun l b => kvSet l b (some ((kvGet l b).getD 0 + 1))) x.reads }

/-- Reads of blocks are counted (R314). -/
def State.countReads (l : List (Nat × Nat)) (s : State) : State := s.modFlash fun x =>
  { x with reads := (l.filter fun e => (kvGet x.used e.1).isSome).foldl (fun l e => kvSet l e.1 (some ((kvGet l e.1).getD 0 + e.2))) x.reads }

/-- A rebuild has restored a raw page, which the next window rewrites (R315). -/
def State.rebuildPage (raw : Nat) (s : State) : State := s.modFlash fun x =>
  { x with rewrite := x.rewrite ++ (x.map.filter fun e => e.2 == raw).map (·.1) }

end Sys2Proof.Machine
end

