-- ==== Sys2Proof/Machine/Service.lean ====
section
/-! DEFINITION. The ends of sessions and block transfers (R66, R69, R72), and the reasons for an ascent (R497, R507,
R508), which many families raise. -/

namespace Sys2Proof.Machine

/-- Changes the power manager's state. -/
def State.modPower (f : Power → Power) (s : State) : State := { s with power := f s.power }
/-- Changes the cascade's state. -/
def State.modCascade (f : Cascade → Cascade) (s : State) : State := { s with cascade := f s.cascade }
/-- Changes the acoustic front end's state. -/
def State.modAfe (f : Afe → Afe) (s : State) : State := { s with afe := f s.afe }
/-- Changes the ports' state. -/
def State.modNet (f : Net → Net) (s : State) : State := { s with net := f s.net }
/-- Changes the dictionary service's state. -/
def State.modSvc (f : Service → Service) (s : State) : State := { s with svc := f s.svc }
/-- Counts in POWER_COUNTS: entries to OFF, HIBERNATE, LISTEN, LISTEN_RETAIN, ATTEND and ACTIVE, refusals, aborts,
SUPPLY_LATE, BRACE_EVENTS, emergencies, REG_LIMIT_EVENTS. -/
def State.countPower (i : Nat) (s : State) : State := s.modPower fun x => { x with counts := bump x.counts i }

/-! ### Ends (R66, R69, R72) -/

/-- An open block transfer aborts: nothing is committed. -/
def State.abortBlock (b : Block) (code : Nat) (s : State) : State :=
  let f : Frame := { op := if b.write then 4 else 3, response := true, flags := if b.who.tagged then 4 else 0,
                     session := match b.owner with
                       | .session id => id
                       | _ => 0,
                     seq := b.lastSeq, index := b.index, sub := b.sub, status := code }
  (((s.modSvc fun x => { x with blocks := x.blocks.erase b }).countOnnum 1).countOnnum 7).deliver b.who.source f
    |>.keep b.owner f |>.logViolation code b.who.scope (sourceCode b.who.source) []

/-- Everything a sender holds ends: its block transfers, its subscriptions, its window selections and its requests that wait their turn. -/
def State.endOwner (o : Owner) (s : State) : State :=
  let s := (s.svc.blocks.filter fun b => b.owner == o).foldl (fun s b => s.abortBlock b 0x0E15) s
  s.modSvc fun x => { x with subs := x.subs.filter fun e => e.who.owner != o, windowSel := x.windowSel.filter fun e => e.1 != o,
                             notifySeqs := x.notifySeqs.filter fun e => e.1 != o,
                             queued := x.queued.filter fun e => e.2.1.owner != o }

/-- A session closes (R66). -/
def State.closeSession (id : Nat) (s : State) : State :=
  (s.endOwner (.session id)).modSvc fun x => { x with sessions := x.sessions.filter fun e => e.id != id }

/-- The sessions that a condition names close. -/
def State.closeWhere (f : Session → Bool) (s : State) : State := ((s.svc.sessions.filter f).map (·.id)).foldl (fun s id => s.closeSession id) s

/-- The dictionary stops accepting frames, and will answer what it has accepted and end (R69). -/
def State.closeService (s : State) : State := { s with serving := false }.modSvc fun x => { x with closing := true }

/-- The dictionary aborts its block transfers and closes every session (R69). -/
def State.stopService (s : State) : State :=
  (s.svc.blocks.foldl (fun s b => s.abortBlock b 0x0E15) s).modSvc fun x =>
    { x with sessions := [], tls := [], subs := [], blocks := [], notifySeqs := [], windowSel := [], clients := [], signals := [], heldReqs := [], queued := [] }

/-! ### Ascents (R497, R507, R508) -/

/-- A transition is traced: OUTCOME 0 complete, 1 refused, 2 aborted (R579). -/
def State.traceMode (from_ to_ step outcome : Nat) (s : State) : State := s.capture 8 0x20 [byteOf from_, byteOf to_, byteOf step, byteOf outcome]


/-- A descent from ATTEND that has started is reversed, which keeps the part in ATTEND (R29): `reason` as in WAKE_REASON, `tchirix` where the Tchirix die refuses. -/
def State.abortDescent (reason : Nat) (tchirix : Bool) (s : State) : State :=
  match s.power.down with
  | some (to_, origin) =>
    if s.mode ≠ 4 then s
    else
      let s := s.logRefusal 0x0B08 0xFF (if tchirix then 0x50 else 0) ([byteOf 4, byteOf to_, byteOf origin, byteOf 1] ++ be 2 reason)
      let s := s.traceMode 4 to_ 1 2
      ((({ s with serving := true }).countPower 7).modPower fun x => { x with down := none, refused := none, shortHold := 0 })
  | none => s

/-- A reason to enter ACTIVE (R497): it aborts a descent from ATTEND, and the ascent of a part in ATTEND is due; one that
meets the descent from ACTIVE to ATTEND ascends after it. -/
def State.ascendFor (reason : Nat) (s : State) : State :=
  if s.mode < 4 ∨ (s.mode = 5 ∧ s.power.down.isNone) then s
  else
    let s := s.abortDescent reason false
    { (if s.ascend then s else s.setObj 0 0x1400 4 [byteOf reason]) with ascend := true }.modPower fun x => { x with shortHold := 0, since := if s.ascend ∨ s.mode = 5 then x.since else s.nowTicks, down := if s.mode = 5 then x.down.map fun (d : Nat × Nat) => (4, d.2) else x.down }

end Sys2Proof.Machine
end

