-- ==== Sys2Proof/Machine/Objects.lean ====
section
/-! DEFINITION. Objects, claims and pools (10_memory_tiers.md, R316 to R330, and R224 to R226): what every command
that creates, claims, seals or deletes an object shares. -/

namespace Sys2Proof.Machine

/-! ### Streams and events -/

/-- A record of a stream reaches every stream subscription to it (R75). -/
def State.streamAppend (part idx sub : Nat) (b : Bytes) (s : State) : State :=
  { s with svc := { s.svc with subs := s.svc.subs.map fun e =>
      if e.mode = 3 ∧ e.part = part ∧ e.index = idx ∧ e.sub = sub then { e with queue := e.queue ++ b } else e } }

/-- An event of OBJECT_EVENTS of partition p, and its trace record (R579). -/
def State.objectEvent (p handle event level code : Nat) (s : State) : State :=
  (s.streamAppend 0 (0x3061 + 0x100 * p) 8 (s.stamp ++ be 8 handle ++ [byteOf event, byteOf level] ++ be 2 code)).capture p 7
    ([byteOf event, byteOf level, 0, 0] ++ le 4 handle)

/-- A request on an object is refused: the event REFUSED with its code. -/
def State.objectRefused (p handle level code : Nat) (s : State) : State := s.objectEvent p handle 9 level code

/-! ### Sizes and charges (R318, R321) -/

/-- 4 MiB. -/
def frameBytes : Nat := 4194304
/-- 64 KiB. -/
def extentBytes : Nat := 65536

/-- The bytes of DRAM an object takes: extents, or frames and the extents of its tail (R318). -/
def allocatedBytes (pinnable : Bool) (size : Nat) : Nat :=
  if pinnable then (size + frameBytes - 1) / frameBytes * frameBytes
  else (size + extentBytes - 1) / extentBytes * extentBytes

/-- The claim a partition has on an object. -/
def Obj.claim? (o : Obj) (p : Nat) : Option Claim := o.claims.find? fun c => c.part == p

/-- Whether a partition is charged for an object's DRAM (R320, R321). -/
def Obj.charged (o : Obj) (p : Nat) : Bool :=
  (o.claim? p).isSome || (o.owner == p && (o.state == 1 || o.state == 2))

/-- The DRAM a partition is charged. -/
def State.dramCharge (s : State) (p : Nat) : Nat := ((s.objects.filter fun o => o.charged p).map (·.allocated)).sum

/-- The flash a partition is charged, in pages of 16 KiB (R320). -/
def State.flashCharge (s : State) (p : Nat) : Nat :=
  ((s.objects.filter fun o => o.owner == p && o.kind == 1 && decide (2 ≤ o.state)).map fun o => (o.size + 16383) / 16384 * 16384).sum

/-- DRAM_QUOTA. -/
def State.dramQuota (s : State) (p : Nat) : Nat := s.area p 0x60 2
/-- FLASH_TURNS. -/
def State.flashTurns (s : State) (p : Nat) : Nat := s.area p 0x60 4
/-- DRAM_TURNS. -/
def State.dramTurns (s : State) (p : Nat) : Nat := s.area p 0 3
/-- The number of bits set in a mask of n bits. -/
def popCount (n m : Nat) : Nat := (List.range n).countP fun i => m.testBit i
/-- The ways of a partition: those in force, which a removal that is deferred has not yet taken away (R295, R298). -/
def State.ways (s : State) (p : Nat) : Nat := popCount 16 (s.waysInForce p)

/-- The lines an object pins in each set of the g-th group of 32 sets: a 64 KiB extent places one line in
each set of one group, and a 4 MiB frame one in every set (R294, R298). -/
def Obj.pins (o : Obj) (g : Nat) : Nat :=
  let frames := o.allocated / frameBytes
  let tail := o.allocated % frameBytes / extentBytes
  frames + (List.range tail).countP fun i => Config.extentAt o.place i % 64 == g

/-- The lines a partition has pinned in each set of a group. -/
def State.pinned (s : State) (p g : Nat) : Nat :=
  ((s.objects.filter fun o => o.claims.any fun c => c.part == p && c.level == 2).map fun o => o.pins g).sum

/-- The pinned bytes of a partition. -/
def State.pinnedBytes (s : State) (p : Nat) : Nat :=
  ((s.objects.filter fun o => o.claims.any fun c => c.part == p && c.level == 2).map (·.size)).sum

/-- Whether a CACHE claim passes the test of R298. -/
def State.pinFits (s : State) (p : Nat) (o : Obj) : Bool :=
  (List.range 64).all fun g => decide (s.pinned p g + o.pins g + 1 ≤ s.ways p)

/-! ### Keys and publishers -/

/-- Whether slot p holds a key (R535). -/
def State.hasKey (s : State) (p : Nat) : Bool := (s.keys.getD p none).isSome

/-- The key a list of 105-byte entries gives for a KEY_ID (R539). -/
def keyIn (l : Bytes) (keyId : Nat) : Option Bytes :=
  (((List.range (l.length / 105)).map fun i => slice l (105 * i) 105).find? fun e => ofBE (e.take 8) == keyId).map fun e => e.drop 8

/-- Whether a partition trusts a publisher (R321). -/
def State.trusts (s : State) (p keyId : Nat) : Bool := (keyIn (s.obj 0 (0x3052 + 0x100 * p) 3) keyId).isSome

/-- The digest over 1 MiB chunks (R319). -/
def chunkTree (o : Obj) : Bytes :=
  Config.sha384 ((List.range ((o.size + 1048575) / 1048576)).flatMap fun i =>
    Config.sha384 (memRead o.content (i * 1048576) (min 1048576 (o.size - i * 1048576))))

/-- The line-sum digest over the lines as DRAM holds them, enciphered (R306, R319). It is a function of the object's content, so it is
current after every write. -/
def Obj.lineSum (o : Obj) : Bytes :=
  be 48 (((List.range ((o.size + 127) / 128)).map fun i =>
    ofBE (Config.sha384 (le 2 o.index ++ le 2 o.gen ++ le 4 i ++ Config.cipherLine (o.keyCheck.getD 0) (o.lineAddr i) (memRead o.content (128 * i) 128)))).sum % 2 ^ 384)

/-! ### RETAINED objects (R328, R329) -/

/-- An object as a warm start records it: RETAINED, with its digest and with its completed claims, which return at its readoption (R328, R329); a
seal in progress is lost, and its object is LOADING again. -/
def Obj.retain (o : Obj) : Obj :=
  let o := if o.state = 2 then { o with residence := 3, digest := [] } else o
  { o with state := 5, digest := if o.kind = 1 ∧ o.residence ≠ 3 then o.digest else o.lineSum,
           claims := (o.claims.filter fun c => c.done || c.held).map fun c => { c with done := false, held := true } }

/-- An object returns, with the claims that its owner and others held (R329): a LOADING one to LOADING. -/
def Obj.readopt (x : Obj) : Obj :=
  let loading : Bool := x.residence == 3
  { x with state := if loading then 1 else 3, residence := if loading then 3 else 2, digest := if loading ∨ x.kind ≠ 1 then [] else x.digest,
           claims := x.claims.map fun c => if c.held then { c with done := true, held := false } else c }

/-- The digest that readoption computes: the chunk tree of a SEALED object, the line sum of another (R319, R329). -/
def Obj.digestNow (x : Obj) : Bytes := if x.kind = 1 ∧ x.residence ≠ 3 then chunkTree x else x.lineSum

/-! ### Fields of a sequence object's header, and pools -/

/-- A little-endian field of an object's bytes. -/
def Obj.u (o : Obj) (off n : Nat) : Nat := ofLE (memRead o.content off n)

/-- Writes a little-endian field of an object's bytes. -/
def Obj.setU (off n v : Nat) (o : Obj) : Obj := { o with content := memWrite o.content off (le n v) }

/-- E of a sequence (R228). -/
def Obj.entries (o : Obj) : Nat := o.u 8 2 * o.u 10 2 * o.u 12 4
/-- COPY_BYTES. -/
def Obj.copyBytes (o : Obj) : Nat := (64 + 8 * o.entries + 4095) / 4096 * 4096
/-- Where a copy begins. -/
def Obj.copyAt (o : Obj) (c : Nat) : Nat := 4096 + c * o.copyBytes
/-- Entry e of a copy (R231). -/
def Obj.entry (o : Obj) (c e : Nat) : Nat := o.u (o.copyAt c + 64 + 8 * e) 8
/-- Writes an entry. -/
def Obj.setEntry (c e v : Nat) (o : Obj) : Obj := o.setU (o.copyAt c + 64 + 8 * e) 8 v
/-- FRAME of an entry. -/
def entryFrame (e : Nat) : Nat := bits e 31 0
/-- VALID of an entry. -/
def entryValid (e : Nat) : Bool := e.testBit 32
/-- OWNER of an entry. -/
def entryOwner (e : Nat) : Nat := bits e 35 33
/-- GENERATION of an entry. -/
def entryGen (e : Nat) : Nat := bits e 63 48

/-- A pool's format, head dimension code and pages (KV_POOL). -/
def State.pool (s : State) (p k : Nat) : Nat × Nat × Nat := (s.field p 0x2070 (k + 1) 0, s.field p 0x2070 (k + 1) 1, s.field p 0x2070 (k + 1) 2)

/-- PAGE_BYTES of a pool's format and head dimension (R226). -/
def pageBytes (fmt hd : Nat) : Nat := 128 * (64 * 2 ^ hd) * (fmtWidth fmt / 8)

/-- The reference count of a page. -/
def Obj.refs (o : Obj) (n : Nat) : Nat := (kvGet o.pages n).getD 0 / 65536
/-- The generation of a page. -/
def Obj.pageGen (o : Obj) (n : Nat) : Nat := (kvGet o.pages n).getD 0 % 65536
/-- Sets a page's count and generation. -/
def Obj.setPage (n refs gen : Nat) (o : Obj) : Obj :=
  { o with pages := kvSet o.pages n (if refs * 65536 + gen = 0 then none else some (refs * 65536 + gen)) }

/-- The pages of a pool that are free. -/
def State.freePages (s : State) (p k : Nat) : Nat :=
  match s.objAt p (8188 + k) with
  | some o => (s.pool p k).2.2 - (o.pages.countP fun e => decide (65536 ≤ e.2))
  | none => 0

/-- The lowest-numbered free page below a bound (R225). -/
def Obj.lowestFree (o : Obj) : Nat → Nat → Nat
  | _, 0 => 0
  | n, fuel + 1 => if o.refs n = 0 then n else o.lowestFree (n + 1) fuel

/-- Counts in KV_COUNTS. -/
def State.countKv (p i n : Nat) (s : State) : State := s.modPart p fun x => { x with kvCounts := bumpBy x.kvCounts i n }

/-- Subtracts 1 from the count of a page (R245, R250). -/
def State.releasePage (p k page : Nat) (s : State) : State :=
  match s.objAt p (8188 + k) with
  | none => s
  | some o =>
    let r := o.refs page
    let s := s.modObj p (8188 + k) fun o => o.setPage page (r - 1) (o.pageGen page)
    if r = 1 then s.countKv p 1 1 else s

/-- Releases every page that the active copy of a sequence maps, and clears both copies (R245). -/
def State.leave (owner index : Nat) (s : State) : State :=
  match s.objAt owner index with
  | none => s
  | some o =>
    let k := o.u 4 1
    let a := o.u 32 1
    let per := pageBytes (s.pool owner k).1 (s.pool owner k).2.1 / 4096
    let mapped := (List.range o.entries).filter fun e => entryValid (o.entry a e)
    let s := mapped.foldl (fun s e => s.releasePage owner k (entryFrame (o.entry a e) / per)) s
    s.modObj owner index fun o =>
      { o with content := memWrite o.content 4096 (List.replicate (2 * o.copyBytes) 0) } |>.setU 16 8 0

/-! ### Claims (R321 to R323, R604) -/

/-- Whether a partition may hold an object (R321). -/
def State.mayHold (s : State) (p : Nat) (o : Obj) : Bool :=
  o.owner == p || (o.kind == 1 && [3, 4, 5].contains o.state && o.pub && s.trusts p o.keyId)

/-- Whether a holder lacks the turns a claim needs (R604). -/
def State.lacksTurns (s : State) (p : Nat) (o : Obj) (level : Nat) : Bool :=
  (o.kind == 1 && s.flashTurns p == 0) || (level == 2 && s.dramTurns p == 0)

/-- The code that refuses a claim at a level above 0, or 0. A claim that names a publisher whom the partition does not trust has a code of
its own (R330, assumption 43). -/
def State.claimCode (s : State) (p : Nat) (o : Obj) (level : Nat) : Nat :=
  if o.deleting then 0x0201
  else if !s.mayHold p o then (if o.kind == 1 && [3, 4, 5].contains o.state && o.pub then 0x0211 else 0x0202)
  else if o.state = 4 then 0x0207
  else if o.state = 1 ∨ o.state = 2 then 0x0E15
  else if s.lacksTurns p o level ∧ ((o.claim? p).map (·.level)).getD 0 < level then 0x0213
  else if !o.charged p ∧ s.dramQuota p < s.dramCharge p + o.allocated then 0x0203
  else if level = 2 ∧ !(o.claims.any fun c => c.part == p && c.level == 2) ∧ !s.pinFits p o then 0x0205
  else 0

/-- Takes a claim into the object's list; a claim that does not rise changes nothing (R321). -/
def State.takeClaim (p level : Nat) (o : Obj) (s : State) : State :=
  s.modObj o.owner o.index fun x =>
    match x.claim? p with
    | none => { x with claims := x.claims ++ [{ part := p, level := level }] }
    | some c =>
      let c' : Claim :=
        if c.level < level then { part := p, level := level }
        else { c with level := level, release := false }
      { x with claims := x.claims.map fun y => if y.part = p then c' else y }

/-- Whether a claim of the partition that needs flash turns (or DRAM turns) is in progress (R604). -/
def State.claimNeeds (s : State) (p : Nat) (dram : Bool) : Bool :=
  s.objects.any fun o => o.claims.any fun c => c.part == p && !c.done && (if dram then c.level == 2 else o.kind == 1)

/-- Whether a partition holds a completed claim of a level on an object. -/
def Obj.claimed (o : Obj) (p level : Nat) : Bool := o.claims.any fun c => c.part == p && c.done && decide (level ≤ c.level)

/-! ### The cascade models and their promotions (R36, R37) -/

/-- HANDLE and LEVEL of a member of a partition's CASCADE_MODELS: 0 Chime, 1 Bell, 2 Gong. -/
def State.model (s : State) (p k : Nat) : Nat × Nat := (s.field p 0x1311 5 (2 * k), s.field p 0x1311 5 (2 * k + 1))

/-- The partition that writes a member. -/
def State.modelPart (s : State) (k : Nat) : Nat := if k = 2 then s.cfg 0x1310 6 else s.cascadePart

/-- Whether a promotion may start (R36). -/
def State.mayPromote (s : State) (k : Nat) : Bool := match k with
  | 0 => decide (4 ≤ s.mode)
  | 1 => s.mode == 5
  | _ => decide (4 ≤ s.mode) && s.cascade.gongAsked

/-- Starts the next promotion owed: a member without a handle is skipped, and a claim that fails is recorded and passed over. -/
def State.promote : Nat → State → State
  | 0, s => s
  | n + 1, s =>
    match s.cascade.promoting, s.cascade.owed with
    | none, k :: rest =>
      if !s.mayPromote k then s
      else
        let p := s.modelPart k
        let m := s.model p k
        let s := s.modCascade fun x => { x with owed := rest }
        if m.1 = 0 then s.promote n
        else match s.objOf m.1 with
          | none => (s.objectRefused p m.1 m.2 0x0201).promote n
          | some o =>
            let code := if !s.hasKey p then 0x0C01 else s.claimCode p o m.2
            if code ≠ 0 then (s.objectRefused p m.1 m.2 code).promote n
            else
              let s := s.takeClaim p m.2 o
              if ((s.objOf m.1).map fun x => x.claimed p m.2).getD false then s.promote n
              else s.modCascade fun x => { x with promoting := some (p, m.1) }
    | _, _ => s

/-- Starts what may start. -/
def State.promoteAll (s : State) : State := s.promote 4

/-- A promotion is over once its claim is no longer in progress: it has completed or failed, or its object has gone; the next one starts. -/
def State.settlePromotion (s : State) : State := match s.cascade.promoting with
  | none => s
  | some (p, h) =>
    if (s.objOf h).any fun o => (o.claim? p).any fun c => !c.done then s
    else (s.modCascade fun x => { x with promoting := none }).promoteAll

/-! ### Deletion and release (R322, R324) -/

/-- Whether an object is named in the snapshot of a submission in flight. -/
def State.inFlight (s : State) (handle : Nat) : Bool :=
  s.parts.any fun q => q.ctxs.any fun c => match c.flight with
    | some f => f.binds.any fun b => b.2 == handle % 2 ^ 32
    | none => false

/-- An object disappears, with its lines in the cache. The DRAM of one that the key erases is returned once patrol has overwritten it. -/
def State.vanish (o : Obj) (s : State) : State :=
  let s := if o.kind = 3 then s.leave o.owner o.index else s
  let s := (s.dropLines fun l => l.obj == o.handle).modTiers fun t =>
    { t with erasing := if o.kind = 1 then t.erasing else t.erasing ++ [(o.place, o.allocated, s.nowNs)] }
  ({ s with objects := s.objects.filter fun x => !(x.owner == o.owner && x.index == o.index) }).objectEvent o.owner o.handle 5 0 0

/-- Applies a deletion, once no snapshot in flight names the object: it disappears, or, where others hold it, its owner's claim ends and it
stays for them until the last of them releases it (R324). -/
def State.finishDelete (owner index : Nat) (s : State) : State :=
  match s.objAt owner index with
  | some o =>
    if !o.deleting || s.inFlight o.handle then s
    else if o.claims.all fun c => c.part == owner then s.vanish o
    else s.modObj owner index fun x => { x with claims := x.claims.filter fun c => c.part != owner }
  | none => s

/-- A holder's claim ends: RELEASED, its lines leave its ways, and the copy leaves DRAM when no holder claims it there (R322). -/
def State.dropClaim (p : Nat) (o : Obj) (s : State) : State :=
  let s := s.modObj o.owner o.index fun x =>
    let cs := x.claims.filter fun c => c.part != p
    { x with claims := cs, residence := if cs = [] ∧ x.kind = 1 ∧ x.state ≥ 3 then 1 else x.residence }
  (((s.dropLines fun l => l.obj == o.handle && l.part == p).objectEvent p o.handle 4 0 0).finishDelete o.owner o.index).settlePromotion

/-! ### Objects that are lost (R308, R315, R326) -/

/-- An object becomes DAMAGED: its owner and its holders read it in OBJECT_EVENTS. -/
def State.damage (o : Obj) (code : Nat) (s : State) : State :=
  if o.state = 4 then s
  else
    let s := s.modObj o.owner o.index fun x => { x with state := 4 }
    let holders := (o.claims.map (·.part)).filter (· != o.owner)
    (o.owner :: holders).foldl (fun s p => s.objectEvent p o.handle 6 0 code) s

/-- Claims in progress on an object fail with a code; a promotion that one of them was is over. -/
def State.failClaims (o : Obj) (code : Nat) (s : State) : State :=
  let open_ := o.claims.filter fun c => !c.done
  let s := s.modObj o.owner o.index fun x => { x with claims := x.claims.filter (·.done) }
  (open_.foldl (fun s c => s.objectRefused c.part o.handle c.level code) s).settlePromotion

/-! ### The end of a claim (R323) -/

/-- What a claim's own stages do: a promotion from flash reads the object's pages, and a CACHE claim fills the holder's ways. -/
def State.promoteCopy (p level : Nat) (o : Obj) (s : State) : State :=
  let s := if o.kind = 1 ∧ o.residence ≠ 2 then s.readPages o else s
  if level = 2 then s.cacheSpan p o 0 o.allocated false false else s

/-- Completes a claim (R323): CLAIM_DONE, the copy in DRAM, and a release that waited. A promotion from flash checks every chunk against the
digest (R319); with a chunk that fails it the claim fails, and the object is DAMAGED (assumption 43). -/
def State.completeClaim (p : Nat) (o : Obj) (s : State) : State :=
  match o.claim? p with
  | none => s
  | some c =>
    if c.done || !(o.state == 3 || o.state == 6) then s
    else if o.kind = 1 ∧ o.residence ≠ 2 ∧ chunkTree o ≠ o.digest then (s.failClaims o 0x0207).damage o 0x0207
    else
      let s := s.promoteCopy p c.level o
      let s := s.modObj o.owner o.index fun x =>
        { x with residence := 2, claims := x.claims.map fun y => if y.part = p then { y with done := true } else y }
      let s := s.objectEvent p o.handle 3 c.level 0
      if c.release then s.dropClaim p o else s

/-! ### Creation (R320, R232) -/

/-- Whether a KV_SEQUENCE's geometry is legal (R229, R232): the twelve octets at offsets 4 to 15. -/
def State.geometryOk (s : State) (p : Nat) (g : Bytes) : Bool :=
  let u := fun (off n : Nat) => ofLE (slice g off n)
  decide (u 0 1 ≤ 3) && (s.objAt p (8188 + u 0 1)).isSome && decide (u 1 1 ≤ 2) && decide (1 ≤ u 2 1) && decide (u 2 1 ≤ 16) &&
  (u 1 1 != 0 || u 2 1 == 1) && decide (u 3 1 < u 2 1) && decide (1 ≤ u 4 2) && decide (u 4 2 ≤ 1024) &&
  decide (1 ≤ u 6 2) && decide (u 6 2 ≤ 256) && decide (1 ≤ u 8 4) && decide (u 8 4 ≤ 65536)

/-- The size that a geometry gives (R232). -/
def geometrySize (g : Bytes) : Nat :=
  let e := ofLE (slice g 4 2) * ofLE (slice g 6 2) * ofLE (slice g 8 4)
  4096 + 2 * ((64 + 8 * e + 4095) / 4096 * 4096)

/-- The next generation at an index (R316). -/
def State.nextGen (s : State) (owner index : Nat) : Nat := (kvGet s.objGens (owner * 8192 + index)).getD 0 % 65535 + 1

/-- Creates an object at an index. -/
def State.newObj (o : Obj) (s : State) : State :=
  let g := s.nextGen o.owner o.index
  let s := { s with objGens := kvSet s.objGens (o.owner * 8192 + o.index) (some g) }
  let o := { o with gen := g, keyCheck := s.keys.getD o.owner none, place := s.freeCount }
  ({ s with objects := s.objects ++ [o], freeCount := s.freeCount + 1 }).objectEvent o.owner o.handle 1 0 0

/-- The first bytes of a sequence object (R229, R232). -/
def seqHeader (g : Bytes) : List Host.Cell :=
  memWrite (memWrite (memWrite (memOf (le 4 0x53514B56)) 4 g) 34 (le 2 1)) 40 (le 4 0xFFFFFFFF)

/-- The partition that an object of an area belongs to. -/
def Target.p (t : Target) : Nat := if t.row.acc = .area then t.i else t.part

/-- OBJECT_CREATE's own checks (R320, R232, R535). -/
def checkObjectCreate : Check := fun _ t v s =>
  let p := t.p
  let m := fun k => memberAt t.row.mem v k
  let g := slice v 12 12
  let size := if m 1 = 3 then geometrySize g else m 3
  if m 0 = 0 ∨ 8187 < m 0 ∨ m 1 = 0 ∨ 3 < m 1 ∨ 1 < m 2 then (0x0E0A, s)
  else if m 1 = 3 ∧ (m 3 ≠ 0 ∨ !s.geometryOk p g) then (0x0E0A, s)
  else if m 1 ≠ 3 ∧ (m 3 = 0 ∨ g.any (· != 0)) then (0x0E0A, s)
  else if s.dramQuota p < s.dramCharge p + allocatedBytes (m 2 == 1) size then (0x0E0A, s.objectRefused p 0 0 0x0203)
  else if !s.hasKey p then (0x0C01, s)
  else if (s.objAt p (m 0)).isSome then (0x0E15, s)
  else (0, s)

/-- OBJECT_CREATE (R320, R232). -/
def commitObjectCreate : Commit := fun _ t v s =>
  let p := t.p
  let m := fun k => memberAt t.row.mem v k
  let g := slice v 12 12
  let size := if m 1 = 3 then geometrySize g else m 3
  s.newObj { owner := p, index := m 0, gen := 0, kind := m 1, state := if m 1 = 1 then 1 else 3, pinnable := m 2 == 1, size := size,
             allocated := allocatedBytes (m 2 == 1) size, residence := if m 1 = 1 then 3 else 2,
             claims := if m 1 = 1 then [] else [{ part := p, level := 1, done := true }],
             content := if m 1 = 3 then seqHeader g else [] }

/-- OBJECT_CREATE (R320). -/
def execObjectCreate (rq : Request) (s : State) : Host.Outcome State Fault Refusal :=
  settled s (s.ownWrite "OBJECT_CREATE" checkObjectCreate commitObjectCreate false rq)

/-- A request on an object of the writer's own: the code that refuses it, or 0. -/
def ownObjCode (p : Nat) : Option Obj → Nat
  | none => 0x0201
  | some o => if o.deleting then 0x0201 else if o.owner = p then 0 else 0x0202

/-- A refused request on an object, recorded in OBJECT_EVENTS (R320). -/
def State.refuseObj (p handle level code : Nat) (s : State) : Nat × State := (code, s.objectRefused p handle level code)

/-- OBJECT_SEAL's own checks (R320, R535). -/
def checkObjectSeal : Check := fun _ t v s =>
  let p := t.p
  let h := memberAt t.row.mem v 0
  let code := ownObjCode p (s.objOf h)
  if 1 < memberAt t.row.mem v 1 ∨ (memberAt t.row.mem v 1 = 0 ∧ (slice v 17 96).any (· != 0)) then (0x0E0A, s)
  else if !s.hasKey p then (0x0C01, s)
  else if code ≠ 0 then s.refuseObj p h 0 code
  else match s.objOf h with
    | none => (0x0201, s)
    | some o =>
      if o.kind ≠ 1 ∨ o.state ≠ 1 then s.refuseObj p h 0 0x0E15
      else if s.area p 0x60 3 < s.flashCharge p + (o.size + 16383) / 16384 * 16384 then s.refuseObj p h 0 0x0204
      else (0, s)

/-- OBJECT_SEAL: the digest is computed, PUBLIC, KEY_ID and the signature recorded, and the flash program begins. -/
def commitObjectSeal : Commit := fun _ t v s =>
  match s.objOf (memberAt t.row.mem v 0) with
  | none => s
  | some o => s.modObj o.owner o.index fun x =>
      { x with state := 2, digest := chunkTree x, pub := memberAt t.row.mem v 1 == 1, keyId := memberAt t.row.mem v 2, sig := slice v 17 96 }

/-- OBJECT_SEAL (R320). -/
def execObjectSeal (rq : Request) (s : State) : Host.Outcome State Fault Refusal :=
  settled s (s.ownWrite "OBJECT_SEAL" checkObjectSeal commitObjectSeal false rq)

/-- SEAL_COMPLETE (R320): the flash programs of an object that is being sealed complete, in a maintenance window (R312). -/
def execSealComplete (handle : Nat) (s : State) : Host.Outcome State Fault Refusal :=
  settled s (match s.objOf handle with
    | none => s
    | some o =>
      if o.state ≠ 2 ∨ s.tiers.windowOpen = false then s else
      let good := !o.pub || (match keyIn (s.obj 0 (0x3052 + 0x100 * o.owner) 3) o.keyId with
        | some k => Config.verifies k o.digest o.sig
        | none => false)
      ((s.programObject o).modObj o.owner o.index fun x =>
        { x with state := 3, residence := 2, pub := o.pub && good, claims := [{ part := o.owner, level := 1, done := true }] }).objectEvent
          o.owner handle 2 0 (if good then 0 else 0x0211))

/-- OBJECT_CLAIM's own checks (R321, R322, R535, R604). -/
def checkObjectClaim : Check := fun _ t v s =>
  let p := t.p
  let h := memberAt t.row.mem v 0
  let level := memberAt t.row.mem v 1
  if 2 < level then (0x0E0A, s)
  else if !s.hasKey p then (0x0C01, s)
  else match s.objOf h with
    | none => s.refuseObj p h level 0x0201
    | some o =>
      if level = 0 then
        (if o.owner = p ∧ o.kind ≠ 1 then s.refuseObj p h level 0x0E15 else if (o.claim? p).isSome then (0, s) else s.refuseObj p h level 0x0202)
      else
        let code := s.claimCode p o level
        if code = 0 then (0, s)
        else (if code = 0x0213 then 0x0E15 else code, s.objectRefused p h level code)

/-- OBJECT_CLAIM: a claim, a change of its level, or a release, which waits for a claim in progress. -/
def commitObjectClaim : Commit := fun _ t v s =>
  let p := t.p
  let level := memberAt t.row.mem v 1
  match s.objOf (memberAt t.row.mem v 0) with
  | none => s
  | some o =>
    if level = 0 then
      match o.claim? p with
      | none => s
      | some c =>
        if c.done then s.dropClaim p o
        else s.modObj o.owner o.index fun x =>
          { x with claims := x.claims.map fun y => if y.part = p then { y with release := true } else y }
    else s.takeClaim p level o

/-- OBJECT_CLAIM (R321). -/
def execObjectClaim (rq : Request) (s : State) : Host.Outcome State Fault Refusal :=
  settled s (s.ownWrite "OBJECT_CLAIM" checkObjectClaim commitObjectClaim false rq)

/-- OBJECT_DELETE's own checks (R324, R232). -/
def checkObjectDelete : Check := fun _ t v s =>
  let p := t.p
  let code := ownObjCode p (s.objOf (ofBE v))
  if code ≠ 0 then s.refuseObj p (ofBE v) 0 code
  else match s.objOf (ofBE v) with
    | none => (0x0201, s)
    | some o => if o.kind = 4 ∨ (o.kind = 3 ∧ o.u 33 1 ≠ 0) then s.refuseObj p (ofBE v) 0 0x0E15 else (0, s)

/-- OBJECT_DELETE: at once, or, with other holders or a snapshot in flight, when the last of them is gone. -/
def commitObjectDelete : Commit := fun _ _ v s =>
  match s.objOf (ofBE v) with
  | none => s
  | some o => ((s.modObj o.owner o.index fun x => { x with deleting := true, state := 6 }).finishDelete o.owner o.index).settlePromotion

/-- OBJECT_DELETE (R324). -/
def execObjectDelete (rq : Request) (s : State) : Host.Outcome State Fault Refusal :=
  settled s (s.ownWrite "OBJECT_DELETE" checkObjectDelete commitObjectDelete false rq)

/-- DEFERRED_DELETE (R324): the last holder has released, or the last submission that names it has completed. -/
def execDeferredDelete (handle : Nat) (s : State) : Host.Outcome State Fault Refusal :=
  settled s (match s.objOf handle with
    | some o => s.finishDelete o.owner o.index
    | none => s)

/-! ### The window (0x3061.05, .06) -/

/-- The selection of a session; zeros where it has written none. -/
def State.selection (s : State) (o : Owner) : Nat × Nat × Nat :=
  match s.svc.windowSel.find? fun e => e.1 == o with
  | some e => e.2
  | none => (0, 0, 0)

/-- OBJECT_WINDOW_SEL's own checks. -/
def checkObjectWindowSel : Check := fun _ t v s =>
  let m := fun k => memberAt t.row.mem v k
  let code := ownObjCode t.p (s.objOf (m 0))
  if code ≠ 0 then s.refuseObj t.p (m 0) 0 code
  else match s.objOf (m 0) with
    | none => (0x0201, s)
    | some o => if m 2 = 0 ∨ o.size < m 1 + m 2 then (0x0E0A, s) else (0, s)

/-- OBJECT_WINDOW_SEL: the selection of the writing session. -/
def commitObjectWindowSel : Commit := fun w t v s =>
  let m := fun k => memberAt t.row.mem v k
  { s with svc := { s.svc with windowSel := (w.owner, m 0, m 1, m 2) :: s.svc.windowSel.filter fun e => e.1 != w.owner } }

/-- OBJECT_WINDOW_SEL (R320). -/
def execObjectWindowSel (rq : Request) (s : State) : Host.Outcome State Fault Refusal :=
  settled s (s.ownWrite "OBJECT_WINDOW_SEL" checkObjectWindowSel commitObjectWindowSel false rq)

/-! ### Pools (R224 to R226) -/

/-- The bytes of a pool's metadata (R225). -/
def poolMeta (pages : Nat) : Nat := (4 * pages + 4095) / 4096 * 4096

/-- KV_POOL's own checks (R226 and 0x2070). -/
def checkKvPool : Check := fun _ t v s =>
  let p := t.part
  let k := t.sub - 1
  let m := fun i => memberAt t.row.mem v i
  let old := s.objAt p (8188 + k)
  let now := (old.map (·.allocated)).getD 0
  let need := allocatedBytes false (m 2 * pageBytes (m 0) (m 1) + poolMeta (m 2))
  if !([2, 3, 4, 5].contains (m 0)) ∨ 2 < m 1 then (0x0E0A, s)
  else if s.dramQuota p + now < s.dramCharge p + (if m 2 = 0 then 0 else need) then (0x0E0A, s)
  else if (old.map fun o => o.pages.any fun e => decide (65536 ≤ e.2)) = some true then (0x0E15, s)
  else (0, s)

/-- KV_POOL: the pool is an object at index 8188 + pool (R316). -/
def commitKvPool : Commit := fun _ t v s =>
  let p := t.part
  let k := t.sub - 1
  let m := fun i => memberAt t.row.mem v i
  let s := s.setObj p t.index t.sub v
  let s := match s.objAt p (8188 + k) with
    | some o => s.vanish o
    | none => s
  if m 2 = 0 then s else
  let size := m 2 * pageBytes (m 0) (m 1)
  s.newObj { owner := p, index := 8188 + k, gen := 0, kind := 4, state := 3, size := size,
             allocated := allocatedBytes false (size + poolMeta (m 2)), claims := [{ part := p, level := 1, done := true }] }

/-- KV_POOL (R226). -/
def execKvPool (rq : Request) (s : State) : Host.Outcome State Fault Refusal :=
  settled s (s.ownWrite "KV_POOL" checkKvPool commitKvPool false rq)

end Sys2Proof.Machine
end

