-- ==== Sys2Proof/Machine/Streams.lean ====
section
/-! DEFINITION. Stream slots (09_recurrent_streams.md): records, images, buddy copies, the placing of a chunk's rows
and the stages of a chunk's boundary. -/

namespace Sys2Proof.Machine

/-- A stream slot. -/
def State.streamSlot (s : State) (id : Nat) : StreamSlot := (kvGet s.streams id).getD {}
/-- Changes a stream slot. -/
def State.modStream (id : Nat) (f : StreamSlot → StreamSlot) (s : State) : State :=
  { s with streams := kvSet s.streams id (some (f (s.streamSlot id))) }
/-- The partition that owns a slot identifier (R259); 0xFF for none. -/
def State.streamOwner (s : State) (id : Nat) : Nat := s.cfg (0x4000 + id) 1
/-- The records of a core (R257). -/
def State.recordsPerCore (s : State) : Nat := if s.accStreamKib = 0 ∨ s.streamBytes = 0 then 0 else s.accStreamKib * 1024 / s.streamBytes
/-- Counts in STREAM_COUNTS. -/
def State.countStream (p i n : Nat) (s : State) : State := s.modPart p fun x => { x with streamCounts := bumpBy x.streamCounts i n }

/-- The open slots of a partition. -/
def State.openSlots (s : State) (p : Nat) : List Nat := (s.streams.filter fun e => e.2.opened && s.streamOwner e.1 == p).map (·.1)
/-- Whether any slot is open (R262). -/
def State.anyOpenSlot (s : State) : Bool := s.streams.any fun e => e.2.opened

/-- The record of an open slot of a partition. -/
def State.slotRecord (s : State) (p id : Nat) : Bytes :=
  match s.slotOf p (s.streamSlot id).home with
  | some n => memRead (s.slot n).stream ((s.streamSlot id).record * s.streamBytes) s.streamBytes
  | none => List.replicate s.streamBytes 0

/-- Writes bytes at an offset of a slot's record. -/
def State.putRecord (p id off : Nat) (b : Bytes) (s : State) : State :=
  match s.slotOf p (s.streamSlot id).home with
  | some n => s.modSlot n fun x => { x with stream := memWrite x.stream ((s.streamSlot id).record * s.streamBytes + off) b }
  | none => s

/-- A vector descriptor (R258). -/
structure VecDesc where
  row : Nat
  init : Nat
  elems : Nat
  exp : Int
  initExp : Int

/-- Descriptor v of a record. -/
def vecDesc (r : Bytes) (v : Nat) : VecDesc :=
  let u := fun (o n : Nat) => ofLE (slice r (8 * v + o) n)
  { row := u 0 2, init := u 2 2, elems := u 4 2, exp := signed 8 (u 6 1), initExp := signed 8 (u 7 1) }

/-- The mantissas of the rows of a vector. -/
def vecMantissas (r : Bytes) (row elems : Nat) : List Int := (List.range elems).map fun i => signed 32 (ofLE (slice r (256 * row + 4 * i) 4))

/-- The bytes of mantissas. -/
def mantissaBytes (l : List Int) : Bytes := l.flatMap fun m => le 4 (unsigned 32 m)

/-- The mantissas and exponent that a vector takes at a reset (R270). -/
def vecReset (r : Bytes) (d : VecDesc) : List Int × Int :=
  (if d.init = 0 then List.replicate d.elems 0 else vecMantissas r d.init d.elems, d.initExp)

/-- Writes a vector of a slot's record: its mantissas and its EXP. -/
def State.putVec (p id v : Nat) (ms : List Int) (e : Int) (s : State) : State :=
  let d := vecDesc (s.slotRecord p id) v
  (s.putRecord p id (256 * d.row) (mantissaBytes ms)).putRecord p id (8 * v + 6) [byteOf (unsigned 8 e)]

/-- Resets every used vector of a slot (R270). -/
def State.resetSlot (p id : Nat) (s : State) : State :=
  (List.range 32).foldl (fun s v =>
    let r := s.slotRecord p id
    let d := vecDesc r v
    if d.row = 0 then s else s.putVec p id v (vecReset r d).1 (vecReset r d).2) s

/-- The ranges of rows that a record's descriptors name: first row and rows. -/
def imageRanges (r : Bytes) : List (Nat × Nat) :=
  (List.range 32).flatMap fun v =>
    let d := vecDesc r v
    if d.row = 0 then [] else (d.row, d.elems / 64) :: (if d.init = 0 then [] else [(d.init, d.elems / 64)])

/-- Whether no two ranges of a list meet. -/
def rangesApart : List (Nat × Nat) → Bool
  | [] => true
  | a :: l => l.all (fun b => decide (a.1 + a.2 ≤ b.1) || decide (b.1 + b.2 ≤ a.1)) && rangesApart l

/-- The image's checks (R260). -/
def imageOk (r : Bytes) : Bool :=
  (List.range 32).all (fun v => let d := vecDesc r v; d.row == 0 || (decide (64 ≤ d.elems) && decide (d.elems ≤ 4096) && d.elems % 64 == 0)) &&
  (imageRanges r).all (fun a => decide (1 ≤ a.1) && decide (a.1 + a.2 ≤ r.length / 256)) && rangesApart (imageRanges r)

/-- The lowest free record of a core (R260). -/
def State.freeRecord (s : State) (p core : Nat) : Option Nat :=
  (List.range s.recordsPerCore).find? fun i =>
    !(s.openSlots p).any fun id => (s.streamSlot id).home == core && (s.streamSlot id).record == i

/-- The buddy of a logical core (R282). -/
def State.buddyOf (s : State) (p core : Nat) : Option Nat :=
  if s.cores p < 2 then none else s.slotOf p ((core + 1) % s.cores p)

/-- Whether a logical core is being replaced (R114). -/
def State.underReplacement (s : State) (p core : Nat) : Bool := s.replacing.any fun x => x.part == p && x.logical == core

/-- Takes a slot's buddy copy (R283). A buddy that is being replaced takes it when it is in service (R284). -/
def State.takeBuddy (p id : Nat) (s : State) : State :=
  match s.buddyOf p (s.streamSlot id).home with
  | none => s.modStream id fun x => { x with buddyValid := false }
  | some n =>
    if s.underReplacement p (((s.streamSlot id).home + 1) % s.cores p) then s.modStream id fun x => { x with buddyValid := false } else
    let r := s.slotRecord p id
    ((s.modSlot n fun x => { x with buddy := memWrite x.buddy ((s.streamSlot id).record * s.streamBytes) r }).modStream id fun x =>
      { x with buddyValid := true }).countStream p 9 1

/-- Restores a slot from its buddy copy (R281). -/
def State.restoreSlot (p id : Nat) (s : State) : State :=
  match s.buddyOf p (s.streamSlot id).home with
  | some n => if (s.streamSlot id).buddyValid then s.putRecord p id 0 (memRead (s.slot n).buddy ((s.streamSlot id).record * s.streamBytes) s.streamBytes) else s
  | none => s

/-- Scrubs a slot's record and buddy record, and closes it (R286). -/
def State.closeSlot (p id : Nat) (s : State) : State :=
  let e := s.streamSlot id
  let z := List.replicate s.streamBytes (0 : Byte)
  let s := s.putRecord p id 0 z
  let s := match s.buddyOf p e.home with
    | some n => s.modSlot n fun x => { x with buddy := memWrite x.buddy (e.record * s.streamBytes) z }
    | none => s
  ((s.modStream id fun x => { x with opened := false, buddyValid := false, gate := 0, low := 0, closedFor := 0, move := none, closing := false }).setObj
    0 (0x4000 + id) 5 [0]).setObj 0 (0x4000 + id) 4 [0xFF]

/-- Whether a step that holds a slot is in progress: the context that holds it. -/
def State.holderOf (s : State) (p id : Nat) : Option Nat :=
  (List.range 16).find? fun c => match (s.ctx p c).flight with
    | some f => f.started && f.streamRows.any fun r => r.slot == id
    | none => false

/-- Whether a pattern is a stream pattern: BUCKET_DIM 3 in a bucket (R277). -/
def Loaded.isStream (l : Loaded) : Bool := (List.range l.bucketCount).any fun b => l.bucketDim b == 3

/-- Whether any stream step of a partition is in progress. -/
def State.streamStepRuns (s : State) (p : Nat) : Bool :=
  (List.range 16).any fun c => match (s.ctx p c).flight, (s.ctx p c).pattern with
    | some f, some l => f.started && l.isStream
    | _, _ => false

/-- Stops a submission on every core: what has not issued is discarded, and a SYNC or WAIT_TIME that waits is
ended at once. The first stop stands. -/
def State.stopFlight (p c code core idx : Nat) (s : State) : State :=
  let s := s.modFlight p c fun f =>
    { f with stop := f.stop.or (some (code, core, idx)), cores := f.cores.map fun r => { r with todo := [], gate := none } }
  s.modPart p fun x => { x with running := x.running.filter fun r => !(r.ctx == c && r.holds) }

/-- A STREAM_MOVE that its registration left running: it fails with a code (R154), or may complete. -/
def State.endMoveStroke (p : Nat) (key : Option (Nat × Nat × Nat)) (code : Nat) (s : State) : State :=
  match key with
  | none => s
  | some (c, core, idx) =>
    if code = 0 then s
    else (s.modPart p fun x => { x with running := x.running.filter fun r => !(r.ctx == c && r.core == core && r.stroke == idx && r.word0 % 256 == 0x2B) }).stopFlight
      p c code core idx

/-- Whether the move that a stroke registered is still to take effect. -/
def State.movePending (s : State) (p c core idx : Nat) : Bool := s.streams.any fun e => s.streamOwner e.1 == p && (match e.2.move with
  | some (_, some k) => k == (c, core, idx)
  | _ => false)

/-- A STREAM_MOVE copies: it holds the transfer engine of its core until it completes (R86, R176), once that is free. -/
def State.copyMove (p : Nat) (key : Option (Nat × Nat × Nat)) (s : State) : State :=
  match key with
  | none => s
  | some (c, core, idx) =>
    let busy := (s.part p).running.any fun r => r.core == core && !r.preempted && r.units.contains 0
    s.modPart p fun x => { x with running := x.running.map fun r =>
      if r.ctx = c ∧ r.core = core ∧ r.stroke = idx ∧ r.word0 % 256 = 0x2B then { r with units := [0], preempted := busy } else r }

/-- A registered move takes effect (R285). One from or to a core that is being replaced waits for the replacement (R114). -/
def State.moveSlot (p id : Nat) (s : State) : State :=
  let e := s.streamSlot id
  match e.move with
  | none => s
  | some (dest, key) =>
    if s.underReplacement p e.home ∨ s.underReplacement p dest then s else
    let s := (s.modStream id fun x => { x with move := none }).setObj 0 (0x4000 + id) 4 [0xFF]
    if !e.opened ∨ dest = e.home then s.endMoveStroke p key 0
    else match s.freeRecord p dest with
      | none => ((s.modStream id fun x => { x with lastCode := 0x0503 }).countStream p 5 1).endMoveStroke p key 0x0503
      | some rec_ =>
        let r := s.slotRecord p id
        let z := List.replicate s.streamBytes (0 : Byte)
        let s := s.putRecord p id 0 z
        let s := s.modStream id fun x => { x with home := dest, record := rec_, moves := x.moves + 1 }
        ((s.putRecord p id 0 r).takeBuddy p id |>.countStream p 4 1).copyMove p key

/-- Registers a move; a STREAM_MOVE that it supersedes completes without a copy (R285). -/
def State.registerMove (p id dest : Nat) (key : Option (Nat × Nat × Nat)) (s : State) : State :=
  let old := (s.streamSlot id).move
  let s := match old with
    | some (_, k) => s.endMoveStroke p k 0
    | none => s
  s.modStream id fun x => { x with move := some (dest, key) }

/-! ### A chunk's rows (R277 to R279) -/

/-- The object a binding of a submission names. -/
def State.boundIn (s : State) (binds : List (Nat × Nat)) (b : Nat) : Option Obj :=
  match binds.find? fun e => e.1 == b with
  | some e => s.objOf e.2
  | none => none

/-- The rows of a step of a chunk manifest: slot, generation, marks and the reserved half-word. -/
def chunkRows (m : Obj) (step : Nat) : List (Nat × Nat × Nat × Nat) :=
  let rows := m.u 0 4
  (List.range rows).map fun r =>
    let at_ := 64 + 8 * (step * rows + r)
    (m.u at_ 2, m.u (at_ + 2) 2, m.u (at_ + 4) 2, m.u (at_ + 6) 2)

/-- Whether a list of slots repeats one. -/
def repeats : List Nat → Bool
  | [] => false
  | a :: l => l.contains a || repeats l

/-- The placed rows of a step. -/
def State.placeRows (s : State) (m : Obj) (step : Nat) : List StreamRow :=
  ((chunkRows m step).filter fun r => r.1 != 0xFFFF).map fun r =>
    let e := s.streamSlot r.1
    { slot := r.1, core := e.home, marks := r.2.2.1, released := !e.opened || e.gen != r.2.1 }

/-- The checks of R279: 0 or the code of the first that fails. -/
def State.streamCheck (s : State) (p c : Nat) (pat : Loaded) (f : Flight) : Nat :=
  match s.boundIn f.binds 65533 with
  | none => 0x0508
  | some m =>
    let rows := chunkRows m f.step
    let used := (rows.filter fun r => r.1 != 0xFFFF).map (·.1)
    let others := (List.range 16).flatMap fun k => if k = c then [] else
      match (s.ctx p k).flight with
      | some g => if g.started then g.streamRows.map (·.slot) else []
      | none => []
    if m.u 0 4 = 0 ∨ 2048 < m.u 0 4 ∨ m.u 4 4 ≠ pat.steps ∨ m.u 8 1 = 0 ∨ 8 < m.u 8 1 ∨ m.u 9 3 ≠ 0 ∨ (memRead m.content 28 36).any (· != 0) ∨
        m.size < 64 + 8 * m.u 0 4 * m.u 4 4 ∨ rows.any (fun r => r.2.2.2 != 0) then 0x0508
    else if used.any (fun i => decide (2047 < i) || s.streamOwner i != p) ∨ repeats used ∨ used.any (others.contains ·) then 0x0508
    else if (List.range (s.cores p)).any (fun k => decide (pat.bucketSize f.sub.bucket < ((s.placeRows m f.step).filter fun r => r.core == k).length)) then 0x0509
    else 0

/-- The marks plane of a core's rows: 2 bits per row per frame, BATCH = n rows (R175). -/
def marksPlane (n frames : Nat) (marks : List Nat) : Bytes :=
  le ((2 * n * frames + 7) / 8)
    ((List.range frames).foldl (fun a f => (List.range n).foldl (fun a b => a + (marks.getD b 0 / 4 ^ f % 4) * 4 ^ (f * n + b)) a) 0)

/-- Places a step's rows and writes each core's lists (R279). -/
def State.streamRoute (p c : Nat) (pat : Loaded) (f : Flight) (s : State) : State :=
  match s.boundIn f.binds 65533 with
  | none => s
  | some m =>
    let rows := s.placeRows m f.step
    let n := pat.bucketSize f.sub.bucket
    let frames := m.u 8 1
    let base := s.ctxCfg p c 0 3 * 64
    let s := (List.range pat.cores).foldl (fun s k =>
      match s.slotOf p k with
      | none => s
      | some slot =>
        let mine := rows.filter fun r => r.core == k
        let pad := n - mine.length
        let marks := mine.map (·.marks)
        let put := fun (off : Nat) (b : Bytes) (s : State) => s.modSlot slot fun x => { x with spad := memWrite x.spad (base + off) b }
        let s := put (m.u 12 4) ((mine.flatMap fun r => le 2 r.slot) ++ (List.replicate pad (le 2 0xFFFF)).flatten) s
        let s := put (m.u 16 4) ((mine.flatMap fun r => le 4 r.slot) ++ (List.replicate pad (le 4 2048)).flatten) s
        let s := put (m.u 20 4) (marksPlane n frames marks) s
        if m.u 24 4 = 0 then s
        else (List.range frames).foldl (fun s fr => put (m.u 24 4 + 64 * fr) (marksPlane n 1 (marks.map (· / 4 ^ fr % 4))) s) s) s
    s.modFlight p c fun f => { f with streamRows := rows }

/-! ### The boundary of a chunk (R280) -/

/-- Whether a row's marks hold END in one of the frames of the chunk. -/
def hasEnd (frames marks : Nat) : Bool := (List.range frames).any fun f => marks / 4 ^ f % 4 == 3

/-- How often a row's marks hold RESET, before an END. -/
def resetCount : Nat → Nat → Nat
  | 0, _ => 0
  | n + 1, m => if m % 4 = 3 then 0 else b01 (m % 4 == 1) + resetCount n (m / 4)

/-- The stages End, Buddy, Move and Release at a boundary of context c (R280). -/
def State.streamBoundary (p c : Nat) (s : State) : State :=
  match (s.ctx p c).flight, (s.ctx p c).pattern with
  | some f, some l =>
    if !l.isStream then s else
    let frames := match s.boundIn f.binds 65533 with
      | some m => m.u 8 1
      | none => 0
    let live := f.streamRows.filter fun r => !r.released
    let s := live.foldl (fun s r =>
      let s := s.modStream r.slot fun x => { x with chunks := x.chunks + 1, resets := x.resets + resetCount frames r.marks }
      if hasEnd frames r.marks then (s.resetSlot p r.slot).modStream r.slot fun x => { x with ends := x.ends + 1 } else s) s
    let s := (live.filter fun r => !s.underReplacement p (s.streamSlot r.slot).home).foldl (fun s r => s.takeBuddy p r.slot) s
    let s := s.modFlight p c fun f => { f with streamRows := [], slotsWritten := [], resetsDone := [] }
    let idle := (s.streams.map (·.1)).filter fun id => s.streamOwner id == p && (s.holderOf p id).isNone
    let s := idle.foldl (fun s id => s.moveSlot p id) s
    let s := idle.foldl (fun s id => if (s.streamSlot id).closing then s.closeSlot p id else s) s
    let rel := f.streamRows.filter (·.released)
    (s.countStream p 0 1).countStream p 3 rel.length
  | _, _ => s

/-- A stream step ends without a boundary (R281). -/
def State.streamAbort (p c : Nat) (s : State) : State :=
  match (s.ctx p c).flight with
  | none => s
  | some f =>
    let s := f.slotsWritten.foldl (fun s id => s.restoreSlot p id) s
    let s := (s.streams.map (·.1)).foldl (fun s id => match (s.streamSlot id).move with
      | some (_, some k) => if k.1 = c ∧ s.streamOwner id = p then s.modStream id fun x => { x with move := none } else s
      | _ => s) s
    s.modFlight p c fun f => { f with streamRows := [], slotsWritten := [], resetsDone := [] }

/-- A slot whose core is lost is closed with SLOT_LOST (R282, R284). -/
def State.loseSlot (p id : Nat) (s : State) : State :=
  ((s.closeSlot p id).modStream id fun x => { x with lastCode := 0x0504 }).countStream p 8 1

/-- The slots of a retired logical core L, once its replacement is in service, and those of the core before it
(R284). `written` are the slots the failed step had written. -/
def State.recoverSlots (p core : Nat) (written : List Nat) (s : State) : State :=
  let n := s.cores p
  let mine := (s.openSlots p).filter fun id => (s.streamSlot id).home == core
  if n < 2 then mine.foldl (fun s id => s.loseSlot p id) s else
  let s := mine.foldl (fun s id =>
    if (s.streamSlot id).buddyValid then
      ((s.restoreSlot p id).modStream id fun x => { x with restores := x.restores + 1 }).countStream p 6 1
    else s.loseSlot p id) s
  let before := (s.openSlots p).filter fun id => (s.streamSlot id).home == (core + n - 1) % n && !mine.contains id
  before.foldl (fun s id =>
    let s := if written.contains id then
        ((s.resetSlot p id).modStream id fun x => { x with lastCode := 0x0505 }).countStream p 7 1
      else s
    s.takeBuddy p id) s

/-! ### The slot's objects (R260, R285, R286) -/

/-- SLOT_IMAGE's own checks (R260, R535). -/
def checkSlotImage : Check := fun _ t v s =>
  let id := t.i
  let p := s.streamOwner id
  let home := s.cfg (0x4000 + id) 2
  let fail := fun (code : Nat) => (0x0E15, s.modStream id fun x => { x with lastCode := code })
  if v.length ≠ s.streamBytes then (0x0E09, s)
  else if !s.hasKey p then (0x0C01, s)
  else if (s.streamSlot id).opened ∨ s.cores p ≤ home ∨ !imageOk v then fail 0x0506
  else if (s.freeRecord p home).isNone then fail 0x0503
  else (0, s)

/-- SLOT_IMAGE opens the slot. -/
def commitSlotImage : Commit := fun _ t v s =>
  let id := t.i
  let p := s.streamOwner id
  let home := s.cfg (0x4000 + id) 2
  match s.freeRecord p home with
  | none => s
  | some rec_ =>
    let s := s.modStream id fun x => { x with opened := true, home := home, record := rec_, gen := x.gen % 65535 + 1, lastCode := 0 }
    (s.putRecord p id 0 v).takeBuddy p id

/-- SLOT_IMAGE (R260). -/
def execSlotImage (rq : Request) (s : State) : Host.Outcome State Fault Refusal :=
  settled s (s.ownWrite "SLOT_IMAGE" checkSlotImage commitSlotImage true rq)

/-- SLOT_MOVE_TO's own check. -/
def checkSlotMoveTo : Check := fun _ t v s => if s.cores (s.streamOwner t.i) ≤ ofBE v then (0x0E0A, s) else (0, s)

/-- SLOT_MOVE_TO registers a move, which takes effect at once when no stream step runs. -/
def commitSlotMoveTo : Commit := fun _ t v s =>
  let p := s.streamOwner t.i
  let s := (s.setObj 0 t.index t.sub v).registerMove p t.i (ofBE v) none
  if s.streamStepRuns p then s else s.moveSlot p t.i

/-- SLOT_MOVE_TO (R285). -/
def execSlotMoveTo (rq : Request) (s : State) : Host.Outcome State Fault Refusal :=
  settled s (s.ownWrite "SLOT_MOVE_TO" checkSlotMoveTo commitSlotMoveTo false rq)

/-- SLOT_CLOSE registers a close, which takes effect at once when no step holds the slot. -/
def commitSlotClose : Commit := fun _ t v s =>
  let p := s.streamOwner t.i
  if ofBE v = 0 ∨ !(s.streamSlot t.i).opened then s else
  let s := (s.setObj 0 t.index t.sub v).modStream t.i fun x => { x with closing := true }
  if (s.holderOf p t.i).isSome then s else s.closeSlot p t.i

/-- SLOT_CLOSE (R286). -/
def execSlotClose (rq : Request) (s : State) : Host.Outcome State Fault Refusal :=
  settled s (s.ownWrite "SLOT_CLOSE" (fun _ _ _ s => (0, s)) commitSlotClose false rq)

end Sys2Proof.Machine
end

