-- ==== Sys2Proof/Machine/Kv.lean ====
section
/-! DEFINITION. The key-value cache between steps (08_attention_and_kv_cache.md): the manifest, the reservation of
pages, publishes and the stages of a step boundary. -/

namespace Sys2Proof.Machine

/-- A row of a manifest (R241), with the sequence it names. -/
structure KvRow where
  row : Nat
  bind : Nat
  flags : Nat
  reserved : Nat
  append : Nat
  first : Nat
  seq : Option Obj

/-- The rows of a step, the empty ones among them. -/
def State.kvAllRows (s : State) (m : Obj) (f : Flight) : List KvRow :=
  (List.range (m.u 0 4)).map fun r =>
    let at_ := 64 + 16 * (f.step * m.u 0 4 + r)
    { row := r, bind := m.u at_ 2, flags := m.u (at_ + 2) 1, reserved := m.u (at_ + 3) 1 + m.u (at_ + 12) 4, append := m.u (at_ + 4) 4,
      first := m.u (at_ + 8) 4, seq := s.boundIn f.binds (m.u at_ 2) }

/-- The rows of a step that are not empty. -/
def State.kvRows (s : State) (m : Obj) (f : Flight) : List KvRow := (s.kvAllRows m f).filter fun r => r.bind != 0

/-- Whether a row that is bound names a sequence of the partition, with an APPEND in its range (R241, R242). -/
def KvRow.names (r : KvRow) (p : Nat) : Bool := match r.seq with
  | some o => o.kind == 3 && o.owner == p && o.state == 3 && decide (r.append ≤ 65536)
  | none => false

/-- LENGTH of a sequence. -/
def Obj.length (o : Obj) : Nat := o.u 16 4
/-- ACTIVE_COPY of a sequence. -/
def Obj.active (o : Obj) : Nat := o.u 32 1
/-- The members that share a sequence by position: 1 where it is not so spread (R231). -/
def Obj.posMembers (o : Obj) : Nat := if o.u 5 1 = 2 then o.u 6 1 else 1
/-- The global page of a local page (R231). -/
def Obj.globalPage (o : Obj) (j : Nat) : Nat := if o.u 5 1 = 2 then j * o.u 6 1 + o.u 7 1 else j
/-- The local page of a global page that this part holds. -/
def Obj.localPage? (o : Obj) (g : Nat) : Option Nat :=
  if o.u 5 1 = 2 then (if g % o.u 6 1 = o.u 7 1 then some (g / o.u 6 1) else none) else some g
/-- The entry of a layer, head and local page (R228). -/
def Obj.entryIndex (o : Obj) (layer head j : Nat) : Nat := (layer * o.u 10 2 + head) * o.u 12 4 + j

/-- The entries a row needs that are not VALID in the active copy (R242). -/
def Obj.needed (o : Obj) (first append : Nat) : List Nat :=
  if append = 0 then [] else
  let g0 := first / 64
  let js := (List.range ((first + append - 1) / 64 + 1 - g0)).filterMap fun i => o.localPage? (g0 + i)
  ((List.range (o.u 8 2 * o.u 10 2)).flatMap fun lh => (js.filter fun j => decide (j < o.u 12 4)).map fun j => lh * o.u 12 4 + j).filter
    fun e => !entryValid (o.entry o.active e)

/-- The rows whose cumulative need exceeds the free pages of their pool (R242). -/
def State.shortRows (s : State) (p : Nat) : List (Nat × Nat) → List KvRow → List Nat
  | _, [] => []
  | used, r :: rest =>
    match r.seq with
    | none => s.shortRows p used rest
    | some o =>
      let k := o.u 4 1
      let u := (kvGet used k).getD 0 + (o.needed r.first r.append).length
      (if s.freePages p k < u then [r.row] else []) ++ s.shortRows p (kvSet used k (some u)) rest

/-- The sequences in the steps of a partition's other contexts. -/
def State.busySeqs (s : State) (p c : Nat) : List (Nat × Nat) :=
  (List.range 16).flatMap fun k => if k = c then [] else
    match (s.ctx p k).flight with
    | some f => f.seqRows.map fun e => (e.1, e.2.1)
    | none => []

/-- The checks of R242 in order: 0, or the code and the rows that fail. -/
def State.kvCheck (s : State) (p c : Nat) (pat : Loaded) (f : Flight) : Nat × List Nat :=
  match s.boundIn f.binds 65534 with
  | none => (0x060F, [])
  | some m =>
    if m.u 0 4 = 0 ∨ 1024 < m.u 0 4 ∨ m.u 4 4 ≠ pat.steps ∨ (memRead m.content 8 56).any (· != 0) ∨ m.size < 64 + 16 * m.u 0 4 * m.u 4 4 then (0x060F, [])
    else
      let rows := s.kvRows m f
      let bad := fun (g : KvRow → Bool) => (rows.filter g).map (·.row)
      let seqBad := fun (g : KvRow → Obj → Bool) => bad fun r => match r.seq with
        | some o => g r o
        | none => true
      let keys := rows.filterMap fun r => r.seq.map fun o => (r.row, (o.owner, o.index))
      let b1 := ((s.kvAllRows m f).filter fun r => decide (3 < r.flags) || r.reserved != 0 || (r.bind != 0 && !r.names p)).map (·.row)
      let b2 := seqBad fun r o => r.first != o.length || (r.flags.testBit 0 && o.length != 0) || (r.flags == 3 && r.append == 0)
      let b3 := (keys.filter fun k => (s.busySeqs p c).contains k.2 || keys.any fun j => j.1 != k.1 && j.2 == k.2).map (·.1)
      let b4 := seqBad fun r o => decide (o.u 12 4 * 64 * o.u 6 1 < r.first + r.append)
      let b5 := bad fun r => pat.bucketDim f.sub.bucket == 1 && decide (pat.bucketSize f.sub.bucket < r.first + r.append)
      let b6 := s.shortRows p [] rows
      if b1 ≠ [] then (0x060F, b1) else if b2 ≠ [] then (0x060F, b2) else if b3 ≠ [] then (0x060C, b3) else if b4 ≠ [] then (0x060D, b4)
      else if b5 ≠ [] then (0x060E, b5) else if b6 ≠ [] then (0x0601, b6) else (0, [])

/-- A step that does not start: KV_SHORTAGE and the headers of the sequences that the flagged rows name (R243). -/
def State.kvShortage (p c code member : Nat) (rows : List Nat) (f : Flight) (s : State) : State :=
  let all : List KvRow := match s.boundIn f.binds 65534 with
    | some m => if code = 0x060F then [] else s.kvRows m f
    | none => []
  let named : List KvRow := match s.boundIn f.binds 65534 with
    | some m => (s.kvRows m f).filter fun r => rows.contains r.row
    | none => []
  let need := (all.map fun r => match r.seq with
    | some o => (o.needed r.first r.append).length
    | none => 0).sum
  let free := match (named.filterMap (·.seq)).head? with
    | some o => s.freePages p (o.u 4 1)
    | none => 0
  let s := s.modCtx p c fun x => { x with shortage := [code, f.step, member, need, free], shortRows := rows }
  let s := ((named.filterMap (·.seq)).filter fun o => o.kind == 3 && o.owner == p).foldl (fun s o => s.modObj o.owner o.index (·.setU 36 2 code)) s
  s.countKv p 3 1

/-- Allocates a page of a pool (R225): its number and generation. -/
def State.takePage (p k : Nat) (s : State) : Nat × Nat × State :=
  match s.objAt p (8188 + k) with
  | none => (0, 0, s)
  | some o =>
    let n := o.lowestFree 0 (s.pool p k).2.2
    let g := o.pageGen n % 65535 + 1
    (n, g, (s.modObj p (8188 + k) (·.setPage n 1 g)).countKv p 0 1)

/-- Every page cache of a partition drops the lines of a sequence, whose active copy has changed or gained entries (R234). -/
def State.dropWalked (p owner index : Nat) (s : State) : State :=
  { s with slots := s.slots.map fun x => if x.part = p then { x with walked := x.walked.filter fun e => e.1 != owner * 8192 + index } else x }

/-- Reserves a row's pages and starts the step for its sequence (R242). -/
def State.reserveRow (p : Nat) (r : KvRow) (s : State) : State :=
  match r.seq with
  | none => s
  | some o =>
    let k := o.u 4 1
    let per := pageBytes (s.pool p k).1 (s.pool p k).2.1 / 4096
    let s := (o.needed r.first r.append).foldl (fun s e =>
      let t := s.takePage p k
      let v := t.1 * per + 2 ^ 32 + p * 2 ^ 33 + t.2.1 * 2 ^ 48
      t.2.2.modObj o.owner o.index fun x => (x.setEntry 0 e v).setEntry 1 e v) s
    let s := if o.needed r.first r.append = [] then s else s.dropWalked p o.owner o.index
    s.modObj o.owner o.index fun x =>
      ((((x.setU 20 4 x.length).setU 24 4 r.first).setU 28 4 (r.first + r.append)).setU 16 4 (r.first + r.append)).setU 33 1 1 |>.setU 48 8 (x.u 48 8 + 1)

/-- The reservation of a step that has passed its checks. -/
def State.kvReserve (p c : Nat) (f : Flight) (s : State) : State :=
  match s.boundIn f.binds 65534 with
  | none => s
  | some m =>
    let rows := s.kvRows m f
    let s := rows.foldl (fun s r => s.reserveRow p r) s
    (s.modFlight p c fun g => { g with seqRows := rows.filterMap fun r => r.seq.map fun o => (o.owner, o.index, r.flags) }).countKv p 2 1

/-! ### Publishes (R249, R250) -/

/-- Whether an entry fails a walker check of owner, range or generation (R233). -/
def State.entryCode (s : State) (p k e : Nat) : Nat :=
  let per := pageBytes (s.pool p k).1 (s.pool p k).2.1 / 4096
  if !entryValid e then 0x0603
  else if entryOwner e ≠ p then 0x0604
  else if per = 0 ∨ entryFrame e % per ≠ 0 ∨ (s.pool p k).2.2 ≤ entryFrame e / per then 0x0606
  else match s.objAt p (8188 + k) with
    | some o => if o.pageGen (entryFrame e / per) = entryGen e then 0 else 0x0605
    | none => 0x0606

/-- The entries of the dirty range that differ between the copies (R249). -/
def Obj.changed (o : Obj) : List Nat :=
  let i := o.copyAt (1 - o.active)
  ((List.range (o.u (i + 12) 4)).filter fun e => decide (o.u (i + 8) 4 ≤ e)).filter fun e => o.entry 0 e != o.entry 1 e

/-- The reference count of a page after a flip. -/
def State.refsAfter (s : State) (o : Obj) (per page : Nat) : Int :=
  let a := o.active
  let here := fun (c e : Nat) => entryValid (o.entry c e) && entryFrame (o.entry c e) / per == page
  let now := match s.objAt o.owner (8188 + o.u 4 1) with
    | some q => q.refs page
    | none => 0
  (now : Int) - (o.changed.countP (here a) : Nat) + (o.changed.countP (here (1 - a)) : Nat)

/-- Whether a flip is refused, and the entry that is named (R249). -/
def State.flipRefused (s : State) (o : Obj) : Option Nat :=
  let a := o.active
  let i := 1 - a
  let h := o.copyAt i
  let k := o.u 4 1
  let per := pageBytes (s.pool o.owner k).1 (s.pool o.owner k).2.1 / 4096
  let req := o.u (h + 4) 4
  let df := o.u (h + 8) 4
  let de := o.u (h + 12) 4
  if o.u (h + 2) 2 ≠ 0 ∨ (memRead o.content (h + 16) 48).any (· != 0) ∨ de < df ∨ o.entries < de ∨ o.u 12 4 * 64 * o.u 6 1 < req then some 0xFFFFFFFF
  else
    let A := (req + 63) / 64
    let F := req / 64
    let L := (o.length + 63) / 64
    let ch := o.changed
    (List.range o.entries).find? fun e =>
      let g := o.globalPage (e % o.u 12 4)
      let new := o.entry i e
      let isCh := ch.contains e
      let refs := s.refsAfter o per (entryFrame new / per)
      (isCh && entryValid new && s.entryCode o.owner k new != 0) ||
      (decide (g < A) && (decide (L ≤ g) || (decide (df ≤ e) && decide (e < de))) && !entryValid new) ||
      (decide (F ≤ g) && (decide (g < max A L) || isCh) && entryValid new && decide (1 < refs)) ||
      (isCh && entryValid new && decide (65535 < refs))

/-- A registered publish at the Flip stage (R249, R250): refused, or the copies change places. -/
def State.flip (p owner index gen : Nat) (s : State) : State :=
  match s.objAt owner index with
  | none => s
  | some o =>
    match s.flipRefused o with
    | some e =>
      let s := s.modObj owner index fun x => ((x.setU 36 2 0x060B).setU 40 4 e).setU 33 1 1
      (s.countKv p 5 1).logViolation 0x060B p 0 (be 4 (o.handle % 2 ^ 32) ++ be 4 e)
    | none =>
      let a := o.active
      let i := 1 - a
      let k := o.u 4 1
      let per := pageBytes (s.pool owner k).1 (s.pool owner k).2.1 / 4096
      let ch := o.changed
      let df := o.u (o.copyAt i + 8) 4
      let de := o.u (o.copyAt i + 12) 4
      let s := ch.foldl (fun s e =>
        let new := o.entry i e
        if entryValid new then s.modObj owner (8188 + k) fun q => q.setPage (entryFrame new / per) (q.refs (entryFrame new / per) + 1) (q.pageGen (entryFrame new / per)) else s) s
      let s := ch.foldl (fun s e =>
        let old := o.entry a e
        if entryValid old then s.releasePage owner k (entryFrame old / per) else s) s
      let s := s.modObj owner index fun x =>
        let x := ((((x.setU 32 1 i).setU 34 2 gen).setU 16 4 (o.u (o.copyAt i + 4) 4)).setU 33 1 1).setU 36 2 0
        let x := { x with content := memWrite x.content (x.copyAt a + 64 + 8 * df) (memRead x.content (x.copyAt i + 64 + 8 * df) (8 * (de - df))) }
        { x with content := memWrite x.content (x.copyAt a) (List.replicate 64 0) }
      (s.dropWalked p owner index).countKv p 4 1

/-- The stages Flip, Release and Close of a step boundary (R244, R245). -/
def State.kvBoundary (p c : Nat) (s : State) : State :=
  match (s.ctx p c).flight with
  | none => s
  | some f =>
    let s := f.publishes.foldl (fun s q => s.flip p q.1 q.2.1 q.2.2) s
    let s := f.seqRows.foldl (fun s r => if r.2.2.testBit 1 then (s.leave r.1 r.2.1).dropWalked p r.1 r.2.1 else s) s
    let s := f.seqRows.foldl (fun s r => s.modObj r.1 r.2.1 (·.setU 33 1 0)) s
    s.modFlight p c fun f => { f with seqRows := [], publishes := [] }

/-- A step that ends without a boundary (R246). -/
def State.kvAbort (p c : Nat) (s : State) : State :=
  match (s.ctx p c).flight with
  | none => s
  | some f =>
    let s := f.seqRows.foldl (fun s r => s.modObj r.1 r.2.1 fun x => (x.setU 16 4 (x.u 20 4)).setU 33 1 0) s
    s.modFlight p c fun f => { f with seqRows := [], publishes := [] }

/-! ### Protected ranges (R247) -/

/-- Whether a write of `n` bytes at an offset reaches a protected range of a sequence object, and the copy number. -/
def State.ptProtected (s : State) (o : Obj) (off n : Nat) : Option Nat :=
  if o.kind ≠ 3 then none else
  let meets := fun (a b : Nat) => decide (off < b) && decide (a < off + n)
  let a := o.active
  let pub := o.u 33 1 == 2 || s.parts.any fun q => q.ctxs.any fun c => match c.flight with
    | some f => f.publishes.any fun e => e.1 == o.owner && e.2.1 == o.index
    | none => false
  if meets 0 4096 then some 0xFF
  else if meets (o.copyAt a) (o.copyAt a + o.copyBytes) then some a
  else if pub && meets (o.copyAt (1 - a)) (o.copyAt (1 - a) + o.copyBytes) then some (1 - a)
  else none

/-- A write to a protected range is rejected and logged. -/
def State.rejectPt (o : Obj) (off copy : Nat) (s : State) : State :=
  (s.countKv o.owner 6 1).logViolation 0x0602 o.owner 0 (be 4 (o.handle % 2 ^ 32) ++ be 4 (off % 2 ^ 32) ++ [byteOf copy])

/-! ### The window of objects (R247, R320) -/

/-- The checks of an access of `n` bytes through OBJECT_WINDOW, a write or a read. A write to an object that does not take it is recorded, and one
that reaches a protected range of a sequence object is logged and counted as well (R247, R320). -/
def State.windowCode (s : State) (w : Who) (p n : Nat) (write : Bool) : Nat × State :=
  let sel := s.selection w.owner
  if sel.2.2 = 0 then (0x0E15, s)
  else if n = 0 ∨ sel.2.2 < n then (0x0E0A, s)
  else match s.objOf sel.1 with
    | none => s.refuseObj p sel.1 0 0x0201
    | some o =>
      if o.deleting then s.refuseObj p sel.1 0 0x0201
      else if o.state = 4 then s.refuseObj p sel.1 0 0x0207
      else if (o.kind = 1 ∧ o.state = 1) ∨ (o.kind = 2 ∧ o.state = 3) then (0, s)
      else if !write then (0x0E15, s)
      else
        let s := match s.ptProtected o sel.2.1 n with
          | some copy => s.rejectPt o sel.2.1 copy
          | none => s
        (0x0E15, s.objectRefused p sel.1 0 0x0208)

/-- OBJECT_WINDOW's own checks of a write (R535). -/
def checkObjectWindow : Check := fun w t v s => if !s.hasKey t.p then (0x0C01, s) else s.windowCode w t.p v.length true

/-- OBJECT_WINDOW: the bytes go into the selected range. -/
def commitObjectWindow : Commit := fun w _ v s =>
  let sel := s.selection w.owner
  match s.objOf sel.1 with
  | none => s
  | some o => s.modObj o.owner o.index fun x => { x with content := memWrite x.content sel.2.1 v }

/-- OBJECT_WINDOW (R320). -/
def execObjectWindow (rq : Request) (s : State) : Host.Outcome State Fault Refusal :=
  settled s (s.ownWrite "OBJECT_WINDOW" checkObjectWindow commitObjectWindow true rq)

end Sys2Proof.Machine
end

