-- ==== Sys2Proof/Machine/StrokeCheck.lean ====
section
/-! DEFINITION. What a core checks before a stroke issues (R144 to R152): opcodes, reserved bits, field values,
operand pairs, spaces, alignment, peals and cores, bindings, overlap and share bounds. -/

namespace Sys2Proof.Machine

/-! ### Opcodes (R145) -/

/-- The opcode of word 0. -/
def opcodeOf (w : List Nat) : Nat := wd w 0 % 256
/-- FLAGS[k]. -/
def flagOf (w : List Nat) (k : Nat) : Bool := (wd w 0).testBit (8 + k)
/-- WAIT_TOKENS. -/
def waitTokens (w : List Nat) : Nat := bits (wd w 0) 23 16
/-- SIGNAL_TOKEN. -/
def signalToken (w : List Nat) : Nat := bits (wd w 0) 26 24
/-- SIGNAL_EN. -/
def signalEn (w : List Nat) : Bool := (wd w 0).testBit 27
/-- PREEMPT_OK. -/
def preemptOk (w : List Nat) : Bool := (wd w 0).testBit 28
/-- LAST. -/
def isLast (w : List Nat) : Bool := (wd w 0).testBit 29
/-- SAT_CHECK. -/
def satCheck (w : List Nat) : Bool := (wd w 0).testBit 30

/-- The opcodes of the table. -/
def opcodes : List Nat :=
  [0x00, 0x01, 0x02, 0x03, 0x08, 0x09, 0x0A, 0x0B, 0x0C, 0x10, 0x11, 0x12, 0x13, 0x18, 0x19, 0x1A, 0x1B, 0x1C, 0x1D,
   0x1E, 0x20, 0x21, 0x22, 0x23, 0x28, 0x29, 0x2A, 0x2B, 0x30, 0x31, 0x3F]

/-- Whether PREEMPT_OK is legal. -/
def mayPreempt (w : List Nat) : Bool :=
  let op := opcodeOf w
  [0x08, 0x0A, 0x0B, 0x0C, 0x10, 0x11, 0x12, 0x13, 0x18, 0x19, 0x1A, 0x1B, 0x1C, 0x1D, 0x1E, 0x20, 0x21, 0x29].contains op ||
  (op == 0x28 && !(wd w 14).testBit 8)

/-- Whether SAT_CHECK is legal. -/
def maySat (op : Nat) : Bool :=
  [0x10, 0x11, 0x13, 0x18, 0x19, 0x1A, 0x1B, 0x1C, 0x1D, 0x1E, 0x20, 0x21, 0x22, 0x28, 0x29, 0x2A, 0x31].contains op

/-- A whole word. -/
def wFull : Nat := 0xFFFFFFFF
/-- A 21-bit scratchpad offset. -/
def wOff : Nat := 0x1FFFFF

/-- The FLAGS bits an opcode defines. -/
def flagMask : Nat → Nat
  | 0x02 => 1 | 0x03 => 3 | 0x13 => 15 | 0x18 => 3 | 0x19 => 1 | 0x1A => 1 | 0x1B => 7 | 0x1C => 3 | 0x1E => 1 | _ => 0

/-- The bits of words 1 to 15 that an opcode's layout names (R158 to R177). -/
def wordMasks : Nat → List Nat
  | 0x01 => [0xFF]
  | 0x02 => [0x7FFF]
  | 0x03 => [wFull, wFull, 0xFFFF]
  | 0x08 => [wFull, wFull, 0, 0, wFull, wFull, 0, wFull, wFull]
  | 0x09 => 0xF :: List.replicate 14 wFull
  | 0x0A => [wFull, wFull, 0, 0, wFull, wFull, 0, wFull, wFull, 0xFFF]
  | 0x0B => [wFull, wFull, wFull, wFull, wFull, wFull, 0, wFull, wFull, wFull]
  | 0x0C => [wFull, wFull, wFull, wFull, wFull, wFull, 0, wFull, wFull, wFull]
  | 0x10 => [wFull, wFull, wFull, wFull, wFull, wFull, 0x0FFFFFFF, wFull, wFull, 0xFFFF0FFF, wFull, 0xF, wOff, wOff, wOff]
  | 0x11 => [wFull, wFull, wFull, wFull, wFull, wFull, 0x0FFFFFFF, wFull, wFull, 0xFFFF0FFF, wFull, 0xF, wOff, wOff, wOff]
  | 0x12 => [wFull, wFull, wFull, wFull, wFull, wFull, 0x0FFFFFFF, wFull, wFull, wFull, 0xFFFF, 0x0FFFFFFF, wFull]
  | 0x13 => [wFull, wFull, 0, 0, wFull, wFull, 0x0FFFFFFF, wFull, wFull]
  | 0x18 => List.replicate 6 wFull ++ [0x0FFFFFFF, wFull, wFull, 0xFFFF, 0xFF, wFull, wFull]
  | 0x19 => List.replicate 6 wFull ++ [0x0FFFFFFF, wFull, wFull, 0xFFFF, wOff]
  | 0x1A => List.replicate 6 wFull ++ [0x0FFFFFFF, wFull, wFull, 0xFFFF, 0xFF]
  | 0x1B => List.replicate 6 wFull ++ [0x0FFFFFFF, wFull, wFull, 0xFFFF, wFull, wOff, wOff]
  | 0x1C => List.replicate 6 wFull ++ [0x0FFFFFFF, wFull, wFull, 0xFFFF, wFull, wOff, wFull]
  | 0x1D => List.replicate 6 wFull ++ [0x0FFFFFFF, wFull, wFull, 0xFFFF, 3]
  | 0x1E => List.replicate 6 wFull ++ [0x0FFFFFFF, wFull, wFull, 0xFFFF, 0xFF]
  | 0x20 => List.replicate 6 wFull ++ [0x0FFFFFFF, 0xFFFF03FF, 0xFFFF, wFull, wFull, wFull]
  | 0x21 => List.replicate 6 wFull ++ [0x0FFFFFFF, 0xFFFF03FF, 0xFFFF, 0xFFFF, wFull, wFull, wFull]
  | 0x22 => List.replicate 6 wFull ++ [0x0FFF00FF, 0x3FFFF, wFull, wFull, wFull]
  | 0x23 => [wFull, wFull, 1, 0xFFFF]
  | 0x28 => List.replicate 6 wFull ++ [0x0FFFFFFF, 0xFFFF00FF, wOff, wOff, wFull, wFull, wOff, 0x1FF]
  | 0x29 => [wFull, wFull, 0, 0, wFull, wFull, 0x0FFFFFFF, wFull, wOff, wOff, 0xFF]
  | 0x2A => [wOff, 0xFF]
  | 0x2B => [0x7F07FF]
  | 0x30 => [wFull, wFull, 0, 0, wFull, wFull, 0, wFull, 0x07FF000F, wFull]
  | 0x31 => [wFull, wFull, 0, 0, wFull, wFull, 0x0FFFFFFF, 0xFFFFFF, 0x000FFFFF]
  | 0x3F => [wFull]
  | _ => []

/-! ### Operands -/

/-- An operand of a stroke as the checks see it: its place, the spaces its opcode lists, how it is accessed,
and its extent: rows, stride in lines, bytes of a row, and rows of the accumulator. `strided` says that the stroke has a stride field for it,
`remote` that it lies on another part, which makes the checks of its place (R177, R352). -/
structure Opnd where
  loc : Loc
  allow : List Nat
  rd : Bool := true
  wr : Bool := false
  rows : Nat
  stride : Nat
  rowBytes : Nat
  accRows : Nat := 0
  strided : Bool := true
  remote : Bool := false

/-- The first byte after an operand. -/
def Opnd.stop (o : Opnd) : Nat :=
  if o.loc.space = 2 then o.loc.off + o.accRows * 256 else o.loc.off + (o.rows - 1) * o.stride * 64 + o.rowBytes

/-- A plain tensor operand. -/
def tensor (l : Loc) (allow : List Nat) (wr : Bool) (fmt rows cols stride : Nat) : Opnd :=
  { loc := l, allow := allow, rd := !wr, wr := wr, rows := rows, stride := stride,
    rowBytes := runBytes (fmtWidth fmt) cols, accRows := (cols + 63) / 64 * rows }

/-- A matrix operand of panels of depth `P` and `bytes` bytes: `v` vectors, a reduction of `k`. -/
def panels (l : Loc) (v k stride P bytes : Nat) : Opnd :=
  { loc := l, allow := [1], rows := (v + 63) / 64 * ((k + P - 1) / P), stride := stride, rowBytes := bytes }

/-- P of A and of B of a stroke with a pair of matrix operands. -/
def depthA (w : List Nat) : Nat := pairDepth (bits (wd w 7) 7 0) (bits (wd w 7) 15 8)
/-- P of B. -/
def depthB (w : List Nat) : Nat := pairDepth (bits (wd w 7) 15 8) (bits (wd w 7) 7 0)

/-- Rows of lines; in the accumulator four lines to a row of a block (R149). -/
def lineRows (l : Loc) (allow : List Nat) (wr : Bool) (rows rowLines stride : Nat) : Opnd :=
  { loc := l, allow := allow, rd := !wr, wr := wr, rows := rows, stride := stride, rowBytes := rowLines * 64, accRows := (rowLines + 3) / 4 * rows }

/-- The descriptors of word 7. -/
def fmtA (w : List Nat) : Nat := bits (wd w 7) 7 0
/-- FMT_B. -/
def fmtB (w : List Nat) : Nat := bits (wd w 7) 15 8
/-- FMT_D. -/
def fmtD (w : List Nat) : Nat := bits (wd w 7) 23 16
/-- ROUND. -/
def roundOf (w : List Nat) : Nat := bits (wd w 7) 26 24
/-- SAT. -/
def satOf (w : List Nat) : Bool := (wd w 7).testBit 27
/-- The low half of a word. -/
def lo16 (w : List Nat) (i : Nat) : Nat := wd w i % 65536
/-- The high half of a word. -/
def hi16 (w : List Nat) (i : Nat) : Nat := wd w i / 65536
/-- HEAD_DIM's code as elements. -/
def headDim (c : Nat) : Nat := 64 * 2 ^ c

/-- C_IN rounded up to whole panels (R166). -/
def convDepth (w : List Nat) : Nat :=
  (lo16 w 9 + depthA w - 1) / depthA w * depthA w

/-- An operand that is read. -/
def opIn (l : Loc) (allow : List Nat) (rows stride rowBytes accRows : Nat) : Opnd :=
  { loc := l, allow := allow, rows := rows, stride := stride, rowBytes := rowBytes, accRows := accRows }

/-- An operand that is read, of so many bytes, for which the stroke has no stride field. -/
def opWhole (l : Loc) (allow : List Nat) (bytes : Nat) : Opnd := { opIn l allow 1 0 bytes 0 with strided := false }

/-- An operand that is written. -/
def opOut (l : Loc) (allow : List Nat) (rows stride rowBytes accRows : Nat) : Opnd :=
  { opIn l allow rows stride rowBytes accRows with rd := false, wr := true }

/-- The columns of a cell's pre-activations, and its reduction length (R263). -/
def cellShape (w : List Nat) : Nat × Nat :=
  let H := lo16 w 12
  let I := hi16 w 12
  match bits (wd w 14) 7 0 with
  | 0x01 => (4 * H, I + H)
  | 0x02 => (4 * H, I + H)
  | 0x10 => (2 * H, I)
  | 0x11 => (3 * H, I)
  | _ => (0, 0)

/-- NC, the stationary panels of a cell (R263). -/
def cellPanels (w : List Nat) : Nat :=
  ((cellShape w).1 + 63) / 64 * (((cellShape w).2 + depthB w - 1) / depthB w)

/-- The rows of the working share that a cell's pre-activations take (R274). -/
def cellRows (w : List Nat) : Nat :=
  bits (wd w 8) 7 0 * (if bits (wd w 14) 7 0 < 0x10 then 1 else hi16 w 8) * (((cellShape w).1 + 63) / 64)

/-- The operands of a stroke, destination last. -/
def operands (w : List Nat) : List Opnd :=
  let A := locAt w 1
  let B := locAt w 3
  let D := locAt w 5
  let rows := lo16 w 8
  let cols := hi16 w 8
  match opcodeOf w with
  | 0x08 => [lineRows A [1, 2, 3, 4] false (hi16 w 8) (lo16 w 8) (lo16 w 9), lineRows D [1, 2, 3, 4] true (hi16 w 8) (lo16 w 8) (hi16 w 9)]
  | 0x0A => [lineRows A [1, 3] false (hi16 w 8) (lo16 w 8) (lo16 w 9), lineRows D [1] true (hi16 w 8) (lo16 w 8) (hi16 w 9)]
  | 0x0B => [lineRows A [1, 3] false (wd w 10) (lo16 w 8) (lo16 w 9),
      opWhole B [1] (4 * hi16 w 8),
      lineRows D [1, 2] true (hi16 w 8) (lo16 w 8) (hi16 w 9)]
  | 0x0C => [lineRows A [1, 2] false (hi16 w 8) (lo16 w 8) (lo16 w 9),
      opWhole B [1] (4 * hi16 w 8),
      lineRows D [1, 2, 3] true (wd w 10) (lo16 w 8) (hi16 w 9)]
  | 0x10 => matOperands
  | 0x11 => matOperands
  | 0x12 => [opIn A [1] (hi16 w 13) (hi16 w 10) (lo16 w 13 * convDepth w * fmtWidth (descFmt (fmtA w)) / 8) 0,
      panels B (hi16 w 9) (bits (wd w 12) 3 0 * bits (wd w 12) 7 4 * convDepth w) (lo16 w 11) (depthB w) (statBytes (fmtA w) (fmtB w)),
      opOut D [2] 1 0 0 (lo16 w 10)]
  | 0x13 =>
    let n := 2 ^ lo16 w 8
    let bins := if flagOf w 1 then n / 2 + 1 else n
    [tensor A [1] false (descFmt (fmtA w)) (hi16 w 8) (if flagOf w 1 then n else 2 * n) (lo16 w 9),
     tensor D [1, 2] true (descFmt (fmtD w)) (hi16 w 8) (if flagOf w 3 then bins else 2 * bins) (hi16 w 9)]
  | 0x18 =>
    let mode := bits (wd w 0) 9 8
    let b := tensor B [1, 2] false (descFmt (fmtB w)) (if mode = 2 then 1 else rows) (if mode = 1 then 1 else cols) (hi16 w 9)
    let b := if mode = 3 ∨ bits (wd w 11) 7 0 = 7 ∨ bits (wd w 11) 7 0 = 8 then { b with allow := [0] } else b
    [tensor A [1, 2] false (descFmt (fmtA w)) rows cols (lo16 w 9), b, tensor D [1, 2] true (descFmt (fmtD w)) rows cols (lo16 w 10)]
  | 0x1A =>
    [tensor A [1, 2] false (descFmt (fmtA w)) rows cols (lo16 w 9), noB,
     tensor D [1, 2] true (descFmt (fmtD w)) (if flagOf w 0 then 1 else rows) (if flagOf w 0 then cols else 1) (lo16 w 10)]
  | 0x1E =>
    let a := tensor A [1, 2] false (descFmt (fmtA w)) rows cols (lo16 w 9)
    let a := if descGrouped (fmtA w) then panelled A [1] false (fmtA w) (lo16 w 9) else a
    let d := if descGrouped (fmtD w) then panelled D [1] true (fmtD w) (lo16 w 10) else tensor D [1, 2] true (descFmt (fmtD w)) rows cols (lo16 w 10)
    let b : Opnd :=
      if descFmt (fmtA w) = 16 then tensor B [1, 2] false 11 rows 1 (hi16 w 9)
      else if flagOf w 0 then
        opIn B [1] ((rows + 63) / 64 * ((cols + panelDepth (fmtD w) - 1) / panelDepth (fmtD w))) (hi16 w 9) (panelBytes (fmtD w) - dataPlane (fmtD w)) 0
      else noB
    [a, b, d]
  | 0x20 => attn (bits (wd w 8) 7 0)
  | 0x21 => attn (bits (wd w 8) 7 0 * lo16 w 10)
  | 0x22 =>
    let hd := headDim (bits (wd w 8) 17 16)
    [tensor A [1] false (descFmt (fmtA w)) (lo16 w 8) hd (lo16 w 11), tensor B [1] false (descFmt (fmtA w)) (lo16 w 8) hd (hi16 w 11),
     opWhole D [3] 64]
  | 0x23 => [opWhole A [3] 64]
  | 0x28 =>
    let n := bits (wd w 8) 7 0 * hi16 w 8
    [tensor A [1] false (descFmt (fmtA w)) n (hi16 w 12) (lo16 w 11), opWhole B [1] (64 + cellPanels w * statBytes (fmtA w) (fmtB w)),
     tensor D [1] true (descFmt (fmtD w)) n (lo16 w 12) (hi16 w 11)]
  | 0x29 =>
    let emit := wd w 11 % 8 = 0
    let n := if emit then cols else cols / 4
    let a := tensor A [2] false (descFmt (fmtA w)) rows cols 0
    [if emit then { a with rd := false, accRows := 0 } else a,
     tensor D [1, 2] true (descFmt (fmtD w)) rows n (if D.space = 2 then 0 else (runBytes (fmtWidth (descFmt (fmtD w))) n + 63) / 64)]
  | 0x30 => [lineRows A [1, 3] false (hi16 w 8) (lo16 w 8) (lo16 w 10),
      { lineRows D [1] true (hi16 w 8) (lo16 w 8) (hi16 w 10) with remote := true }]
  | 0x31 =>
    let n := bits (wd w 8) 23 0
    let members := ((List.range 16).filter fun i => (wd w 9).testBit i).length
    let m := match bits (wd w 9) 19 16 with
      | 1 => n / members
      | 2 => n * members
      | _ => n
    [opWhole A [1] (n * fmtWidth (descFmt (fmtA w)) / 8),
     { opWhole D [1] (m * fmtWidth (descFmt (fmtD w)) / 8) with rd := false, wr := true }]
  | 0x19 => vec
  | 0x1B => vec
  | 0x1C => vec
  | 0x1D => vec
  | _ => []
where
  noB : Opnd := opWhole (locAt w 3) [0] 0
  vec : List Opnd :=
    [tensor (locAt w 1) [1, 2] false (descFmt (fmtA w)) (lo16 w 8) (hi16 w 8) (lo16 w 9), noB,
     tensor (locAt w 5) [1, 2] true (descFmt (fmtD w)) (lo16 w 8) (hi16 w 8) (lo16 w 10)]
  panelled (l : Loc) (allow : List Nat) (wr : Bool) (d stride : Nat) : Opnd :=
    { opIn l allow ((lo16 w 8 + 63) / 64 * ((hi16 w 8 + panelDepth d - 1) / panelDepth d)) stride (panelBytes d) 0 with rd := !wr, wr := wr }
  matOperands : List Opnd :=
    let D := locAt w 5
    [panels (locAt w 1) (lo16 w 8) (lo16 w 9) (hi16 w 10) (depthA w) (matPanelBytes (fmtA w) (depthA w)),
     panels (locAt w 3) (hi16 w 8) (lo16 w 9) (lo16 w 11) (depthB w) (statBytes (fmtA w) (fmtB w)),
     { tensor D [1, 2] true (descFmt (fmtD w)) (lo16 w 8) (hi16 w 8) (hi16 w 11) with accRows := hi16 w 9 }]
  attn (n : Nat) : List Opnd :=
    let hd := headDim (bits (wd w 8) 9 8)
    let line := fun (f : Nat) => (hd * fmtWidth f + 511) / 512
    [tensor (locAt w 1) [1] false (descFmt (fmtA w)) n hd (line (descFmt (fmtA w))), opWhole (locAt w 3) [3] 64,
     { tensor (locAt w 5) [1, 2] true (descFmt (fmtD w)) n hd (if (locAt w 5).space = 2 then 0 else line (descFmt (fmtD w))) with
       accRows := (hd / 64 + 1) * n }]

/-- The tables of a stroke in the context's scratchpad share: offset and bytes. -/
def tables (w : List Nat) : List (Nat × Nat) :=
  let cols := hi16 w 8
  match opcodeOf w with
  | 0x10 => epi
  | 0x11 => epi
  | 0x19 => [(bits (wd w 11) 20 0, if flagOf w 0 then 384 else 192)]
  | 0x1B => (if flagOf w 1 then [(wd w 12, 4 * cols)] else []) ++ (if flagOf w 2 then [(wd w 13, 4 * cols)] else [])
  | 0x1C => if flagOf w 0 then [(wd w 12, lo16 w 8 * ((cols + 511) / 512) * 64)] else []
  | 0x28 => [(wd w 9, 2 * bits (wd w 8) 7 0), (wd w 10, (2 * bits (wd w 8) 7 0 * hi16 w 8 + 7) / 8), (wd w 13, 384)]
  | 0x29 => [(wd w 9, 2 * lo16 w 8), (wd w 10, (2 * lo16 w 8 + 7) / 8)]
  | 0x2A => [(wd w 1, 2 * wd w 2)]
  | _ => []
where
  epi : List (Nat × Nat) :=
    (if (wd w 12).testBit 0 then [(wd w 13, 4 * hi16 w 8)] else []) ++ (if (wd w 12).testBit 1 then [(wd w 14, 4 * hi16 w 8)] else []) ++
    (if (wd w 12).testBit 2 then [(wd w 15, if (wd w 12).testBit 3 then 384 else 192)] else [])

/-! ### Field values (check 3) -/

/-- A plain descriptor: legal, ungrouped, not S40. -/
def plainDesc (d : Nat) : Bool := descOk d && !descGrouped d && descFmt d != 16

/-- A finite FP32. -/
def finiteFp32 (c : Nat) : Bool := bits c 30 23 != 255

/-- The EWISE operations of R170. -/
def ewiseOps : List Nat := [1, 2, 3, 4, 5, 6, 7, 8, 9, 0x0A, 0x20, 0x21, 0x22, 0x23, 0x24, 0x25, 0x26, 0x27, 0x28, 0x29]

/-- Whether a format feeds an integer operation. -/
def intLike (f : Nat) : Bool := isIntFmt f || f == 17

/-- The stride rule of R149 for an operand. -/
def strideOk (o : Opnd) : Bool :=
  match o.loc.space with
  | 0 => true
  | 2 => o.stride == 0
  | _ => !o.strided || decide (o.rowBytes ≤ o.stride * 64)

/-- No grouped descriptor stands for an operand in the accumulator (R149). -/
def accUngrouped (w : List Nat) : Bool :=
  opcodeOf w == 0x09 || [(1, fmtA w), (3, fmtB w), (5, fmtD w)].all fun e => (locAt w e.1).space != 2 || !descGrouped e.2

/-- The epilogue is in use. -/
def hasEpilogue (w : List Nat) : Bool := wd w 12 % 8 != 0

/-- The field values of an opcode. `scanCells` are the cells that may scan, `cells` the cells that exist. -/
def fieldsOk (member : Nat) (cells scanCells gateSets : List Nat) (w : List Nat) : Bool :=
  let op := opcodeOf w
  let d := locAt w 5
  let round := decide (roundOf w ≤ 4)
  let strides := (operands w).all strideOk
  let dims := lo16 w 8 != 0 && hi16 w 8 != 0
  (signalEn w || signalToken w == 0) && (!preemptOk w || mayPreempt w) && (!satCheck w || maySat op) && accUngrouped w &&
  (match op with
   | 0x02 => true
   | 0x03 => bits (wd w 0) 9 8 != 3 && (bits (wd w 0) 9 8 == 0 || (wd w 2 == 0 && wd w 3 == 0))
   | 0x08 => dims && strides
   | 0x0A => dims && strides
   | 0x0B => dims && strides && wd w 10 != 0 && decide (wd w 10 < 2 ^ 31)
   | 0x0C => dims && strides && wd w 10 != 0 && decide (wd w 10 < 2 ^ 31)
   | 0x10 => matOk
   | 0x11 => matOk
   | 0x12 => descOk (fmtA w) && descOk (fmtB w) && !descGrouped (fmtA w) && !descGrouped (fmtB w) && round && dims && lo16 w 9 != 0 &&
      hi16 w 9 != 0 && decide (lo16 w 8 * hi16 w 8 * ((hi16 w 9 + 63) / 64) ≤ lo16 w 10) && bits (wd w 12) 3 0 != 0 && bits (wd w 12) 7 4 != 0 &&
      lo16 w 13 != 0 && hi16 w 13 != 0 && accFmt (fmtD w) && (operands w).head?.all strideOk
   | 0x13 => [1, 2, 3, 17].contains (fmtA w) && (fmtA w != 17 || flagOf w 1) && (fmtD w == 1 || fmtD w == 3) && fmtB w == 0 && round &&
      decide (6 ≤ lo16 w 8) && decide (lo16 w 8 ≤ 12) && hi16 w 8 != 0 && strides && (d.space != 2 || hi16 w 9 == 0)
   | 0x18 =>
      let f := bits (wd w 11) 7 0
      let mode := bits (wd w 0) 9 8
      let noB := mode == 3 || f == 7 || f == 8
      plainDesc (fmtA w) && plainDesc (fmtD w) && (if noB then fmtB w == 0 else plainDesc (fmtB w)) && round && dims && strides &&
      ewiseOps.contains f && ((f != 7 && f != 8) || mode == 0) &&
      (decide (f < 0x20) || (intLike (descFmt (fmtA w)) && (noB || intLike (descFmt (fmtB w)))))
   | 0x19 => plainDesc (fmtA w) && plainDesc (fmtD w) && fmtB w == 0 && round && dims && strides
   | 0x1A => plainDesc (fmtA w) && plainDesc (fmtD w) && fmtB w == 0 && round && dims && strides && decide (1 ≤ wd w 11) && decide (wd w 11 ≤ 6)
   | 0x1B => plainDesc (fmtA w) && plainDesc (fmtD w) && fmtB w == 0 && round && dims && strides && finiteFp32 (wd w 11) && decide (wd w 11 ≤ 2 ^ 31)
   | 0x1C => plainDesc (fmtA w) && plainDesc (fmtD w) && fmtB w == 0 && round && dims && strides && finiteFp32 (wd w 11) && wd w 11 % 2 ^ 31 != 0
   | 0x1D => [1, 2, 3].contains (fmtA w) && plainDesc (fmtD w) && fmtB w == 0 && round && dims && strides && wd w 11 != 3 &&
      hi16 w 8 % (32 * 2 ^ (wd w 11 % 4)) == 0
   | 0x1E =>
      descOk (fmtA w) && descOk (fmtD w) && fmtB w == 0 && round && dims && strides &&
      (!flagOf w 0 || (descGrouped (fmtD w) && descFmt (fmtA w) != 16))
   | 0x20 => attnOk
   | 0x21 => attnOk && lo16 w 10 != 0 && decide (lo16 w 10 ≤ 4096)
   | 0x22 => plainDesc (fmtA w) && descOk (fmtD w) && round && lo16 w 8 != 0 && decide (lo16 w 8 ≤ 4096) && bits (wd w 8) 17 16 != 3 && strides
   | 0x28 =>
      plainDesc (fmtA w) && descOk (fmtB w) && plainDesc (fmtD w) && round && decide (1 ≤ bits (wd w 8) 7 0) && decide (bits (wd w 8) 7 0 ≤ 64) &&
      decide (1 ≤ hi16 w 8) && decide (hi16 w 8 ≤ 1024) && lo16 w 12 != 0 && lo16 w 12 % 64 == 0 && cells.contains (bits (wd w 14) 7 0) &&
      (!(wd w 14).testBit 8 || scanCells.contains (bits (wd w 14) 7 0)) && strides
   | 0x29 => fmtA w == 1 && plainDesc (fmtD w) && fmtB w == 0 && round && dims && gateSets.contains (wd w 11)
   | 0x2A => decide (1 ≤ wd w 2) && decide (wd w 2 ≤ 64)
   | 0x30 => dims && strides && bits (wd w 9) 3 0 != member
   | 0x31 => [1, 3, 9].contains (fmtA w) && plainDesc (fmtD w) && fmtB w == 0 && round && wd w 8 != 0 && wd w 8 % 64 == 0 &&
      bits (wd w 9) 19 16 ≤ 3 && lo16 w 9 != 0
   | 0x3F => isLast w
   | _ => true)
where
  accFmt (d : Nat) : Bool := match pairing (fmtA w) (fmtB w) with
    | some p => d == (if p.int then 9 else 1)
    | none => d == 1 || d == 9
  matOk : Bool :=
    let d := locAt w 5
    descOk (fmtA w) && descOk (fmtB w) && decide (roundOf w ≤ 4) && lo16 w 8 != 0 && hi16 w 8 != 0 && lo16 w 9 != 0 &&
    decide (lo16 w 8 * ((hi16 w 8 + 63) / 64) ≤ hi16 w 9) &&
    (if d.space = 2 then (if hasEpilogue w then fmtD w == 1 else accFmt (fmtD w)) && bits (wd w 10) 11 0 == 0 && hi16 w 11 == 0
     else plainDesc (fmtD w) && decide ((runBytes (fmtWidth (descFmt (fmtD w))) (hi16 w 8) + 63) / 64 ≤ hi16 w 11)) &&
    ((wd w 12).testBit 0 || wd w 13 == 0) && ((wd w 12).testBit 1 || wd w 14 == 0) && ((wd w 12).testBit 2 || wd w 15 == 0)
  attnOk : Bool :=
    descOk (fmtA w) && descOk (fmtB w) && plainDesc (fmtD w) && decide (roundOf w ≤ 4) && decide (1 ≤ bits (wd w 8) 7 0) &&
    decide (bits (wd w 8) 7 0 ≤ 64) && bits (wd w 8) 9 8 != 3 && finiteFp32 (wd w 11) && ((locAt w 5).space != 2 || fmtD w == 1)

/-- The operand pair (check 4). -/
def pairOk (w : List Nat) : Bool :=
  let op := opcodeOf w
  if op = 0x10 ∨ op = 0x11 ∨ op = 0x12 ∨ op = 0x20 ∨ op = 0x21 ∨ op = 0x28 then (pairing (fmtA w) (fmtB w)).isSome else true

/-- The peals that a stroke names, the DELIVER_PEAL of a PREFETCH included. -/
def pealsOf (w : List Nat) : List Nat := match opcodeOf w with
  | 0x01 => [wd w 1]
  | 0x02 => if flagOf w 0 then [bits (wd w 1) 7 0] else []
  | 0x09 => if bits (wd w 8) 7 0 = 0xFF then [] else [bits (wd w 8) 7 0]
  | 0x0A => [bits (wd w 10) 7 0]
  | _ => []

/-! ### The checks in order (R152) -/

/-- Checks 1 to 7, which need no submission: 0, or the code of the first that fails. `pealHas` says whether
peal k holds a core, when the issuing core is known. -/
def staticCheck (member : Nat) (cells scanCells gateSets : List Nat) (cores pealCount : Nat) (pealHas : Option (Nat → Bool)) (w : List Nat) : Nat :=
  let op := opcodeOf w
  let ops := operands w
  let masks := wordMasks op
  if !opcodes.contains op then 0x0120
  else if (wd w 0).testBit 31 ∨ bits (wd w 0) 15 8 &&& (255 ^^^ flagMask op) ≠ 0 ∨
      !((List.range 15).all fun i => wd w (i + 1) &&& (wFull ^^^ masks.getD i 0) == 0) ∨ !(ops.all fun o => o.loc.reservedOk) then 0x0121
  else if !fieldsOk member cells scanCells gateSets w then 0x0122
  else if !pairOk w then 0x0102
  else if !(ops.all fun o => o.allow.contains o.loc.space) then 0x0123
  else if !(ops.all fun o => o.loc.alignOk) ∨ !((tables w).all fun t => t.1 % 64 == 0) then 0x0124
  else if (pealsOf w).any (fun k => decide (pealCount ≤ k)) ∨ (op = 0x01 ∧ !(match pealHas with | some f => f (wd w 1) | none => true)) then 0x0126
  else if coreUse.any (fun k => decide (cores ≤ k)) ∨ ops.any (fun o => o.loc.space == 4 && decide (cores ≤ o.loc.obj)) then 0x0127
  else 0
where
  coreUse : List Nat := match opcodeOf w with
    | 0x02 => if flagOf w 0 then [] else [bits (wd w 1) 7 0]
    | 0x2B => [bits (wd w 1) 22 16]
    | _ => []

/-- The rank of a code among the checks of R152, in their order. A code that is none of theirs is that of check 3. -/
def checkRank : Nat → Nat
  | 0 => 12 | 0x0120 => 1 | 0x0121 => 2 | 0x0102 => 4 | 0x0123 => 5 | 0x0124 => 6 | 0x0126 => 7 | 0x0127 => 7 | 0x0125 => 8 | 0x0128 => 9
  | 0x0105 => 10 | 0x0101 => 11 | 0x0171 => 11 | _ => 3

/-- Of the codes of checks that were made apart, the one of the first check that fails; 0 where none does (R152). -/
def firstFailing (codes : List Nat) : Nat := codes.foldl (fun a b => if checkRank b < checkRank a then b else a) 0

/-- Whether two byte ranges meet: `place` gives where an operand lies, and nothing for one that lies apart from all others. -/
def meets (place : Opnd → Option (Nat × Nat)) (a d : Opnd) : Bool :=
  (place a).isSome && place a == place d && decide (a.loc.off < d.stop) && decide (d.loc.off < a.stop)

/-- The overlap rule (R151). -/
def overlapOk (place : Opnd → Option (Nat × Nat)) (w : List Nat) : Bool :=
  let ops := operands w
  let op := opcodeOf w
  match ops.filter (·.wr) with
  | [] => true
  | d :: _ =>
    let srcs := ops.filter (·.rd)
    let same := fun (a : Opnd) =>
      (op == 0x18 || op == 0x19 || op == 0x1E || op == 0x29) && a.loc == d.loc && (a.stride == d.stride || a.loc.space == 2) &&
      fmtWidth (descFmt (fmtA w)) == fmtWidth (descFmt (fmtD w))
    match srcs with
    | [] => true
    | a :: rest => (!meets place a d || same a) && !(rest.any fun o => meets place o d)

end Sys2Proof.Machine
end

