-- ==== Sys2Proof/Machine/Issue.lean ====
section
/-! DEFINITION. How a stroke issues and how it ends: the checks at the head of its queue (R152), tokens and units
(R106, R108), demand claims (R325), splits (R202), what stops a submission (R153, R154), and completion. -/

namespace Sys2Proof.Machine

/-! ### Where strokes may run -/

/-- Whether the core of a slot is powered (R109): in ACTIVE every ACTIVE slot; in ATTEND the slots of logical
cores 0 and 1 of the cascade partition. -/
def State.powered (s : State) (n : Nat) : Bool :=
  (s.slot n).state == 1 &&
  (s.mode == 5 || (s.mode == 4 && (s.slotOf s.cascadePart 0 == some n || s.slotOf s.cascadePart 1 == some n)))

/-- This part's member index in a constellation; none where it is in none. -/
def State.memberIndex (s : State) : Nat := if s.peer.members = 0 then 0xFF else s.peer.index

/-- The legal GATE_SET values (R276). -/
def gateSets : List Nat := (List.range 256).filter fun n => n % 8 < 3

/-- Checks 1 to 7 of R152, with the cells and gate sets of R263 and R276. -/
def State.checkStatic (s : State) (cores pealCount : Nat) (pealHas : Option (Nat → Bool)) (w : List Nat) : Nat :=
  staticCheck s.memberIndex [0x01, 0x02, 0x10, 0x11] [0x10, 0x11] gateSets cores pealCount pealHas w

/-! ### The checks that need the submission -/

/-- Whether a binding names an object that was there at dispatch and has been deleted since (R546). -/
def State.gone (s : State) (t : Site) (b : Nat) : Bool := (t.binds.any fun e => e.1 == b) && (s.bound t b).isNone

/-- Check 8: the bindings (R150). -/
def State.bindingsOk (s : State) (t : Site) : Bool :=
  (operands t.w).all fun o => o.loc.space != 3 ||
    (match t.pat.bindings.find? (fun b => b.1 == o.loc.obj), s.bound t o.loc.obj with
     | some b, some x => (!o.rd || b.2.1 % 2 == 1) && (!o.wr || decide (2 ≤ b.2.1)) && decide (o.stop ≤ x.size)
     | some _, none => s.gone t o.loc.obj
     | _, _ => false)

/-- The footprint of a stroke in rows of the working share (R201). -/
def footprint (w : List Nat) : Nat :=
  let op := opcodeOf w
  let accs := ((operands w).filter fun o => o.loc.space == 2).map fun o => o.loc.off / 256 + o.accRows
  let inner :=
    if (op = 0x10 ∨ op = 0x11) ∧ (locAt w 5).space ≠ 2 then bits (wd w 10) 11 0 + hi16 w 9
    else if op = 0x28 then cellRows w else 0
  accs.foldl max inner

/-- The parameter block of a STREAM_STEP (R264), and what its words give. -/
structure Block264 where
  vec : Nat
  segs : Nat
  qscale : Nat
  scaleOff : Nat
  biasOff : Nat
  legal : Bool

/-- Reads the header. -/
def State.block264 (s : State) (t : Site) : Block264 :=
  let l := locAt t.w 3
  let b := s.readLoc t l l.off 64
  let u := fun (o n : Nat) => ofLE (slice b o n)
  let cell := bits (wd t.w 14) 7 0
  { vec := u 0 1, segs := u 1 1, qscale := u 4 4, scaleOff := u 8 4, biasOff := u 12 4,
    legal := u 2 2 == 0 && (slice b 16 48).all (· == 0) && u 8 4 % 64 == 0 && u 12 4 % 64 == 0 && decide (u 1 1 ≤ 1) &&
      decide (u 0 1 ≤ if cell = 0x01 then 30 else 31) && (decide (0x10 ≤ cell) || (finiteFp32 (u 4 4) && u 4 4 % 2 ^ 31 != 0)) }

/-- The tables that the parameter block of a STREAM_STEP names: scales and biases of its columns, and the two gate tables, which have 32
segments where SEGS says so (R264, R266). -/
def State.stepTables (s : State) (t : Site) : List (Nat × Nat) :=
  if opcodeOf t.w ≠ 0x28 then []
  else
    let k := s.block264 t
    let at_ := (locAt t.w 3).off
    let column := fun (off : Nat) => if off = 0 then [] else [(at_ + off, 4 * (cellShape t.w).1)]
    column k.scaleOff ++ column k.biasOff ++ [(bits (wd t.w 13) 20 0, if k.segs = 1 then 768 else 384)]

/-- Whether extents lie in the context's scratchpad share. -/
def State.inShare (s : State) (t : Site) (l : List (Nat × Nat)) : Bool := l.all fun e => decide (e.1 + e.2 ≤ s.ctxCfg t.p t.c 0 4 * 64)

/-- Check 10: the share bounds (R101, R201). -/
def State.boundsOk (s : State) (t : Site) : Bool :=
  let lines := s.ctxCfg t.p t.c 0 4
  let rows := s.ctxCfg t.p t.c 0 6
  let op := opcodeOf t.w
  (operands t.w).all (fun o => o.remote || match o.loc.space with
    | 1 => decide (o.stop ≤ lines * 64)
    | 4 => decide (o.stop ≤ lines * 64)
    | 2 => decide (o.loc.off / 256 < rows)
    | _ => true) &&
  s.inShare t (tables t.w ++ s.stepTables t) &&
  (!((op == 0x10 || op == 0x11) && (locAt t.w 5).space != 2) || decide (bits (wd t.w 10) 11 0 < rows))

/-- Whether a stroke runs split: its footprint exceeds the working share (R105, R202). -/
def State.splits (s : State) (t : Site) : Bool := decide (s.ctxCfg t.p t.c 0 6 < footprint t.w)

/-- Check 11: ACC_SHORT in a real-time or urgent context, ACC_STAGING where the staged rows do not fit, or 0. -/
def State.footprintCode (s : State) (t : Site) : Nat :=
  let W := s.ctxCfg t.p t.c 0 6
  if !s.splits t then 0
  else if s.ctxClass t.p t.c ≠ 1 then 0x0101
  else if W < 64 ∨ s.ctxCfg t.p t.c 0 4 ≤ t.pat.spadLines + 4 * (footprint t.w - 1 - (W - 64)) + 3 then 0x0171
  else 0

/-- Where an operand lies, for the overlap rule (R151): a scratchpad, or the object that its binding names. What lies on another part is apart
from all else, and so is the D of a MCAST whose peal does not hold the issuing core. -/
def State.placeOf (s : State) (t : Site) (o : Opnd) : Option (Nat × Nat) :=
  if o.remote then none
  else match o.loc.space with
  | 1 => if opcodeOf t.w = 0x0A ∧ o.wr ∧ !(t.pat.peal (bits (wd t.w 10) 7 0)).contains t.core then none else some (1, t.core)
  | 2 => some (2, 0)
  | 3 => (s.bound t o.loc.obj).map fun x => (3, x.key)
  | 4 => some (1, o.loc.obj)
  | _ => none

/-- The checks of R152 in their order; `own` is the code of a check of the stroke's own. A peal that names a core at or above the partition's
size is refused (R339). -/
def State.headCode (s : State) (t : Site) (own : Nat) : Nat :=
  let st := s.checkStatic (s.cores t.p) t.pat.pealCount (some fun k => (t.pat.peal k).contains t.core) t.w
  let peals := if (pealsOf t.w).any fun k => (t.pat.peal k).any fun m => decide (s.cores t.p ≤ m) then 0x0126 else 0
  let code := if st ≠ 0 then firstFailing [st, own, peals] else firstFailing
    [own, peals, if !s.bindingsOk t then 0x0125 else if !overlapOk (s.placeOf t) t.w then 0x0128 else if !s.boundsOk t then 0x0105 else 0]
  if code ≠ 0 then code else s.footprintCode t

/-- Whether a peal names an unbacked logical core (R339). -/
def State.pealLost (s : State) (t : Site) (k : Nat) : Bool := (t.pat.peal k).any fun m => (s.slotOf t.p m).isNone

/-! ### Stopping a submission (R153, R154) -/

/-- A stroke that fails a check at the head (R153). -/
def State.refuseStroke (t : Site) (code : Nat) (s : State) : State :=
  let s := (s.stopFlight t.p t.c code t.core t.idx).countCtx t.p t.c 6
  if code = 0x0101 then s.logViolation code t.p 0 [byteOf t.c, byteOf t.core] else s

/-! ### Tokens (R108) -/

/-- The value of a token counter. -/
def Slot.token (x : Slot) (c k : Nat) : Nat := x.tokens.getD (8 * c + k) 0

/-- Adds 1 to a counter; at 255 the submission of the context ends with TOKEN_OVERFLOW, which names the stroke of the submission that was to add
it, its core and index, or, where none of its own strokes was, the core of the counter (R153, R371). -/
def State.addToken (p slot c k : Nat) (by_ : Option (Nat × Nat)) (s : State) : State :=
  if (s.slot slot).token c k < 255 then s.modSlot slot fun x => { x with tokens := bump x.tokens (8 * c + k) }
  else
    let at_ := by_.getD ((s.slot slot).logical, 0xFFFFFFFF)
    s.stopFlight p c 0x0103 at_.1 at_.2

/-- Whether every counter a stroke waits for is at least 1. -/
def tokensReady (x : Slot) (c mask : Nat) : Bool := (List.range 8).all fun k => !mask.testBit k || decide (1 ≤ x.token c k)

/-- Subtracts 1 from every counter a stroke waits for. -/
def takeTokens (x : Slot) (c mask : Nat) : Slot :=
  { x with tokens := x.tokens.zipIdx.map fun e => if e.2 / 8 = c ∧ mask.testBit (e.2 % 8) then e.1 - 1 else e.1 }

/-! ### Units (R87) -/

/-- The units that are held on a logical core. -/
def State.unitsHeld (s : State) (p core : Nat) : List Nat :=
  ((s.part p).running.filter fun r => r.core == core && !r.preempted).flatMap (·.units)

/-! ### Stalls and demand claims (R325, R326) -/

/-- Counts a stall of a cause on a logical core, with its time, which the model leaves free, and traces it (R326, R579). -/
def State.stall (p cause core : Nat) (s : State) : State :=
  let t := s.free
  (t.2.modPart p fun x => { x with stalls := x.stalls.modify cause fun e => (e.1 + 1, e.2 + t.1) }).capture p 6
    ([byteOf cause, byteOf core, 0, 0] ++ le 4 (t.1 % 2 ^ 32))

/-- A stall on some core, which the event does not name. -/
def State.stallSome (p cause : Nat) (s : State) : State :=
  let t := s.free
  t.2.stall p cause (t.1 % max 1 (s.cores p))

/-- The wait of the stroke at the head is counted under a cause, once. -/
def State.stallHead (t : Site) (cause : Nat) (s : State) : State :=
  let counted : Bool := match (s.ctx t.p t.c).flight with
    | some f => (f.run? t.core).any fun r => r.stalls.contains cause
    | none => false
  if counted then s else (s.stall t.p cause t.core).modRun t.p t.c t.core fun r => { r with stalls := cause :: r.stalls }

/-- What an access to a bound object meets (R325). -/
inductive Access where
  | ready
  | wait (s : State)
  | fail (code : Nat)

/-- An access of a stroke to an object: a best-effort access makes a claim where there is none. -/
def State.demand (t : Site) (o : Obj) (s : State) : Access :=
  if o.state = 4 then .fail 0x0207
  else if o.claimed t.p 1 then .ready
  else if (o.claim? t.p).isSome then .wait (s.stallHead t 1)
  else
    let code := s.claimCode t.p o 1
    if code = 0 then .wait ((s.takeClaim t.p 1 o).stallHead t 0) else .fail code

/-! ### Late blocks of a prefetcher (R163, R326) -/

/-- The 56 bytes of the descriptor of a PREFETCH (R163). -/
def descBytes (w : List Nat) : Bytes := (List.range 14).flatMap fun i => le 4 (wd w (i + 2))
/-- A little-endian field of a descriptor. -/
def dU (b : Bytes) (off n : Nat) : Nat := ofLE (slice b off n)
/-- SOURCE. -/
def dSource (b : Bytes) : Loc := locAt [0, dU b 0 4, dU b 4 4] 1
/-- DEST. -/
def dDest (b : Bytes) : Nat := bits (dU b 8 4) 20 0
/-- The cores that receive the blocks of a descriptor. -/
def dCores (b : Bytes) (pat : Loaded) (core : Nat) : List Nat := if dU b 24 1 = 0xFF then [core] else pat.peal (dU b 24 1)

/-- Whether the next block of a prefetcher has been requested: it waits for no credit. -/
def State.requested (slot : Nat) (f : Prefetcher) (pat : Loaded) (s : State) : Bool :=
  let b := f.desc
  let n := ((dCores b pat f.core).filterMap fun c => s.slotOf f.part c).length
  !(decide (dU b 14 2 ≤ f.block) && (dU b 25 1).testBit 7 && decide ((s.slot slot).token f.ctx (bits (dU b 25 1) 6 4) < n))

/-- Whether a stroke waits for the DELIVER_TOKEN of a block that a prefetcher has requested. -/
def State.prefetchLate (t : Site) (s : State) : Bool := (List.range 72).any fun n => (s.slot n).prefetchers.any fun e => match e with
  | some f =>
    let k := bits (dU f.desc 25 1) 2 0
    f.part == t.p && f.ctx == t.c && (dU f.desc 25 1).testBit 3 && (waitTokens t.w).testBit k && (s.slot t.slot).token t.c k == 0 &&
    (dCores f.desc t.pat f.core).contains t.core && s.requested n f t.pat
  | none => false

/-- A stroke stays at the head: a late block is counted. -/
def State.late (t : Site) (s : State) : State := if s.prefetchLate t then s.stallHead t 2 else s

/-- The bindings a stroke reaches. -/
def State.reachedBinds (_s : State) (t : Site) (more : List Nat) : List Nat :=
  (((operands t.w).filter fun o => o.loc.space == 3).map (·.loc.obj)) ++ more

/-- The objects a stroke reaches through its bindings. -/
def State.reached (s : State) (t : Site) (more : List Nat) : List Obj := (s.reachedBinds t more).filterMap fun b => s.bound t b

/-- The first of a stroke's objects that is not ready. -/
def State.accessAll (t : Site) : List Obj → State → Access
  | [], _ => .ready
  | o :: l, s => match s.demand t o with
    | .ready => s.accessAll t l
    | x => x

/-! ### Issue -/

/-- What a stroke that issues now may read: a line that an uncompleted stroke writes is old or new (R155). -/
def State.glimpse (p : Nat) (s : State) : State := s.tearAll ((s.part p).running.flatMap (·.writes))

/-- What a stroke comes to: what it writes, signals and flags, or the fault that fails it. -/
structure Effect where
  writes : List Write := []
  flags : Flags := {}
  marks : Nat := 0
  signals : List (Nat × Nat × Nat) := []
  elements : Nat := 0
  fault : Nat := 0
  untilNs : Option Nat := none
  sync : Option (Nat × Nat) := none
  peer : Option Nat := none
  units : List Nat := []
  tiles : Nat := 1
  resets : List (Nat × Nat × Nat) := []

/-- The bytes of bound objects that a stroke reads through its operands: binding, offset and length of each row. -/
def opReads (t : Site) : List (Nat × Nat × Nat) :=
  ((operands t.w).filter fun o => o.rd && o.loc.space == 3).flatMap fun o =>
    (List.range o.rows).map fun r => (o.loc.obj, o.loc.off + r * o.stride * 64, o.rowBytes)

/-- What an opcode does. `units` it holds; `own` is its own check at the head (R152); `ready` says that nothing of
its own keeps it at the head; `binds` are bindings it reaches that no operand names; `reads` the bytes of objects that it reads through the
cache; `run` is its effect. -/
structure Meaning where
  units : List Nat → List Nat := fun _ => []
  own : Site → State → Nat := fun _ _ => 0
  ready : Site → State → Bool := fun _ _ => true
  binds : Site → List Nat := fun _ => []
  reads : Site → State → List (Nat × Nat × Nat) := fun t _ => opReads t
  holds : Bool := false
  run : Site → State → Effect × State

/-- A row of the accumulator of a context that is staged (R202): at or above W − 64. -/
def State.staged (s : State) (p c : Nat) (row : Nat) : Bool := decide (s.ctxCfg p c 0 6 ≤ row + 64)

/-- A write of a running stroke to a row that is staged from now on goes to the staging area (R202). -/
def State.restage (t : Site) (s : State) (w : Write) : Write :=
  let row := w.addr / 256 - s.ctxCfg t.p t.c 0 5
  if w.space = 2 ∧ w.place = t.slot ∧ s.ctxCfg t.p t.c 0 5 ≤ w.addr / 256 ∧ s.staged t.p t.c row then
    let pl := s.accPlace { t with split := true } row
    { w with space := pl.1, addr := pl.2 + w.addr % 256 }
  else w

/-- Copies the window to the staging area at the first split of a submission on a core; the strokes of the context that run already complete
their staged rows there (R202). -/
def State.firstSplit (t : Site) (s : State) : State :=
  let W := s.ctxCfg t.p t.c 0 6
  let b := memRead (s.slot t.slot).acc ((s.ctxCfg t.p t.c 0 5 + (W - 64)) * 256) (64 * 256)
  let s := s.modSlot t.slot fun x => { x with spad := memWrite x.spad ((s.ctxCfg t.p t.c 0 3 + t.pat.spadLines) * 64) b }
  let s := s.modPart t.p fun x => { x with running := x.running.map fun r =>
    if r.ctx = t.c ∧ r.core = t.core then { r with writes := r.writes.map (s.restage t) } else r }
  s.modRun t.p t.c t.core fun r => { r with split := true }

/-- The rows and column blocks of a matrix stroke's accumulators, and their first row in the working share. -/
def macShape (w : List Nat) : Nat × Nat × Nat :=
  let at_ := if (locAt w 5).space = 2 then (locAt w 5).off / 256 else bits (wd w 10) 11 0
  match opcodeOf w with
  | 0x10 => (lo16 w 8, (hi16 w 8 + 63) / 64, at_)
  | 0x11 => (lo16 w 8, (hi16 w 8 + 63) / 64, at_)
  | 0x12 => (lo16 w 8 * hi16 w 8, (hi16 w 9 + 63) / 64, at_)
  | _ => (0, 0, 0)

/-- Whether a column block of a split matrix stroke runs in the window: a row of it is staged (R202). -/
def State.windowed (s : State) (t : Site) (b : Nat) : Bool :=
  let m := macShape t.w
  s.splits t && decide (0 < m.1) && s.staged t.p t.c (m.2.2 + (b + 1) * m.1 - 1)

/-- What a split matrix stroke leaves in the window, through which a block with staged rows passes 64 rows at a time (R202): free bytes. -/
def State.useWindow (t : Site) (s : State) : State :=
  if (List.range (macShape t.w).2.1).any (s.windowed t) then
    let b := s.freeBytes (64 * 256)
    b.2.modSlot t.slot fun x => { x with acc := memWrite x.acc ((s.ctxCfg t.p t.c 0 5 + (s.ctxCfg t.p t.c 0 6 - 64)) * 256) b.1 }
  else s

/-- A stroke that splits: ACC_SPLIT, its counts and, the first time, the copy of the window (R202, R205). -/
def State.beginSplit (t : Site) (s : State) : Site × State :=
  let s := (s.modFlight t.p t.c fun f => { f with marks := f.marks ||| 4 })
  let s := (if t.split then s else s.firstSplit t).useWindow t
  ({ t with split := true }, (s.countSlot t.slot 4).countPart t.p 6 1)

/-- The gate entry of a stroke: its layer and re-run entry, where it is this core's gate (R221). -/
def Loaded.gateOf (l : Loaded) (core idx : Nat) : Option (Nat × Nat) :=
  let e := (l.layer idx).2
  if e = 0 ∨ l.u32 84 = 0 then none
  else if l.u32 (l.u32 84 + l.u32 (l.u32 84 + 64 + 32 * (e - 1) + 16) + 16 * core) = idx then some ((l.layer idx).1, e) else none

/-- The entries of each core's stroke queue that a context holds (R106, R364). -/
def State.queueSize (s : State) (p c : Nat) : Nat := if s.ctxClass p c = 3 then 4 else s.ctxCfg p c 0 7

/-- The dispatcher fills a context's entries on a core from what is still to issue (R364). -/
def State.fillQueue (p c core : Nat) (s : State) : State := s.modRun p c core fun r => { r with queued := min (s.queueSize p c) r.todo.length }

/-- A stroke issues: it takes its tokens and its units, leaves the queue and is running, with what it will write
when it completes; a fault that it meets fails it at once (R154). -/
def State.launch (m : Meaning) (t : Site) (s : State) : State :=
  let w := t.w
  let split := s.splits t
  let first := b01 (split && !t.split)
  let ts := if split then s.beginSplit t else (t, s)
  let s := ts.2.modSlot t.slot fun x => takeTokens x t.c (waitTokens w)
  let s := (s.modRun t.p t.c t.core fun r =>
    { r with todo := r.todo.drop 1, lastIssued := r.lastIssued + b01 (isLast w),
             gate := if s.ctxClass t.p t.c = 1 then (t.pat.gateOf t.core t.idx).or r.gate else r.gate, stalls := [] }).fillQueue t.p t.c t.core
  let s := (s.countSlot t.slot 0).countPart t.p 0 1
  let seen := s.glimpse t.p
  match (m.run ts.1 seen).1, (m.run ts.1 { s with freeCount := seen.freeCount }).2 with
  | e, s =>
    if e.fault ≠ 0 then (s.tearAll e.writes).stopFlight t.p t.c e.fault t.core t.idx
    else
      let s := (m.reads ts.1 seen).foldl (fun s r => match s.bound t r.1 with
        | some o => s.cacheSpan t.p o r.2.1 r.2.2 false false
        | none => s) s
      let run : Running :=
        { ctx := t.c, core := t.core, stroke := t.idx, word0 := wd w 0, units := m.units w ++ e.units,
          holds := m.holds && (e.untilNs.isSome || e.sync.isSome), writes := e.writes.map fun x => { x with tile := x.tile + first },
          signals := e.signals, flags := e.flags, marks := e.marks, untilNs := e.untilNs, sync := e.sync,
          elements := e.elements, peer := e.peer, tiles := e.tiles + first, resets := e.resets }
      s.modPart t.p fun x => { x with running := x.running ++ [run] }

/-- The stroke at the head of a context's queue on a core, where its context runs and nothing
of the context holds it back: a SYNC or WAIT_TIME that waits, a gate's decision, or a step that has not started. -/
def State.headOf (s : State) (p c core : Nat) : Option Site :=
  match (s.ctx p c).flight, (s.ctx p c).pattern, s.slotOf p core with
  | some f, some pat, some slot =>
    match f.run? core with
    | none => none
    | some r =>
      match r.todo with
      | [] => none
      | idx :: _ =>
        if f.started ∧ f.awaiting = [] ∧ f.stop.isNone ∧ r.gate.isNone ∧ r.lastIssued ≤ f.step ∧ s.powered slot ∧ 0 < r.queued ∧
            ((s.part p).state = 2 ∨ (s.part p).state = 5) ∧ !((s.part p).running.any fun x => x.ctx == c && x.core == core && x.holds) then
          some { p := p, c := c, core := core, slot := slot, idx := idx, w := pat.stroke idx, pat := pat, binds := f.binds, split := r.split }
        else none
  | _, _, _ => none

/-- The stroke at the head, where its opcode is `op`. -/
def State.headSite (s : State) (op p c core : Nat) : Option Site := (s.headOf p c core).filter fun t => opcodeOf t.w == op

/-- The units of an opcode (R86, R87): 0 transfer engine, 1 MAC array, 2 element-wise pipeline, 3 page walker, 4 PWL unit,
5 softmax unit, 6 rotation unit. STREAM_MOVE waits without a unit and takes the transfer engine for its copy (R176). -/
def unitsOf (w : List Nat) : List Nat :=
  match opcodeOf w with
  | 0x08 => [0] | 0x09 => [0] | 0x0A => [0] | 0x0B => [0] | 0x0C => [0]
  | 0x10 => matU | 0x11 => matU | 0x12 => [1] | 0x13 => [1]
  | 0x18 => [2] | 0x19 => [4] | 0x1A => [2] | 0x1B => [2, 5] | 0x1C => [5] | 0x1D => [6] | 0x1E => [2]
  | 0x20 => [1, 2, 3, 4, 5, 6] | 0x21 => [1, 2, 3, 4, 5, 6] | 0x22 => [0, 3]
  | 0x28 => [1, 2, 4, 5, 6] | 0x29 => [2] | 0x2A => [2] | 0x30 => [0] | 0x31 => [0, 2, 4, 5, 6]
  | _ => []
where
  /-- A matrix stroke with its fused epilogue, which a D outside the accumulator always has. DESIGN CHOICE (assumption 63): with EPI_PWL it
  holds the PWL unit as well, which R86's row of that unit does not list. -/
  matU : List Nat := 1 :: (if hasEpilogue w ∨ (locAt w 5).space ≠ 2 then [2] else []) ++ (if (wd w 12).testBit 2 then [4] else [])

/-- Whether the head of a context on a core can issue (R106): it passes its checks, its tokens and units are there, and so are its objects. -/
def State.canIssue (s : State) (p c core : Nat) : Bool := match s.headOf p c core with
  | none => false
  | some t =>
    s.headCode t 0 == 0 && tokensReady (s.slot t.slot) c (waitTokens t.w) && !(unitsOf t.w).any (s.unitsHeld p core).contains &&
    (opcodeOf t.w != 0x09 || ((s.slot t.slot).prefetchers.getD (bits (wd t.w 1) 3 0) none).isNone) &&
    (match s.accessAll t (s.reached t []) with
     | .ready => true
     | _ => false)

/-- Whether a context that wins over context c has a head on a core that can issue (R365). -/
def State.passedOver (s : State) (p c core : Nat) : Bool := (List.range 16).any fun k => s.outranks p k c && s.canIssue p k core

/-- A stroke of an opcode is taken at the head of a context's queue on a core (R106): refused under R152, kept at
the head by its tokens, its units, an object or a head of lesser rank that can issue (R365), or issued. -/
def State.issue (op : Nat) (m : Meaning) (p c core : Nat) (s : State) : State :=
  match s.headSite op p c core with
  | none => s
  | some t =>
    let code := s.headCode t (m.own t s)
    if code ≠ 0 then s.refuseStroke t code
    else if !tokensReady (s.slot t.slot) c (waitTokens t.w) ∨ (m.units t.w).any (s.unitsHeld p core).contains ∨ !m.ready t s then s.late t
    else if s.passedOver p c core then s
    else if (s.reachedBinds t (m.binds t)).any (s.gone t) then s.stopFlight p c 0x0201 core t.idx
    else match s.accessAll t (s.reached t (m.binds t)) with
      | .wait s => s
      | .fail code => s.stopFlight p c code core t.idx
      | .ready => s.launch m t

/-! ### Saturation (R213 to R219) -/

/-- The counts of a layer on a core. -/
def CoreRun.layer (r : CoreRun) (l : Nat) : Nat × Nat := match r.layers.find? fun e => e.1 == l with
  | some e => e.2
  | none => (0, 0)

/-- Adds a stroke's elements to the counts of its layer (R213). -/
def CoreRun.addLayer (l el sat : Nat) (r : CoreRun) : CoreRun :=
  let v := r.layer l
  { r with layers := (l, v.1 + el, v.2 + sat) :: r.layers.filter fun e => e.1 != l }

/-- The re-run entry that the layer map names for a layer's strokes in a core's directory of a bucket (R213, R214): its number from 1. -/
def Loaded.entryOn (l : Loaded) (bucket core layer : Nat) : Option Nat :=
  let d := l.dir bucket core
  if l.u32 84 = 0 then none
  else ((List.range d.2).map (d.1 + ·)).findSome? fun i => if (l.layer i).1 = layer ∧ (l.layer i).2 ≠ 0 then some (l.layer i).2 else none

/-- A U32 of a re-run entry. -/
def Loaded.rerunU32 (p : Loaded) (e off : Nat) : Nat := p.u32 (p.u32 84 + 64 + 32 * (e - 1) + off)
/-- GATE_STROKE, WIDE_FIRST and WIDE_COUNT of an entry on a core. -/
def Loaded.rerunCore (p : Loaded) (e core : Nat) : Nat × Nat × Nat :=
  let a := p.u32 84 + p.rerunU32 e 16 + 16 * core
  (p.u32 a, p.u32 (a + 4), p.u32 (a + 8))

/-- TRIP_PPM and WATCH_PPM under a re-run entry: the entry's where it gives them, else those of 0x2060 (R214, R222). -/
def State.thresholds (s : State) (pat : Loaded) (e : Option Nat) : Nat × Nat :=
  let own := fun (off : Nat) => match e with
    | some e => pat.rerunU32 e off
    | none => 0
  (if own 4 = 0 then s.cfg 0x2060 1 else own 4, if own 8 = 0 then s.cfg 0x2060 2 else own 8)

/-- The layers of a pattern that have SAT_CHECK strokes. -/
def Loaded.satLayers (l : Loaded) : List Nat :=
  (((List.range l.strokeCount).filter fun i => satCheck (l.stroke i)).map fun i => (l.layer i).1).eraseDups

/-- The records of 0x2061 as a load or a partition reset leaves them (R215, R220), in LAYER order. -/
def Loaded.freshStats (l : Loaded) : List LayerStat :=
  l.satLayers.foldl (fun a n => (a.filter fun e => decide (e.layer < n)) ++ ({ layer := n } : LayerStat) :: a.filter fun e => decide (n < e.layer)) []

/-- Changes the record of a layer, which stands in LAYER order (0x2061). -/
def State.modLayer (p c layer : Nat) (f : LayerStat → LayerStat) (s : State) : State :=
  s.modCtx p c fun x =>
    let old := (x.layerStats.find? fun e => e.layer == layer).getD { layer := layer }
    let lo := x.layerStats.filter fun e => decide (e.layer < layer)
    let hi := x.layerStats.filter fun e => decide (layer < e.layer)
    { x with layerStats := lo ++ f old :: hi }

/-- Why a trip on a core does not re-run (R216, R217); 0 where it does. `gate` is the entry of a gate that lies in this
core's directory of the submission's bucket. A layer that has run wide does not run wide again (R218): assumption 62. -/
def State.noRerun (s : State) (p c : Nat) (pat : Loaded) (f : Flight) (r : CoreRun) (layer : Nat) (gate : Option Nat) : Nat :=
  if s.ctxClass p c ≠ 1 then 1
  else match gate with
    | none => 2
    | some e =>
      if s.cfg 0x2060 3 = 0 then 4
      else if s.cfg 0x2060 3 ≤ r.rerun ∨ r.ranWide.contains layer then 3
      else
        let b := pat.u16 (pat.u32 84 + 64 + 32 * (e - 1) + 12)
        if b ≠ 0 ∧ (s.boundIn f.binds b).isNone then 5 else 0

/-- Evaluates a layer on a core under an entry (R214): 0 clear, 1 watch, 2 trip. -/
def State.outcome (s : State) (pat : Loaded) (r : CoreRun) (layer : Nat) (e : Option Nat) : Nat :=
  let v := r.layer layer
  let t := s.thresholds pat e
  if t.1 * v.1 < v.2 * 1000000 then 2 else if t.2 * v.1 < v.2 * 1000000 then 1 else 0

/-- Records an evaluation: watch or trip, with the reason it did not re-run or 0 (R214, R217, R219). A clear one has no effect. -/
def State.recordLayer (p c core layer out reason : Nat) (s : State) : State :=
  let s := match out with
    | 0 => s
    | 1 => s.modLayer p c layer fun e => { e with lastCode := 0x0162, watches := e.watches + 1 }
    | _ => s.modLayer p c layer fun e =>
      if reason = 0 then { e with lastCode := 0x0160, trips := e.trips + 1, reruns := e.reruns + 1 }
      else { e with lastCode := 0x0161, trips := e.trips + 1, tripsNot := e.tripsNot + 1, lastReason := reason }
  let s := s.modRun p c core fun r => { r with layers := r.layers.filter fun e => e.1 != layer }
  s.modFlight p c fun f => { f with tripped := f.tripped || (out == 2 && reason != 0), rerun := f.rerun || (out == 2 && reason == 0) }

/-- The decision at a gate (R216): clear or watch goes on; a trip waits for the drain and then runs the wide
range, or keeps the narrow results. -/
def State.gateDecision (p c core : Nat) (s : State) : State :=
  match (s.ctx p c).flight, (s.ctx p c).pattern with
  | some f, some pat =>
    match f.run? core with
    | none => s
    | some r =>
      match r.gate with
      | none => s
      | some (layer, e) =>
        let busy := (s.part p).running.any fun x => x.ctx == c && x.core == core
        let gateRuns := (s.part p).running.any fun x => x.ctx == c && x.core == core && x.stroke == (pat.rerunCore e core).1
        let out := s.outcome pat r layer (some e)
        let reason := s.noRerun p c pat f r layer (some e)
        let open_ := fun (s : State) => s.modRun p c core fun r => { r with gate := none }
        if gateRuns then s
        else if out = 2 ∧ reason = 0 then
          if busy then s
          else
            let wide := pat.rerunCore e core
            ((s.recordLayer p c core layer 2 0).modRun p c core fun r =>
              { r with gate := none, rerun := r.rerun + 1, ranWide := layer :: r.ranWide, wide := some (layer, e, wide.2.1, wide.2.2),
                       todo := (List.range wide.2.2).map (wide.2.1 + ·) ++ r.todo }).fillQueue p c core
        else open_ (s.recordLayer p c core layer out (if out = 2 then reason else 0))
  | _, _ => s

/-- A core decides a layer of its directory away from a gate (R214, R218): a trip there never re-runs. -/
def State.decideLayer (p c core layer : Nat) (s : State) : State :=
  match (s.ctx p c).flight, (s.ctx p c).pattern with
  | some f, some pat =>
    match f.run? core with
    | none => s
    | some r =>
      let out := s.outcome pat r layer (pat.entryOn f.sub.bucket core layer)
      s.recordLayer p c core layer out (if out = 2 then s.noRerun p c pat f r layer none else 0)
  | _, _ => s

/-- The layers that a core evaluates at END: every layer that has counts still (R214). -/
def State.endEvaluation (p c core : Nat) (s : State) : State :=
  match (s.ctx p c).flight with
  | some f => match f.run? core with
    | none => s
    | some r => r.layers.foldl (fun s e => s.decideLayer p c core e.1) s
  | none => s

/-- In a real-time or urgent context a core decides when the layer's last SAT_CHECK stroke has completed (R218). -/
def State.timedEvaluation (p c core layer : Nat) (s : State) : State :=
  match (s.ctx p c).flight, (s.ctx p c).pattern with
  | some f, some pat =>
    match f.run? core with
    | none => s
    | some r =>
      let ofLayer := fun (i : Nat) => satCheck (pat.stroke i) && (pat.layer i).1 == layer
      if s.ctxClass p c = 1 ∨ r.todo.any ofLayer ∨ (s.part p).running.any (fun x => x.ctx == c && x.core == core && ofLayer x.stroke) then s
      else s.decideLayer p c core layer
  | _, _ => s

/-- The end of a wide range: its own counts are evaluated (R218). -/
def State.wideEnd (p c core : Nat) (s : State) : State :=
  match (s.ctx p c).flight, (s.ctx p c).pattern with
  | some f, some pat =>
    match f.run? core with
    | none => s
    | some r =>
      match r.wide with
      | none => s
      | some (layer, e, first, count) =>
        let inRange := fun (i : Nat) => decide (first ≤ i) && decide (i < first + count)
        if r.todo.any inRange ∨ (s.part p).running.any (fun x => x.ctx == c && x.core == core && inRange x.stroke) then s
        else
          let out := s.outcome pat r layer (some e)
          (s.recordLayer p c core layer out (if out = 2 then 3 else 0)).modRun p c core fun r => { r with wide := none }
  | _, _ => s

/-! ### Completion (R108, R154, R156) -/

/-- Adds a free amount to counts of a partition and of a slot. -/
def State.countFree (p n : Nat) (s : State) (k : List Nat × List Nat) : State :=
  let t := s.free
  let s := k.1.foldl (fun s i => s.countPart p i t.1) t.2
  k.2.foldl (fun s i => s.modSlot n fun x => { x with counts := bumpBy x.counts i t.1 }) s

/-- Flits cross the mesh for a partition: their number, and how many of them a router corrected (R334), are free. -/
def State.countFlits (p n : Nat) (s : State) : State :=
  let t := s.free
  { t.2 with peer := { t.2.peer with meshErrors := bumpBy t.2.peer.meshErrors 0 t.1 } }.countFree p n ([10], [])

/-- What a stroke adds to the counts of its partition and its slot (R587): busy cycles of its units, waits for banks, lines of DRAM and flits,
each a free amount; and the second turns of its writes to WORKING and KV objects (R319), each of which may have been waited for. -/
def State.countWork (p : Nat) (r : Running) (s : State) : State :=
  match s.slotOf p r.core with
  | none => s
  | some n =>
    let has := fun (l : List Nat) => l.any r.units.contains
    let toObject := fun (w : Write) => w.space == 3 && ((s.objAt (w.place / 8192) (w.place % 8192)).any fun o => o.kind != 1)
    let amounts : List (List Nat × List Nat) :=
      (if has [0] then [([1], [])] else []) ++ (if has [1] then [([2], [])] else []) ++ (if has [2, 4, 5, 6] then [([3], [])] else []) ++
      (if r.units = [] then [] else [([], [1]), ([4], [2]), ([5], [3])]) ++
      (if has [0, 3] then [([8], [])] else []) ++ (if r.writes.any fun w => w.space == 3 then [([9], [])] else [])
    let s := amounts.foldl (fun s k => s.countFree p n k) s
    let s := if has [0, 3] ∨ r.signals ≠ [] ∨ r.sync.isSome then s.countFlits p n else s
    (r.writes.filter toObject).foldl (fun s _ =>
      let t := s.free
      if t.1 % 2 = 1 then t.2.stall p 7 r.core else t.2) s

/-- Writes stand in their places; those to objects go through the cache, which allocates on write (R296). -/
def State.land (p : Nat) (ws : List Write) (s : State) : State :=
  ws.foldl (fun s w =>
    let s := s.applyWrite w
    match (if w.space = 3 then s.objAt (w.place / 8192) (w.place % 8192) else none) with
    | some o => s.cacheSpan p o w.addr w.bytes.length true false
    | none => s) s

/-- The counts of a stroke with SAT_CHECK reach its layer (R213, R215), which a timed context may then decide. -/
def State.countLayer (p : Nat) (r : Running) (s : State) : State :=
  if !satCheck [r.word0] then s
  else
    let layer := match (s.ctx p r.ctx).pattern with
      | some pat => (pat.layer r.stroke).1
      | none => 0
    let s := s.modRun p r.ctx r.core (CoreRun.addLayer layer r.elements r.flags.satCount)
    (s.modLayer p r.ctx layer fun e => { e with elements := e.elements + r.elements, saturated := e.saturated + r.flags.satCount }).timedEvaluation p
      r.ctx r.core layer

/-- The flips of a step follow the order in which its KV_PUBLISH strokes complete (R244): the publish of one that completes comes last. -/
def State.orderPublish (p : Nat) (r : Running) (s : State) : State :=
  if r.word0 % 256 ≠ 0x23 then s
  else match (s.ctx p r.ctx).pattern with
    | none => s
    | some pat => s.modFlight p r.ctx fun f =>
      let mine := fun (q : Nat × Nat × Nat) => (s.boundIn f.binds (locAt (pat.stroke r.stroke) 1).obj).any fun o => (q.1, q.2.1) == (o.owner, o.index)
      { f with publishes := f.publishes.filter (fun q => !mine q) ++ f.publishes.filter mine }

/-- A stroke completes: its results stand, its flags, counts and signals reach its submission and the tokens, and
a stroke with LAST ends a step on its core. -/
def State.finishStroke (p : Nat) (r : Running) (s : State) : State :=
  let s := (s.modPart p fun x => { x with running := x.running.erase r }).countWork p r
  let s := (s.land p r.writes).orderPublish p r
  let w0 := [r.word0]
  let sat := if satCheck w0 then r.flags.satCount else 0
  let s := s.modFlight p r.ctx fun f =>
    { f with flags := f.flags.join { r.flags with satCount := sat }, marks := f.marks ||| r.marks }
  let s := (s.countLayer p r).modRun p r.ctx r.core fun x =>
    { x with steps := x.steps + b01 (isLast w0), ended := x.ended || opcodeOf w0 == 0x3F }
  let by_ := fun (c : Nat) => if c = r.ctx then some (r.core, r.stroke) else none
  let s := r.signals.foldl (fun s k => s.addToken p k.1 k.2.1 k.2.2 (by_ k.2.1)) s
  let s := match s.slotOf p r.core with
    | some n =>
      let s := if signalEn w0 then s.addToken p n r.ctx (signalToken w0) (by_ r.ctx) else s
      let k := (s.slot n).completions
      let s := s.modSlot n fun x => { x with completions := x.completions + 1 }
      if k % 2 ^ s.area p 0x70 2 = 0 then
        let t := s.free
        let u := t.2.free
        u.2.capture p 4 ([byteOf r.ctx, byteOf r.core, byteOf (opcodeOf w0), 0] ++ le 4 r.stroke ++ le 4 (t.1 % 2 ^ 32) ++ le 4 (u.1 % 2 ^ 32))
      else s
    | none => s
  let s := s.wideEnd p r.ctx r.core
  if opcodeOf w0 = 0x3F then s.endEvaluation p r.ctx r.core else s

/-- The running stroke of a context, core and index. -/
def State.runningAt (s : State) (p c core stroke : Nat) : Option Running :=
  (s.part p).running.find? fun r => r.ctx == c && r.core == core && r.stroke == stroke

/-- Whether a running stroke reads the scratchpad of a logical core as CORE_SPAD. -/
def State.readsCore (s : State) (p core : Nat) (r : Running) : Bool := match (s.ctx p r.ctx).pattern with
  | some pat => (operands (pat.stroke r.stroke)).any fun o => o.rd && o.loc.space == 4 && o.loc.obj == core
  | none => false

/-- Whether a stroke writes to, signals or reads from a logical core that is being replaced: what is newly addressed to it is held at the mesh
until the map has switched (R114). -/
def State.heldBack (s : State) (p : Nat) (r : Running) : Bool := s.replacing.any fun x => x.part == p &&
  (r.writes.any (fun w => w.place == x.retired && w.space != 3) || r.signals.any (fun k => k.1 == x.retired) || s.readsCore p x.logical r)

/-- Whether a running stroke may complete now: it waits for no time, barrier, peer, boundary of its own or core that is being replaced, and, if it
was interrupted, its units are free again. -/
def State.mayComplete (s : State) (p : Nat) (r : Running) : Bool :=
  r.untilNs.isNone && r.sync.isNone && r.peer.isNone && !s.movePending p r.ctx r.core r.stroke && !s.heldBack p r &&
  !(r.preempted && r.units.any (s.unitsHeld p r.core).contains)

/-- SAT_GATE_DECISION (R214, R216). -/
def execSatGateDecision (p c core : Nat) (s : State) : Host.Outcome State Fault Refusal := settled s (s.gateDecision p c core)

/-- The words of the stroke at the head of a context on a core, where it is ready: its step has started, it stands in the queue and its tokens
are there. -/
def State.readyHead (s : State) (p c core : Nat) : Option (List Nat) :=
  match (s.ctx p c).flight, (s.ctx p c).pattern, s.slotOf p core with
   | some f, some pat, some n => match f.run? core with
     | some x => match x.todo with
       | i :: _ =>
         let w := pat.stroke i
         if f.started ∧ 0 < x.queued ∧ tokensReady (s.slot n) c (waitTokens w) then some w else none
       | [] => none
     | none => none
   | _, _, _ => none

/-- Whether a context that wins over a running stroke's has a ready head on the core that wants one of its units (R365). -/
def State.wanted (s : State) (p core : Nat) (r : Running) (c : Nat) : Bool :=
  s.outranks p c r.ctx && (match s.readyHead p c core with
    | some w => (unitsOf w).any r.units.contains
    | none => false)

/-- Whether an interrupted stroke resumes (R365): its context has the least rank among the ready heads, and its units are free. -/
def State.mayResume (s : State) (p core : Nat) (r : Running) : Bool :=
  !(r.units.any (s.unitsHeld p core).contains) && !((List.range 16).any fun k => s.outranks p k r.ctx && (s.readyHead p k core).isSome)

/-- TOKEN_TIMEOUT (R108, R159): a stroke at the head, or a SYNC, has waited longer than TOKEN_WAIT_LIMIT_US. -/
def execTokenTimeout (p c core : Nat) (s : State) : Host.Outcome State Fault Refusal :=
  settled s (match (s.ctx p c).flight with
    | none => s
    | some f =>
      if f.stop.isSome then s else
      match (s.part p).running.find? (fun r => r.ctx == c && r.core == core && r.sync.isSome) with
      | some r => s.stopFlight p c 0x0104 core r.stroke
      | none =>
        match f.run? core, (s.ctx p c).pattern, s.slotOf p core with
        | some r, some pat, some n => match r.todo with
          | i :: _ => if f.started ∧ !tokensReady (s.slot n) c (waitTokens (pat.stroke i)) then s.stopFlight p c 0x0104 core i else s
          | [] => s
        | _, _, _ => s)

end Sys2Proof.Machine
end

