-- ==== Sys2Proof/Machine/Control.lean ====
section
/-! DEFINITION. The control strokes (R158 to R161): NOP, SYNC, SIGNAL, WAIT_TIME and END. -/

namespace Sys2Proof.Machine

/-- NOP (R158): it occupies no unit. -/
def meaningNop : Meaning := { run := fun _ s => ({}, s) }

/-- NOP (R158). -/
def execNop (p c core : Nat) (s : State) : Host.Outcome State Fault Refusal := settled s (s.issue 0x00 meaningNop p c core)

/-- END (R157): USER_VALUE of logical core 0 goes into the completion. -/
def meaningEnd : Meaning :=
  { run := fun t s => ({}, if t.core = 0 then s.modFlight t.p t.c fun f => { f with userValue := wd t.w 1 } else s) }

/-- END (R157). -/
def execEnd (p c core : Nat) (s : State) : Host.Outcome State Fault Refusal := settled s (s.issue 0x3F meaningEnd p c core)

/-- How many SYNCs with a peal a core has issued in its submission. -/
def CoreRun.syncCount (r : CoreRun) (peal : Nat) : Nat := match r.syncs.find? fun e => e.1 == peal with
  | some e => e.2
  | none => 0

/-- The number of the next SYNC with a peal on a core. -/
def State.nextSync (s : State) (t : Site) (peal : Nat) : Nat :=
  match (s.ctx t.p t.c).flight with
  | some f => match f.run? t.core with
    | some r => r.syncCount peal + 1
    | none => 1
  | none => 1

/-- SYNC (R159): the k-th with its peal waits for the k-th on every other member. -/
def meaningSync : Meaning :=
  { holds := true,
    run := fun t s =>
      let peal := wd t.w 1 % 256
      let k := s.nextSync t peal
      if s.pealLost t peal then ({ fault := 0x0108 }, s) else
      ({ sync := some (peal, k) }, s.modRun t.p t.c t.core fun r => { r with syncs := (peal, k) :: r.syncs.filter fun e => e.1 != peal }) }

/-- SYNC (R159). -/
def execSync (p c core : Nat) (s : State) : Host.Outcome State Fault Refusal := settled s (s.issue 0x01 meaningSync p c core)

/-- The SYNCs of a context that wait with a peal at a number. -/
def State.waitingSyncs (s : State) (p c peal k : Nat) : List Running :=
  (s.part p).running.filter fun r => r.ctx == c && r.sync == some (peal, k)

/-- SYNC_COMPLETE (R159): the last member of a peal has issued its matching SYNC. -/
def execSyncComplete (p c peal k : Nat) (s : State) : Host.Outcome State Fault Refusal :=
  settled s (match (s.ctx p c).pattern with
    | none => s
    | some pat =>
      let ws := s.waitingSyncs p c peal k
      let members := pat.peal peal
      if members = [] ∨ members.any (fun m => !ws.any fun r => r.core == m) then s
      else ws.foldl (fun s r => s.finishStroke p r) s)

/-- SIGNAL (R160): adds 1 to a counter of a context on a core, or on every core of a peal. -/
def meaningSignal : Meaning :=
  { run := fun t s =>
      let target := bits (wd t.w 1) 7 0
      if flagOf t.w 0 && s.pealLost t target then ({ fault := 0x0108 }, s) else
      let cores := if flagOf t.w 0 then t.pat.peal target else [target]
      ({ signals := (cores.filterMap fun k => s.slotOf t.p k).map fun n => (n, bits (wd t.w 1) 11 8, bits (wd t.w 1) 14 12) }, s) }

/-- SIGNAL (R160). -/
def execSignal (p c core : Nat) (s : State) : Host.Outcome State Fault Refusal := settled s (s.issue 0x02 meaningSignal p c core)

/-- The deadline of a WAIT_TIME, in whole nanoseconds (R161). -/
def State.waitDeadline (s : State) (t : Site) : Nat :=
  let now := s.time.ns112 / 2 ^ 32
  match bits (wd t.w 0) 9 8 with
  | 0 => wd t.w 1 + 2 ^ 32 * wd t.w 2 + 2 ^ 64 * (wd t.w 3 % 65536)
  | 1 => match (s.ctx t.p t.c).flight with
    | some f =>
      let from_ := if s.ctxClass t.p t.c = 2 then f.sub.deadline.getD now - 1000 * s.ctxCfg t.p t.c 0 8
        else (f.sub.releasedNow.getD now)
      from_ + wd t.w 1
    | none => now
  | _ => now + wd t.w 1

/-- WAIT_TIME (R161): it holds its context until the deadline; one already reached raises WAIT_LATE. -/
def meaningWaitTime : Meaning :=
  { holds := true,
    own := fun t s => if bits (wd t.w 0) 9 8 = 0 ∧ !s.timeValid then 0x0129 else 0,
    run := fun t s =>
      let d := s.waitDeadline t
      (if d ≤ s.time.ns112 / 2 ^ 32 then { marks := 2 } else { untilNs := some d }, s) }

/-- WAIT_TIME (R161). -/
def execWaitTime (p c core : Nat) (s : State) : Host.Outcome State Fault Refusal := settled s (s.issue 0x03 meaningWaitTime p c core)

/-- WAIT_TIME_DEADLINE (R161): NS112 reaches the deadline of a waiting WAIT_TIME, which completes. -/
def execWaitTimeDeadline (p c core : Nat) (s : State) : Host.Outcome State Fault Refusal :=
  settled s (match (s.part p).running.find? fun r => r.ctx == c && r.core == core && r.untilNs.isSome with
    | some r => (s.reach (r.untilNs.getD 0 * 2 ^ 32)).finishStroke p r
    | none => s)

end Sys2Proof.Machine
end

