-- ==== Sys2Proof/Machine/Transfer.lean ====
section
/-! DEFINITION. The transfer strokes (R162, R163) and the stream prefetchers (R291 to R293). -/

namespace Sys2Proof.Machine

/-- Where line `i` of row `r` of `rows` rows of lines lies, as a byte offset of its space: in the accumulator, a quarter of a row in block
layout (R149). -/
def lineAt (l : Loc) (stride rows r i : Nat) : Nat :=
  if l.space = 2 then l.off + ((i / 4) * rows + r) * 256 + i % 4 * 64 else l.off + (r * stride + i) * 64

/-- One line of a location. -/
def State.readLine (s : State) (t : Site) (l : Loc) (off : Nat) : Bytes := s.readLoc t l off 64

/-- The writes that copy row `ra` of the `aRows` rows of A to row `rd` of the `dRows` rows of D; ROW_LINES and the strides are the
stroke's. -/
def State.copyRow (s : State) (t : Site) (aRows dRows ra rd : Nat) : List Write :=
  let a := locAt t.w 1
  let d := locAt t.w 5
  (List.range (lo16 t.w 8)).map fun i => s.writeLoc t d (lineAt d (hi16 t.w 9) dRows rd i) (s.readLine t a (lineAt a (lo16 t.w 9) aRows ra i))

/-- The writes that zero a row of D. -/
def State.zeroRow (s : State) (t : Site) (dRows rd : Nat) : List Write :=
  (List.range (lo16 t.w 8)).map fun i => s.writeLoc t (locAt t.w 5) (lineAt (locAt t.w 5) (hi16 t.w 9) dRows rd i) (List.replicate 64 0)

/-- A write of a stroke that reaches a protected range of a sequence object: the object, the offset and the copy
(R247). -/
def State.ptHit (s : State) (l : List Write) : Option (Obj × Nat × Nat) :=
  l.findSome? fun w => if w.space ≠ 3 then none else
    match s.objAt (w.place / 8192) (w.place % 8192) with
    | some o => (s.ptProtected o w.addr w.bytes.length).map fun c => (o, w.addr, c)
    | none => none

/-- The effect of writes that R247 may reject: the stroke then fails, and the lines outside the protected range are
written or keep their old values. -/
def State.guarded (e : Effect) (s : State) : Effect × State :=
  match s.ptHit e.writes with
  | none => (e, s)
  | some (o, off, copy) =>
    ({ e with fault := 0x0602, writes := e.writes.filter fun w => (s.ptHit [w]).isNone }, s.rejectPt o off copy)

/-- MOVE (R162). -/
def meaningMove : Meaning :=
  { units := unitsOf,
    run := fun t s =>
      let w := t.w
      s.guarded { writes := (List.range (hi16 w 8)).flatMap fun r => inTile r (s.copyRow t (hi16 w 8) (hi16 w 8) r r), tiles := hi16 w 8 } }

/-- MOVE (R162). -/
def execMove (p c core : Nat) (s : State) : Host.Outcome State Fault Refusal := settled s (s.issue 0x08 meaningMove p c core)

/-- MCAST (R162, R194): every member of the peal receives the whole tensor at the same offset of its share. -/
def meaningMcast : Meaning :=
  { units := unitsOf,
    run := fun t s =>
      let w := t.w
      if s.pealLost t (bits (wd w 10) 7 0) then ({ fault := 0x0108 }, s) else
      let slots := (t.pat.peal (bits (wd w 10) 7 0)).filterMap fun k => s.slotOf t.p k
      let own := (List.range (hi16 w 8)).flatMap fun r => inTile r (s.copyRow t (hi16 w 8) (hi16 w 8) r r)
      ({ tiles := hi16 w 8, writes := slots.flatMap fun n => own.map fun x => { x with place := n },
         signals := if (wd w 10).testBit 11 then slots.map fun n => (n, t.c, bits (wd w 10) 10 8) else [] }, s) }

/-- MCAST (R162). -/
def execMcast (p c core : Nat) (s : State) : Host.Outcome State Fault Refusal := settled s (s.issue 0x0A meaningMcast p c core)

/-- The INT32 indices of an index list. -/
def State.indexList (s : State) (t : Site) (n : Nat) : List Int :=
  (List.range n).map fun i => signed 32 (ofLE (s.readLoc t (locAt t.w 3) ((locAt t.w 3).off + 4 * i) 4))

/-- Whether an index lies in its table. -/
def inTable (i : Int) (limit : Nat) : Bool := decide (0 ≤ i) && decide (i < limit)

/-- GATHER (R162): a row out of the table is written as zeros and raises INDEX_RANGE. -/
def meaningGather : Meaning :=
  { units := unitsOf,
    reads := fun t s =>
      if (locAt t.w 1).space ≠ 3 then []
      else ((s.indexList t (hi16 t.w 8)).filter fun i => inTable i (wd t.w 10)).map fun i =>
        ((locAt t.w 1).obj, (locAt t.w 1).off + i.toNat * lo16 t.w 9 * 64, lo16 t.w 8 * 64),
    run := fun t s =>
      let w := t.w
      let ix := s.indexList t (hi16 w 8)
      ({ tiles := hi16 w 8,
         writes := ix.zipIdx.flatMap fun e => inTile e.2 (
           if inTable e.1 (wd w 10) then s.copyRow t (wd w 10) (hi16 w 8) e.1.toNat e.2
           else s.zeroRow t (hi16 w 8) e.2),
         marks := b01 (ix.any fun i => !inTable i (wd w 10)) }, s) }

/-- GATHER (R162). -/
def execGather (p c core : Nat) (s : State) : Host.Outcome State Fault Refusal := settled s (s.issue 0x0B meaningGather p c core)

/-- SCATTER (R162): rows in list order; a row out of the table is dropped and raises INDEX_RANGE. -/
def meaningScatter : Meaning :=
  { units := unitsOf,
    run := fun t s =>
      let w := t.w
      let ix := s.indexList t (hi16 w 8)
      s.guarded
        { tiles := hi16 w 8,
          writes := ix.zipIdx.flatMap fun e => inTile e.2 (
            if inTable e.1 (wd w 10) then s.copyRow t (hi16 w 8) (wd w 10) e.2 e.1.toNat else []),
          marks := b01 (ix.any fun i => !inTable i (wd w 10)) } }

/-- SCATTER (R162). -/
def execScatter (p c core : Nat) (s : State) : Host.Outcome State Fault Refusal := settled s (s.issue 0x0C meaningScatter p c core)

/-! ### Prefetchers -/

/-- The checks of a descriptor that need no submission (R293). -/
def descStatic (pealCount : Nat) (b : Bytes) : Nat :=
  let src := dSource b
  let lines := dU b 12 2
  let ring := dU b 14 2
  let count := dU b 16 4
  let stride := dU b 20 4
  if bits (dU b 8 4) 31 21 ≠ 0 ∨ 1 < dU b 26 1 ∨ (slice b 28 28).any (· != 0) ∨ !src.reservedOk then 0x0121
  else if lines = 0 ∨ 4096 < lines ∨ ring = 0 ∨ 256 < ring ∨ count = 0 ∨ 16777215 < count ∨ (stride ≠ 0 ∧ stride < lines) ∨ dU b 27 1 = 0 ∨
      ring < dU b 27 1 ∨ (ring < count ∧ !(dU b 25 1).testBit 7) then 0x0122
  else if src.space ≠ 3 then 0x0123
  else if src.off % 64 ≠ 0 ∨ dDest b % 64 ≠ 0 then 0x0124
  else if dU b 24 1 ≠ 0xFF ∧ pealCount ≤ dU b 24 1 then 0x0126
  else 0

/-- The checks of a descriptor (R293). -/
def State.descCode (s : State) (t : Site) : Nat :=
  let b := descBytes t.w
  let src := dSource b
  let code := descStatic t.pat.pealCount b
  if code ≠ 0 then code
  else match t.pat.bindings.find? fun e => e.1 == src.obj, s.bound t src.obj with
    | some e, some o =>
      if e.2.1 % 2 = 0 ∨ o.size < src.off + ((dU b 16 4 - 1) * dU b 20 4 + dU b 12 2) * 64 then 0x0125
      else if s.ctxCfg t.p t.c 0 4 * 64 < dDest b + dU b 14 2 * dU b 12 2 * 64 then 0x0105 else 0
    | some _, none => if s.gone t src.obj then 0 else 0x0125
    | _, _ => 0x0125

/-- The prefetcher a PREFETCH names. -/
def prefetcherOf (w : List Nat) : Nat := bits (wd w 1) 3 0

/-- PREFETCH (R163): the prefetcher takes the descriptor; one that holds an unfinished descriptor keeps it waiting. -/
def meaningPrefetch : Meaning :=
  { units := unitsOf,
    own := fun t s => s.descCode t,
    ready := fun t s => ((s.slot t.slot).prefetchers.getD (prefetcherOf t.w) none).isNone,
    binds := fun t => [(dSource (descBytes t.w)).obj],
    reads := fun _ _ => [],
    run := fun t s =>
      let b := descBytes t.w
      let h := match s.bound t (dSource b).obj with
        | some o => o.handle
        | none => 0
      let f : Prefetcher := { part := t.p, ctx := t.c, core := t.core, desc := b, stroke := t.idx, handle := h }
      ({}, s.modSlot t.slot fun x => { x with prefetchers := x.prefetchers.set (prefetcherOf t.w) (some f) }) }

/-- PREFETCH (R163). -/
def execPrefetch (p c core : Nat) (s : State) : Host.Outcome State Fault Refusal := settled s (s.issue 0x09 meaningPrefetch p c core)

/-- A block of a prefetcher is in every receiving core (R292): the block, its tokens, and the next block. -/
def State.deliverBlock (slot k : Nat) (f : Prefetcher) (pat : Loaded) (o : Obj) (s : State) : State :=
  let b := f.desc
  let lines := dU b 12 2
  let i := f.block
  let slots := (dCores b pat f.core).filterMap fun c => s.slotOf f.part c
  let s := s.cacheSpan f.part o ((dSource b).off + i * dU b 20 4 * 64) (lines * 64) false ((dU b 26 1).testBit 0)
  let data := memRead o.content ((dSource b).off + i * dU b 20 4 * 64) (lines * 64)
  let at_ := s.ctxCfg f.part f.ctx 0 3 * 64 + dDest b + i % dU b 14 2 * lines * 64
  let credit := decide (dU b 14 2 ≤ i) && (dU b 25 1).testBit 7
  let ct := bits (dU b 25 1) 6 4
  let s := if credit then s.modSlot slot fun x => { x with tokens := x.tokens.modify (8 * f.ctx + ct) (· - slots.length) } else s
  let s := slots.foldl (fun s n => s.modSlot n fun x => { x with spad := memWrite x.spad at_ data }) s
  let s := s.modSlot slot fun x => { x with prefetchers := x.prefetchers.set k (if i + 1 = dU b 16 4 then none else some { f with block := i + 1 }) }
  if (dU b 25 1).testBit 3 then slots.foldl (fun s n => s.addToken f.part n f.ctx (bits (dU b 25 1) 2 0) (some (f.core, f.stroke))) s else s

/-- PREFETCH_BLOCK_DELIVERED (R292): the next block of a prefetcher; without the credit it needs, or while a receiving core is being replaced
(R114), it waits. A fault of its object fails the submission and names the PREFETCH (R293). -/
def execPrefetchBlockDelivered (slot prefetcher : Nat) (s : State) : Host.Outcome State Fault Refusal :=
  settled s (match (s.slot slot).prefetchers.getD prefetcher none with
    | none => s
    | some f =>
      match (s.ctx f.part f.ctx).pattern with
      | none => s
      | some pat =>
        let drop := fun (s : State) => s.modSlot slot fun x => { x with prefetchers := x.prefetchers.set prefetcher none }
        match s.objOf f.handle with
        | none => drop (s.stopFlight f.part f.ctx 0x0201 f.core f.stroke)
        | some o =>
          if o.state = 4 then drop (s.stopFlight f.part f.ctx 0x0207 f.core f.stroke)
          else if !s.requested slot f pat ∨ s.replacing.any (fun x => x.part == f.part && (dCores f.desc pat f.core).contains x.logical) then s
          else (s.deliverBlock slot prefetcher f pat o).countFree f.part slot ([8], []) |>.countFlits f.part slot)

end Sys2Proof.Machine
end

