-- ==== Sys2Proof/Machine/Units.lean ====
section
/-! DEFINITION. The softmax unit within its bounds (R95), and the twiddles of the transform (R167). Real functions
are evaluated in fixed point with 192 fraction bits, which decides every rounding and every bound below. -/

namespace Sys2Proof.Machine

/-- ln 2 in fixed point. -/
def ln2Fix : Int := 0xb17217f7d1cf79abc9e3b39803f2f6af40f343267298b62d
/-- π in fixed point. -/
def piFix : Int := 0x3243f6a8885a308d313198a2e03707344a4093822299f31d0
/-- 1 in fixed point. -/
def oneFix : Int := 2 ^ 192

/-- A power series in fixed point: `term` is the n-th term, and the next is term × x / (n + 1). -/
def expSeries (x : Int) : Nat → Nat → Int → Int → Int
  | 0, _, _, acc => acc
  | fuel + 1, n, term, acc =>
    let t := term * x / oneFix / ((n + 1 : Nat) : Int)
    expSeries x fuel (n + 1) t (acc + t)

/-- The series of the cosine of x, given x². -/
def cosSeries (x2 : Int) : Nat → Nat → Int → Int → Int
  | 0, _, _, acc => acc
  | fuel + 1, n, term, acc =>
    let t := -(term * x2 / oneFix / (((2 * n + 1) * (2 * n + 2) : Nat) : Int))
    cosSeries x2 fuel (n + 1) t (acc + t)

/-- e^x for x in fixed point, as a dyadic value. -/
def expDy (x : Int) : Int × Int :=
  let k := x / ln2Fix
  let r := x - k * ln2Fix
  (expSeries r 60 0 oneFix oneFix, k - 192)

/-- A dyadic value in fixed point. -/
def fixOf (d : Int × Int) : Int := match d.2 + 192 with
  | .ofNat k => d.1 * 2 ^ k
  | .negSucc k => d.1 / 2 ^ (k + 1)

/-- Whether two dyadic values differ by at most a tolerance. -/
def near (tol a b : Int × Int) : Bool :=
  let d := dyAdd a (-b.1, b.2)
  !dyLt tol ((d.1.natAbs : Int), d.2)

/-- The unit of the last place of a finite FP32 code, as a dyadic value. -/
def ulpOf (c : Nat) : Int × Int := (1, ((max (bits c 30 23) 1 : Nat) : Int) - 150)

/-- The exponential of a dyadic exponent within R95, as the unit gives it: any answer that keeps the bound. -/
def expWithin (fn code : Nat) (e : Int × Int) : Nat :=
  if dyLt e (1, -126) then 0
  else
    let cand := Config.unitResult fn code % 2 ^ 32
    match ofFp32 cand with
    | .num m k => if near (e.1, e.2 - 22) (m, k) e then cand else toFp32 0 (.num e.1 e.2)
    | _ => toFp32 0 (.num e.1 e.2)

/-- +∞ in FP32. -/
def fpInf : Nat := 0x7F800000
/-- −∞ in FP32. -/
def fpNegInf : Nat := 0xFF800000
/-- 1 in FP32. -/
def fpOne : Nat := 0x3F800000

/-- e^x (R95). -/
def fpExp (c : Nat) : Nat :=
  match ofFp32 c with
  | .nan => fp32.nan
  | .inf n => if n then 0 else fpInf
  | .zero _ => expWithin 0 c (1, 0)
  | .num m e =>
    let x := fixOf (m, e)
    if 8872283 * oneFix < x * 100000 then fpInf
    else if x < -200 * oneFix then 0
    else expWithin 0 c (expDy x)

/-- 2^x (R95). -/
def fpExp2 (c : Nat) : Nat :=
  match ofFp32 c with
  | .nan => fp32.nan
  | .inf n => if n then 0 else fpInf
  | .zero _ => expWithin 1 c (1, 0)
  | .num m e =>
    let x := fixOf (m, e)
    if 128 * oneFix ≤ x then fpInf
    else if x < -200 * oneFix then 0
    else
      let k := x / oneFix
      let v := expDy ((x - k * oneFix) * ln2Fix / oneFix)
      expWithin 1 c (v.1, v.2 + k)

/-- A dyadic value close to the quotient m × 2^e ÷ (n × 2^f), n > 0, that rounds as the quotient does. -/
def quotDy (m e n f : Int) : Num :=
  let a := m.natAbs * 2 ^ 400
  let b := n.natAbs
  let q : Nat := 2 * (a / b) + b01 (a % b != 0)
  mkNum (if m < 0 then -(q : Int) else (q : Int)) (e - f - 401) false

/-- 1/n rounded once to FP32. -/
def fpInvNat (n : Nat) : Nat := toFp32 0 (quotDy 1 0 n 0)

/-- 1/x (R95): within 1 ulp. -/
def fpRecip (c : Nat) : Nat :=
  match ofFp32 c with
  | .nan => fp32.nan
  | .inf n => if n then fp32.sign else 0
  | .zero n => if n then fpNegInf else fpInf
  | .num m e =>
    let a : Nat := m.natAbs
    let r := toFp32 0 (quotDy (if m < 0 then -1 else 1) 0 a e)
    let cand := Config.unitResult 2 c % 2 ^ 32
    match ofFp32 cand, ofFp32 r with
    | .num k f, .num _ _ =>
      let u : Int × Int := ulpOf r
      if near (u.1 * Int.ofNat a, u.2 + e) (k * m, f + e) (1, 0) then cand else r
    | _, _ => r

/-- The whole square root, one bit at a time from the bit given. -/
def isqrtFrom (n : Nat) : Nat → Nat → Nat
  | 0, r => r
  | b + 1, r => let t := r + 2 ^ b; isqrtFrom n b (if t * t ≤ n then t else r)

/-- 1/√x (R95): within 2 ulp. -/
def fpRsqrt (c : Nat) : Nat :=
  match ofFp32 c with
  | .nan => fp32.nan
  | .inf n => if n then fp32.nan else 0
  | .zero n => if n then fpNegInf else fpInf
  | .num m e =>
    if m < 0 then fp32.nan
    else
      let h := e / 2
      let a := m.natAbs * (if e % 2 = 1 then 2 else 1)
      let n := 2 ^ 400 / a
      let y := isqrtFrom n 201 0
      let r := toFp32 0 (.num (2 * (y : Int) + (if y * y * a = 2 ^ 400 then 0 else 1)) (-h - 201))
      let cand := Config.unitResult 3 c % 2 ^ 32
      match ofFp32 cand with
      | .num k f =>
        let u : Int × Int := ulpOf r
        let lo := dyAdd (k, f) (-2 * u.1, u.2)
        let hi := dyAdd (k, f) (2 * u.1, u.2)
        let sq := fun (d : Int × Int) => ((d.1 * d.1 * m, 2 * d.2 + e) : Int × Int)
        if 0 < k ∧ (lo.1 ≤ 0 ∨ !dyLt (1, 0) (sq lo)) ∧ !dyLt (sq hi) (1, 0) then cand else r
      | _ => r

/-! ### The running maximum and sum (R95, R171) -/

/-- exp(m − m_new), +0 where m is −∞ (R171). -/
def expStep (m mNew : Nat) : Nat := if ofFp32 m = .inf true then 0 else fpExp (fpSub 0 m mNew)

/-- A running state takes in an input (R95). -/
def runningAdd (st : Nat × Nat) (x : Nat) : Nat × Nat :=
  let m := fpMax st.1 x
  if ofFp32 x = .nan ∨ ofFp32 st.2 = .nan then (m, fp32.nan)
  else (m, fpFma 0 st.2 (expStep st.1 m) (fpExp (fpSub 0 x m)))

/-- Two running states combine (R171). -/
def runningJoin (a b : Nat × Nat) : Nat × Nat :=
  let m := fpMax a.1 b.1
  if ofFp32 a.2 = .nan ∨ ofFp32 b.2 = .nan then (m, fp32.nan)
  else (m, fpFma 0 a.2 (expStep a.1 m) (fpMul 0 b.2 (expStep b.1 m)))

/-- Combines 64 lanes in the fixed tree (R171). -/
def laneTree {α : Type} (f : α → α → α) (d : α) (l : List α) : α :=
  let level := fun (x : List α) (j : Nat) => (List.range (2 ^ (6 - j))).map fun i => f (x.getD i d) (x.getD (i + 2 ^ (6 - j)) d)
  ([1, 2, 3, 4, 5, 6].foldl level l).headD d

/-- Lane l of a row: elements l, l + 64 and so on. -/
def laneOf {α : Type} (row : List α) (l : Nat) : List α :=
  (row.zipIdx.filter fun e => e.2 % 64 = l).map (·.1)

/-- A row reduced in the fixed order from an identity: each lane in ascending order, then the tree. -/
def reduceRow {α β : Type} (step : β → α → β) (join : β → β → β) (unit : β) (row : List α) : β :=
  laneTree join unit ((List.range 64).map fun l => (laneOf row l).foldl step unit)

/-! ### Twiddles (R167) -/

/-- cos(2πj/L) in fixed point, for L = 2^S. -/
def cosFix (S j : Nat) : Int :=
  let x := 2 * piFix * ((j % 2 ^ S : Nat) : Int) / ((2 ^ S : Nat) : Int)
  cosSeries (x * x / oneFix) 60 0 oneFix oneFix

/-- cos(2πj/L) rounded to FP32; the exact values at the quarters are exact. -/
def cosFp (S j : Nat) : Nat :=
  let q := 4 * (j % 2 ^ S)
  if q = 0 then fpOne
  else if q = 2 ^ S ∨ q = 3 * 2 ^ S then 0
  else if q = 2 * 2 ^ S then 0xBF800000
  else toFp32 0 (mkNum (cosFix S j) (-192) false)

/-- The twiddle e^(∓2πij/L), L = 2^S: real and imaginary parts, the second a cosine a quarter turn on. -/
def twiddle (inverse : Bool) (S j : Nat) : Nat × Nat :=
  (cosFp S j, cosFp (S + 2) (4 * j + (if inverse then 3 else 1) * 2 ^ S))

end Sys2Proof.Machine
end

