-- ==== Sys2Proof/Machine/Matrix.lean ====
section
/-! DEFINITION. The matrix strokes (R164 to R167, with R94 and R135 to R138): MATMUL, MATMUL_ACC, CONV2D and FFT. -/

namespace Sys2Proof.Machine

/-! ### Rows of codes -/

/-- A code with the flags its element raised. -/
abbrev Elem := Nat × Flags

/-- The effect of a stroke that writes rows of codes to a plain tensor; `tileOf` gives the tile of a row. -/
def State.putRows (s : State) (t : Site) (l : Loc) (fmt stride : Nat) (rows : List (List Elem)) (tileOf : Nat → Nat := fun _ => 0) : Effect :=
  { writes := rows.zipIdx.flatMap fun r => inTile (tileOf r.2) (s.rowWrites t l fmt rows.length stride r.2 (r.1.map (·.1))),
    flags := rows.foldl (fun f r => r.foldl (fun f e => f.join e.2) f) noFlags,
    elements := (rows.map (·.length)).sum }

/-- The number of tiles of a stroke (R145). -/
def Effect.withTiles (n : Nat) (e : Effect) : Effect := { e with tiles := n }

/-- NAN_OUT where an FP32 code is a NaN. -/
def fpFlags (c : Nat) : Flags := if ofFp32 c = .nan then nanFlag else noFlags

/-- An FP32 value through the conversion stage (R127, R128). -/
def fpOut (dst mode : Nat) (sat : Bool) (c : Nat) : Elem := encodeFmt 1 dst mode sat (ofFp32 c)

/-- FP32 value i of a table in the context's scratchpad share. -/
def State.fpTable (s : State) (t : Site) (off i : Nat) : Nat := ofLE (s.readSpad t (off + 4 * i) 4)

/-! ### The epilogue (R165) -/

/-- The PWL table a matrix stroke applies, if any. -/
def State.epiTable (s : State) (t : Site) : Option (List (Nat × Nat × Nat)) :=
  if (wd t.w 12).testBit 2 then
    let n := if (wd t.w 12).testBit 3 then 32 else 16
    some (pwlTable n (s.readSpad t (wd t.w 15) (12 * n)))
  else none

/-- The five steps of the epilogue for the accumulator of a column. -/
def State.epilogue (s : State) (t : Site) (int : Bool) (table : Option (List (Nat × Nat × Nat))) (col acc : Nat) : Elem :=
  let w := t.w
  let mode := roundOf w
  let x := if int then toFp32 0 (ofInt (signed 32 acc)) else acc
  let x := if (wd w 12).testBit 0 then fpMul mode x (s.fpTable t (wd w 13) col) else x
  let x := if (wd w 12).testBit 1 then fpAdd mode x (s.fpTable t (wd w 14) col) else x
  let x := match table with
    | some e => pwlEval e x
    | none => x
  fpOut (descFmt (fmtD w)) mode (satOf w) x

/-! ### MATMUL -/

/-- Where a matrix stroke's accumulators lie. -/
def matAcc (w : List Nat) : Loc :=
  if (locAt w 5).space = 2 then locAt w 5 else { off := bits (wd w 10) 11 0 * 256, obj := 0, space := 2, top := 0 }

/-- An accumulator after each reduction panel (R136, R165). -/
def panelSums (pr : Pairing) : Elem → List (List (ScaledElem × ScaledElem)) → List Elem
  | _, [] => []
  | a, p :: r =>
    let x := accumulate pr a.1 p
    let e : Elem := (x.1, a.2.join x.2)
    e :: panelSums pr e r

/-- The accumulators of a MATMUL by row and column, after each panel (R136). The array takes whole chunks of the stored panels: the elements
that pad them encode +0 (R133). DEDUCED (assumption 34) from R136's loop over whole chunks. -/
def State.matSums (s : State) (t : Site) (keep : Bool) (pr : Pairing) : List (List (List Elem)) :=
  let w := t.w
  let M := lo16 w 8
  let K := lo16 w 9
  let P := depthA w
  let Q := depthB w
  let n := min ((K + P - 1) / P * P) ((K + Q - 1) / Q * Q)
  (List.range M).map fun r => (List.range (hi16 w 8)).map fun c =>
    panelSums pr (if keep then s.elem t (matAcc w) 1 M 0 r c else 0, noFlags)
      (chunks Q n ((List.range n).map fun k =>
        (s.panelElem t (locAt w 1) (fmtA w) K (hi16 w 10) P r k, s.panelElem t (locAt w 3) (fmtB w) K (lo16 w 11) Q c k)))

/-- An accumulator as it is written. -/
def accElem (int : Bool) (e : Elem) : Elem := (e.1, e.2.join (if int then noFlags else fpFlags e.1))

/-- The tiles of a matrix stroke in their order, one panel each (R145, R165, R204): its column block, its rows from and to, and its panel, or
nothing for the tile that restores a windowed group of rows. -/
def State.macTiles (s : State) (t : Site) (keep : Bool) (kp : Nat) : List (Option (Nat × Nat × Nat × Nat)) :=
  let m := macShape t.w
  (List.range m.2.1).flatMap fun b =>
    if s.windowed t b then (List.range ((m.1 + 63) / 64)).flatMap fun g =>
      (if keep then [none] else []) ++ (List.range kp).map fun j => some (b, 64 * g, min m.1 (64 * g + 64), j)
    else (List.range kp).map fun j => some (b, 0, m.1, j)

/-- The effect of a matrix stroke from its accumulators after each panel: each tile writes what it has formed, a windowed group its rows when its
last panel is done, and `out` gives what the epilogue writes of a row's columns then. -/
def State.macEffect (s : State) (t : Site) (keep int : Bool) (sums : List (List (List Elem))) (out : Nat → Nat → List Elem → List Write × Flags) : Effect :=
  let kp := ((sums.headD []).headD []).length
  let tiles := s.macTiles t keep kp
  let cols := fun (r b j : Nat) => (((sums.getD r []).drop (64 * b)).take 64).map fun c => accElem int (c.getD j (0, noFlags))
  let one := fun (b lo hi j : Nat) => (List.range (hi - lo)).map fun i =>
    let r := lo + i
    let codes := cols r b j
    let acc := if s.windowed t b ∧ j + 1 < kp then [] else [s.blockWrite t (matAcc t.w) 1 (macShape t.w).1 0 r b (codes.map (·.1))]
    let o := if j + 1 = kp then out r b codes else ([], noFlags)
    ((acc ++ o.1, if j + 1 = kp then codes.foldl (fun f e => f.join e.2) o.2 else noFlags) : List Write × Flags)
  let rows : List (List (List Write × Flags)) := tiles.zipIdx.map fun k => match k.1 with
    | none => []
    | some (b, lo, hi, j) => (one b lo hi j).map fun e => (inTile k.2 e.1, e.2)
  { writes := rows.flatMap fun l => l.flatMap (·.1), flags := rows.foldl (fun f l => l.foldl (fun f e => f.join e.2) f) noFlags,
    elements := (sums.map (·.length)).sum, tiles := tiles.length }

/-- MATMUL and MATMUL_ACC (R164, R165). -/
def meaningMatmul (keep : Bool) : Meaning :=
  { units := unitsOf,
    run := fun t s =>
      let w := t.w
      match pairing (fmtA w) (fmtB w), s.epiTable t with
      | none, _ => ({ fault := 0x0102 }, s)
      | some pr, table =>
        if (match table with | some e => !pwlOk e | none => false) then ({ fault := 0x0106 }, s)
        else
          let d := locAt w 5
          let epilogue := fun (r b : Nat) (l : List Elem) =>
            let e := l.zipIdx.map fun x => s.epilogue t pr.int table (64 * b + x.2) x.1.1
            ([s.blockWrite t d (descFmt (fmtD w)) (lo16 w 8) (hi16 w 11) r b (e.map (·.1))], e.foldl (fun f x => f.join x.2) noFlags)
          (s.macEffect t keep pr.int (s.matSums t keep pr) (if d.space = 2 ∧ !hasEpilogue w then fun _ _ _ => ([], noFlags) else epilogue), s) }

/-- MATMUL (R164). -/
def execMatmul (p c core : Nat) (s : State) : Host.Outcome State Fault Refusal := settled s (s.issue 0x10 (meaningMatmul false) p c core)

/-- MATMUL_ACC (R164): each accumulator adds to the value held. -/
def execMatmulAcc (p c core : Nat) (s : State) : Host.Outcome State Fault Refusal := settled s (s.issue 0x11 (meaningMatmul true) p c core)

/-! ### CONV2D -/

/-- An element of the image at reduction index k for output pixel m (R166): +0 outside the image. -/
def State.convElem (s : State) (t : Site) (m k : Nat) : Num :=
  let w := t.w
  let cp := convDepth w
  let x := m % lo16 w 8
  let y := m / lo16 w 8
  let tap := k / cp
  let kw := bits (wd w 12) 3 0
  let f := fun (hi lo : Nat) => bits (wd w 12) hi lo
  let ix : Int := ((x * (f 10 8 + 1) + tap % kw * (f 16 14 + 1) : Nat) : Int) - (f 23 20 : Nat)
  let iy : Int := ((y * (f 13 11 + 1) + tap / kw * (f 19 17 + 1) : Nat) : Int) - (f 27 24 : Nat)
  let wdt := fmtWidth (descFmt (fmtA w))
  if 0 ≤ ix ∧ 0 ≤ iy ∧ ix < lo16 w 13 ∧ iy < hi16 w 13 then
    let bit := (ix.toNat * cp + k % cp) * wdt
    decodeFmt (descFmt (fmtA w)) ((ofLE (s.readLoc t (locAt w 1) ((locAt w 1).off + iy.toNat * hi16 w 10 * 64 + bit / 8) 5) / 2 ^ (bit % 8)) % 2 ^ wdt)
  else .zero false

/-- CONV2D (R166). -/
def meaningConv2d : Meaning :=
  { units := unitsOf,
    run := fun t s =>
      let w := t.w
      match pairing (fmtA w) (fmtB w) with
      | none => ({ fault := 0x0102 }, s)
      | some pr =>
        let K := bits (wd w 12) 3 0 * bits (wd w 12) 7 4 * convDepth w
        let sums := (List.range (lo16 w 8 * hi16 w 8)).map fun m => (List.range (hi16 w 9)).map fun c =>
          panelSums pr (0, noFlags) (chunks (depthB w) K ((List.range K).map fun k =>
            (((s.convElem t m k, .num 1 0), s.panelElem t (locAt w 3) (fmtB w) K (lo16 w 11) (depthB w) c k) : ScaledElem × ScaledElem)))
        (s.macEffect t false pr.int sums fun _ _ _ => ([], noFlags), s) }

/-- CONV2D (R166). -/
def execConv2d (p c core : Nat) (s : State) : Host.Outcome State Fault Refusal := settled s (s.issue 0x12 meaningConv2d p c core)

/-! ### FFT -/

/-- A complex FP32 value. -/
abbrev Cpx := Nat × Nat

/-- The product w × x: each component a two-product sum with one rounding. -/
def cpxMul (w x : Cpx) : Cpx :=
  let p := fun (a b : Nat) => (ofFp32 a).mul (ofFp32 b)
  (toFp32 0 (Num.add false (p w.1 x.1) (p w.2 x.2).negate), toFp32 0 (Num.add false (p w.1 x.2) (p w.2 x.1)))

/-- The S low bits of an index in reverse order. -/
def bitRev : Nat → Nat → Nat
  | 0, _ => 0
  | S + 1, i => (i % 2) * 2 ^ S + bitRev S (i / 2)

/-- Stage k of the transform (R167): butterflies of span 2^k. -/
def fftStage (inverse : Bool) (k : Nat) (x : List Cpx) : List Cpx :=
  let h := 2 ^ k
  (List.range x.length).map fun i =>
    let j := i % h
    let lo := if i.testBit k then i - h else i
    let x0 := x.getD lo (0, 0)
    let m := cpxMul (twiddle inverse (k + 1) j) (x.getD (lo + h) (0, 0))
    if i.testBit k then (fpSub 0 x0.1 m.1, fpSub 0 x0.2 m.2) else (fpAdd 0 x0.1 m.1, fpAdd 0 x0.2 m.2)

/-- A transform of 2^S values in natural order (R167). -/
def fft (inverse : Bool) (S : Nat) (x : List Cpx) : List Cpx :=
  (List.range S).foldl (fun y k => fftStage inverse k y) ((List.range (2 ^ S)).map fun i => x.getD (bitRev S i) (0, 0))

/-- FFT (R167). -/
def meaningFft : Meaning :=
  { units := unitsOf,
    run := fun t s =>
      let w := t.w
      let S := lo16 w 8
      let L := 2 ^ S
      let real := flagOf w 1
      let a := descFmt (fmtA w)
      let input := fun (b i : Nat) => toFp32 0 (decodeFmt a (s.elem t (locAt w 1) a (hi16 w 8) (lo16 w 9) b i))
      let scaled := fun (c : Nat) => if flagOf w 2 then toFp32 0 ((ofFp32 c).scale (-(S : Int))) else c
      let out := fun (c : Nat) => fpOut (descFmt (fmtD w)) (roundOf w) (satOf w) c
      let bins := if real then L / 2 + 1 else L
      let row := fun (b : Nat) =>
        let x := (List.range L).map fun i => if real then (input b i, 0) else (input b (2 * i), input b (2 * i + 1))
        ((fft (flagOf w 0) S x).take bins).flatMap fun v =>
          let v : Cpx := (scaled v.1, scaled v.2)
          if flagOf w 3 then
            [out (toFp32 0 (Num.add false ((ofFp32 v.1).mul (ofFp32 v.1)) ((ofFp32 v.2).mul (ofFp32 v.2))))]
          else [out v.1, out v.2]
      (s.putRows t (locAt w 5) (descFmt (fmtD w)) (hi16 w 9) ((List.range (hi16 w 8)).map row) id |>.withTiles (hi16 w 8), s) }

/-- FFT (R167). -/
def execFft (p c core : Nat) (s : State) : Host.Outcome State Fault Refusal := settled s (s.issue 0x13 meaningFft p c core)

end Sys2Proof.Machine
end

