-- ==== Sys2Proof/Machine/Vector.lean ====
section
/-! DEFINITION. The vector strokes (R168 to R171) and the quantiser (R207 to R210): EWISE, PWL, REDUCE, NORM, SOFTMAX,
ROTATE and CONVERT. -/

namespace Sys2Proof.Machine

/-! ### Reads and writes of lanes (R131) -/

/-- An element widened to FP32. -/
def widenFp (f c : Nat) : Nat := toFp32 0 (decodeFmt f c)

/-- ROWS of a vector stroke. -/
def vRows (w : List Nat) : Nat := lo16 w 8
/-- COLS of a vector stroke. -/
def vCols (w : List Nat) : Nat := hi16 w 8

/-- The code of element (r, c) of A. -/
def State.aCode (s : State) (t : Site) (r c : Nat) : Nat := s.elem t (locAt t.w 1) (descFmt (fmtA t.w)) (vRows t.w) (lo16 t.w 9) r c

/-- Row r of A in FP32. -/
def State.aRow (s : State) (t : Site) (r : Nat) : List Nat :=
  (List.range (vCols t.w)).map fun c => widenFp (descFmt (fmtA t.w)) (s.aCode t r c)

/-- An FP32 value as D holds it. -/
def toD (w : List Nat) (c : Nat) : Elem := fpOut (descFmt (fmtD w)) (roundOf w) (satOf w) c

/-- An INT32 value as D holds it, with the flags of its operation. -/
def intToD (w : List Nat) (i : Int × Flags) : Elem :=
  let e := convertCode 9 (descFmt (fmtD w)) (roundOf w) (satOf w) (unsigned 32 i.1)
  (e.1, e.2.join i.2)

/-- The tiles of a vector stroke: 64 rows each (R145). -/
def vTiles (w : List Nat) : Nat := (vRows w + 63) / 64

/-- The effect of a vector stroke that writes rows of D; the last tile writes the one row of a reduction along columns. -/
def State.putD (s : State) (t : Site) (rows : List (List Elem)) : Effect :=
  (s.putRows t (locAt t.w 5) (descFmt (fmtD t.w)) (lo16 t.w 10) rows fun r => if rows.length < vRows t.w then vTiles t.w - 1 else r / 64).withTiles
    (vTiles t.w)

/-- A stroke that writes ROWS × COLS elements, each row from its row of A. -/
def State.rowwise (s : State) (t : Site) (f : Nat → List Nat → List Nat) : Effect :=
  s.putD t ((List.range (vRows t.w)).map fun r => (f r (s.aRow t r)).map (toD t.w))

/-! ### EWISE (R170) -/

/-- A floating-point operation of EWISE; b is INT32 for SCALE2. -/
def ewiseFp (op mode a b imm2 : Nat) (k : Int) : Nat :=
  match op with
  | 0x01 => fpAdd mode a b
  | 0x02 => fpSub mode a b
  | 0x03 => fpMul mode a b
  | 0x04 => fpFma mode a b imm2
  | 0x05 => fpMin a b
  | 0x06 => fpMax a b
  | 0x07 => if ofFp32 a = .nan then fp32.nan else a % 2 ^ 31
  | 0x08 => if ofFp32 a = .nan then fp32.nan else if a.testBit 31 then a - 2 ^ 31 else a + 2 ^ 31
  | 0x09 => if (ofFp32 a).lt (ofFp32 b) then fpOne else 0
  | _ => toFp32 mode ((ofFp32 a).scale (clampInt (-600) 600 k))

/-- An integer operation of EWISE on INT32 (R142). -/
def ewiseInt (op : Nat) (a b : Int) : Int × Flags :=
  let k := (b % 32).toNat
  let u := unsigned 32
  match op with
  | 0x20 => satInt32 (a + b)
  | 0x21 => satInt32 (a - b)
  | 0x22 => sla32 a k
  | 0x23 => (signed 32 (u a / 2 ^ k), noFlags)
  | 0x24 => (a / 2 ^ k, noFlags)
  | 0x25 => (signed 32 (u a &&& u b), noFlags)
  | 0x26 => (signed 32 (u a ||| u b), noFlags)
  | 0x27 => (signed 32 (u a ^^^ u b), noFlags)
  | 0x28 => (min a b, noFlags)
  | _ => (max a b, noFlags)

/-- The code of B for element (r, c) under B_MODE. -/
def State.bCode (s : State) (t : Site) (r c : Nat) : Nat :=
  let w := t.w
  let mode := bits (wd w 0) 9 8
  s.elem t (locAt w 3) (descFmt (fmtB w)) (if mode = 2 then 1 else vRows w) (hi16 w 9) (if mode = 2 then 0 else r) (if mode = 1 then 0 else c)

/-- EWISE (R170). -/
def meaningEwise : Meaning :=
  { units := unitsOf,
    run := fun t s =>
      let w := t.w
      let op := bits (wd w 11) 7 0
      let imm := bits (wd w 0) 9 8 == 3
      let fa := descFmt (fmtA w)
      let fb := descFmt (fmtB w)
      let one := fun (r c : Nat) =>
        let a := s.aCode t r c
        let b := if op = 7 ∨ op = 8 ∨ imm then 0 else s.bCode t r c
        if 0x20 ≤ op then intToD w (ewiseInt op (intCode fa a) (if imm then signed 32 (wd w 12) else intCode fb b))
        else
          let k : Int := if imm then signed 32 (wd w 12) else if isIntFmt fb ∨ fb = 17 then intCode fb b
            else (toIntRange (roundOf w) (-2147483648) 2147483647 (decodeFmt fb b)).1
          toD w (ewiseFp op (roundOf w) (widenFp fa a) (if imm then wd w 12 else widenFp fb b) (wd w 13) k)
      (s.putD t ((List.range (vRows w)).map fun r => (List.range (vCols w)).map fun c => one r c), s) }

/-- EWISE (R170). -/
def execEwise (p c core : Nat) (s : State) : Host.Outcome State Fault Refusal := settled s (s.issue 0x18 meaningEwise p c core)

/-! ### PWL (R93, R94) -/

/-- PWL (R169). -/
def meaningPwl : Meaning :=
  { units := unitsOf,
    run := fun t s =>
      let n := if flagOf t.w 0 then 32 else 16
      let table := pwlTable n (s.readSpad t (bits (wd t.w 11) 20 0) (12 * n))
      if pwlOk table then (s.rowwise t fun _ row => row.map (pwlEval table), s) else ({ fault := 0x0106 }, s) }

/-- PWL (R169). -/
def execPwl (p c core : Nat) (s : State) : Host.Outcome State Fault Refusal := settled s (s.issue 0x19 meaningPwl p c core)

/-! ### REDUCE (R171) -/

/-- −0 in FP32. -/
def fpNegZero : Nat := 0x80000000

/-- A reduction's step, combination and identity: SUM, MAX, MIN and SUMSQ. -/
def reduceOps (op mode : Nat) : (Nat → Nat → Nat) × (Nat → Nat → Nat) × Nat :=
  match op with
  | 1 => (fpAdd mode, fpAdd mode, fpNegZero)
  | 2 => (fpMax, fpMax, fpNegInf)
  | 3 => (fpMin, fpMin, fpInf)
  | _ => (fun acc x => fpFma mode x x acc, fpAdd mode, fpNegZero)

/-- The index of the first greatest (or least) element that is not a NaN, −1 where there is none. -/
def argBest (most : Bool) (l : List Nat) : Int :=
  (l.zipIdx.foldl (fun (r : Int × Nat) e =>
    let x := ofFp32 e.1
    if x = .nan then r
    else if r.1 < 0 ∨ (if most then (ofFp32 r.2).lt x else x.lt (ofFp32 r.2)) then ((e.2 : Int), e.1) else r) (-1, 0)).1

/-- REDUCE (R171). -/
def meaningReduce : Meaning :=
  { units := unitsOf,
    run := fun t s =>
      let w := t.w
      let op := bits (wd w 11) 7 0
      let ops := reduceOps op (roundOf w)
      let column := fun (c : Nat) => (List.range (vRows w)).map fun r => widenFp (descFmt (fmtA w)) (s.aCode t r c)
      let one := fun (line : List Nat) (along : Bool) =>
        if op = 5 ∨ op = 6 then intToD w (argBest (op == 5) line, noFlags)
        else toD w (if along then reduceRow ops.1 ops.2.1 ops.2.2 line else line.foldl ops.1 ops.2.2)
      let rows := if flagOf w 0 then [(List.range (vCols w)).map fun c => one (column c) false]
        else (List.range (vRows w)).map fun r => [one (s.aRow t r) true]
      (s.putD t rows, s) }

/-- REDUCE (R171). -/
def execReduce (p c core : Nat) (s : State) : Host.Outcome State Fault Refusal := settled s (s.issue 0x1A meaningReduce p c core)

/-! ### NORM and SOFTMAX (R171) -/

/-- The rows of a NORM. -/
def normRow (rms : Bool) (eps : Nat) (gamma beta : Nat → Nat) (row : List Nat) : List Nat :=
  let r := fpInvNat row.length
  let sum := reduceRow (fpAdd 0) (fpAdd 0) fpNegZero
  let sq := reduceRow (fun acc x => fpFma 0 x x acc) (fpAdd 0) fpNegZero
  let d := if rms then row else
    let mean := fpMul 0 (sum row) r
    row.map fun x => fpSub 0 x mean
  let inverse := fpRsqrt (fpAdd 0 (fpMul 0 (sq d) r) eps)
  d.zipIdx.map fun e => fpFma 0 (fpMul 0 e.1 inverse) (gamma e.2) (beta e.2)

/-- NORM (R171). -/
def meaningNorm : Meaning :=
  { units := unitsOf,
    run := fun t s =>
      let w := t.w
      let gamma := fun (i : Nat) => if flagOf w 1 then s.fpTable t (wd w 12) i else fpOne
      let beta := fun (i : Nat) => if flagOf w 2 then s.fpTable t (wd w 13) i else 0
      (s.rowwise t fun _ row => normRow (flagOf w 0) (wd w 11) gamma beta row, s) }

/-- NORM (R171). -/
def execNorm (p c core : Nat) (s : State) : Host.Outcome State Fault Refusal := settled s (s.issue 0x1B meaningNorm p c core)

/-- The rows of a SOFTMAX: `keep` says which elements are kept. -/
def softmaxRow (scale : Nat) (keep : Nat → Bool) (row : List Nat) : List Nat :=
  let l := row.zipIdx.map fun e => if keep e.2 then some (fpMul 0 scale e.1) else none
  if l.all (·.isNone) then l.map fun _ => 0
  else
    let step := fun (st : Nat × Nat) (x : Option Nat) => match x with
      | some v => runningAdd st v
      | none => st
    let st := reduceRow step runningJoin (fpNegInf, 0) l
    let inv := fpRecip st.2
    l.map fun x => match x with
      | some v => fpMul 0 (fpExp (fpSub 0 v st.1)) inv
      | none => 0

/-- SOFTMAX (R171). -/
def meaningSoftmax : Meaning :=
  { units := unitsOf,
    run := fun t s =>
      let w := t.w
      let lines := (vCols w + 511) / 512
      let kept := fun (r c : Nat) =>
        (!flagOf w 0 || ((s.readSpad t (wd w 12 + r * lines * 64 + c / 8) 1).headD 0).toNat.testBit (c % 8)) &&
        (!flagOf w 1 || decide ((c : Int) ≤ (r : Int) + signed 32 (wd w 13)))
      (s.rowwise t fun r row => softmaxRow (wd w 11) (kept r) row, s) }

/-- SOFTMAX (R171). -/
def execSoftmax (p c core : Nat) (s : State) : Host.Outcome State Fault Refusal := settled s (s.issue 0x1C meaningSoftmax p c core)

/-! ### ROTATE (R96, R211) -/

/-- ROTATE (R169). -/
def meaningRotate : Meaning :=
  { units := unitsOf,
    run := fun t s =>
      let k := 5 + wd t.w 11 % 4
      (s.rowwise t fun _ row => (chunks (2 ^ k) row.length row).flatMap (hadamard k), s) }

/-- ROTATE (R169). -/
def execRotate (p c core : Nat) (s : State) : Host.Outcome State Fault Refusal := settled s (s.issue 0x1D meaningRotate p c core)

/-! ### The quantiser (R207 to R210) -/

/-- The quotient of two dyadic values rounded to a whole number under ROUND; the divisor is not 0. -/
def divRound (mode : Nat) (x s : Int × Int) : Int :=
  let f := min x.2 s.2
  let a := (alignTo x.1 x.2 f).natAbs
  let b := (alignTo s.1 s.2 f).natAbs
  let neg := decide (x.1 < 0) != decide (s.1 < 0)
  let n := a / b + b01 (roundsUp mode neg (a / b) (a % b) b)
  if neg then -(n : Int) else (n : Int)

/-- Whether a number is finite. -/
def Num.finite : Num → Bool
  | .nan => false
  | .inf _ => false
  | _ => true

/-- The largest magnitude of a group. -/
def amaxOf (g : List Num) : Int × Int :=
  g.foldl (fun a x => let d : Int × Int := ((x.dy.1.natAbs : Int), x.dy.2); if dyLt a d then d else a) (0, 0)

/-- Qmax of VG8 or VG4. -/
def qmax (f : Nat) : Int := if f = 14 then 127 else 7

/-- Codes, scale and flags of a group. -/
abbrev Group := List Elem × Nat

/-- A VG group whose scale is derived (R208). -/
def vgDerive (f mode : Nat) (g : List Num) : Group :=
  if g.any (!·.finite) then (g.map fun _ => (0, nanFlag), 0x7FC0)
  else
    let a := amaxOf g
    if a.1 = 0 then (g.map fun _ => (0, noFlags), 0)
    else
      let sc := (bf16.encode 3 false false (quotDy a.1 a.2 (qmax f) 0)).1
      (g.map fun x => (unsigned (fmtWidth f) (divRound mode x.dy (bf16.decode sc).dy), noFlags), sc)

/-- One element of a VG group whose scale is given (R210). -/
def vgGivenElem (f mode : Nat) (sc : Num) (x : Num) : Elem :=
  let q := qmax f
  let put := fun (i : Int) => unsigned (fmtWidth f) i
  let edge := fun (neg : Bool) => ((put (if neg then -q else q), satFlag) : Elem)
  match sc, x with
  | .nan, _ => (0, nanFlag)
  | _, .nan => (0, nanFlag)
  | s, .inf n => edge (n != s.neg)
  | .zero _, .zero _ => (0, noFlags)
  | .zero n, y => edge (y.neg != n)
  | s, y =>
    let i := divRound mode y.dy s.dy
    if i < -q then edge true else if q < i then edge false else (put i, noFlags)

/-- The smallest k with amax ≤ Emax × 2^k, held to −127 to 127 (R209). -/
def mxExponent (F : Flt) (a : Int × Int) : Int :=
  let e := (F.decode F.maxCode).dy
  let k : Int := ((Nat.log2 a.1.natAbs : Nat) : Int) + a.2 - (((Nat.log2 e.1.natAbs : Nat) : Int) + e.2)
  clampInt (-127) 127 (if dyLt (e.1, e.2 + k) a then k + 1 else k)

/-- An MX block under an exponent. -/
def mxElems (f mode : Nat) (sat : Bool) (k : Int) (g : List Num) : List Elem := g.map fun x => encodeFmt 1 f mode sat (x.scale (-k))

/-- An MX block whose scale is derived (R209). -/
def mxDerive (f mode : Nat) (sat : Bool) (F : Flt) (g : List Num) : Group :=
  if g.any (!·.finite) then (g.map fun _ => (0, nanFlag), 0xFF)
  else
    let a := amaxOf g
    if a.1 = 0 then (g.map fun _ => (0, noFlags), 0)
    else
      let k := mxExponent F a
      (mxElems f mode sat k g, (k + 127).toNat)

/-- A group quantised into a form: with a given scale or one that is derived (R208 to R210). DESIGN CHOICE (assumption 63): a given BF16 scale
that is a NaN is copied to D as given, its sign and payload included. -/
def quantise (f mode : Nat) (sat : Bool) (given : Option Nat) (g : List Num) : Group :=
  match fltOf f, given with
  | none, none => vgDerive f mode g
  | none, some sc => (g.map (vgGivenElem f mode (scaleOf f sc)), sc)
  | some F, none => mxDerive f mode sat F g
  | some _, some sc =>
    if sc = 0xFF then (g.map fun _ => (0, nanFlag), sc) else (mxElems f mode sat ((sc : Int) - 127) g, sc)

/-! ### CONVERT -/

/-- The exact value of element (r, c) of a CONVERT's source (R132, R140). -/
def State.convertValue (s : State) (t : Site) (r c : Nat) : Num :=
  let w := t.w
  let d := fmtA w
  if descGrouped d then
    let e := s.panelElem t (locAt w 1) d (vCols w) (lo16 w 9) (panelDepth d) r c
    e.1.mul e.2
  else if descFmt d = 16 then
    let e := s.elem t (locAt w 3) 11 (vRows w) (hi16 w 9) r 0
    s40Value (signed 32 (s.aCode t r c)) (signed 8 e)
  else decodeFmt (descFmt d) (s.aCode t r c)

/-- The writes and flags of a CONVERT into a grouped form: row `r` of panels (R169). -/
def State.groupedRow (s : State) (t : Site) (r : Nat) : List Write × Flags :=
  let w := t.w
  let d := fmtD w
  let f := descFmt d
  let P := panelDepth d
  let G := groupSize d
  let np := (vCols w + P - 1) / P
  let D := locAt w 5
  let v := r % 64
  let sb := scaleBytes f
  let one := fun (k : Nat) =>
    let base := D.off + ((r / 64) * np + k) * lo16 w 10 * 64
    let groups := (List.range (P / G)).map fun g =>
      let vals := (List.range G).map fun i =>
        let c := k * P + g * G + i
        if c < vCols w then s.convertValue t r c else Num.zero false
      let given := if flagOf w 0 then
          let b := locAt w 3
          some (ofLE (s.readLoc t b (b.off + ((r / 64) * np + k) * hi16 w 9 * 64 + v * (P / G) * sb + g * sb) sb))
        else none
      quantise f (roundOf w) (satOf w) given vals
    let codes := groups.flatMap (·.1)
    let data := s.writeLoc t D (base + v * P * fmtWidth f / 8) (packCodes (fmtWidth f) (codes.map (·.1)))
    let scales := s.writeLoc t D (base + scaleOffset d v 0) (groups.flatMap fun g => le sb g.2)
    (inTile (r / 64) [data, scales], codes.foldl (fun a e => a.join e.2) noFlags)
  let all := (List.range np).map one
  (all.flatMap (·.1), all.foldl (fun a e => a.join e.2) noFlags)

/-- CONVERT (R130, R140, R169). -/
def meaningConvert : Meaning :=
  { units := unitsOf,
    run := fun t s =>
      let w := t.w
      let d := fmtD w
      let fa := descFmt (fmtA w)
      let plain := !descGrouped (fmtA w) && fa != 16
      if descGrouped d then
        let rows := (List.range (vRows w)).map (s.groupedRow t)
        ({ writes := rows.flatMap (·.1), flags := rows.foldl (fun a e => a.join e.2) noFlags, elements := vRows w * vCols w,
            tiles := vTiles w }, s)
      else
        let one := fun (r c : Nat) =>
          if descFmt d = 16 then
            let m := s40Mantissa (roundOf w) (signed 8 (wd w 11)) (s.convertValue t r c)
            ((unsigned 32 m.1, m.2) : Elem)
          else if plain then convertCode fa (descFmt d) (roundOf w) (satOf w) (s.aCode t r c)
          else encodeFmt 1 (descFmt d) (roundOf w) (satOf w) (s.convertValue t r c)
        (s.putD t ((List.range (vRows w)).map fun r => (List.range (vCols w)).map fun c => one r c), s) }

/-- CONVERT (R169). -/
def execConvert (p c core : Nat) (s : State) : Host.Outcome State Fault Refusal := settled s (s.issue 0x1E meaningConvert p c core)

end Sys2Proof.Machine
end

