-- ==== Sys2Proof/Machine/Attention.lean ====
section
/-! DEFINITION. The attention strokes (R172 to R174, R233 to R239, R248): ATTN_DECODE, ATTN_PREFILL, KV_APPEND and
KV_PUBLISH. -/

namespace Sys2Proof.Machine

/-! ### The walker (R233) -/

/-- Whether a sequence has a row in the current step of a context. -/
def State.inStep (s : State) (t : Site) (o : Obj) : Bool :=
  match (s.ctx t.p t.c).flight with
  | some f => f.seqRows.any fun r => r.1 == o.owner && r.2.1 == o.index
  | none => false

/-- The sequence a stroke uses, or the code of R233. -/
def State.kvSeq (s : State) (t : Site) (l : Loc) (layer head hd fmt : Nat) : Except Nat Obj :=
  match s.bound t l.obj with
  | none => .error 0x0607
  | some o =>
    let pool := s.pool o.owner (o.u 4 1)
    if o.kind ≠ 3 ∨ l.off ≠ 0 ∨ o.u 8 2 ≤ layer ∨ o.u 10 2 ≤ head ∨ pool.2.1 ≠ hd ∨ pool.1 ≠ fmt then .error 0x0607
    else if !s.inStep t o then .error 0x0610
    else .ok o

/-- The entry of the active copy for a global page that this part holds. -/
def Obj.pageEntry (o : Obj) (layer head g : Nat) : Option Nat := (o.localPage? g).map fun j => o.entry o.active (o.entryIndex layer head j)

/-- The code of the first page, in order, whose entry fails the walker's checks; 0 where none does. -/
def State.walkCode (s : State) (t : Site) (o : Obj) (layer head : Nat) (pages : List Nat) : Nat :=
  (pages.findSome? fun g => match o.pageEntry layer head g with
    | none => none
    | some e => let c := s.entryCode t.p (o.u 4 1) e; if c = 0 then none else some c).getD 0

/-- A look-up of a page-table line in the page cache of a core (R234): a hit, or a miss that reads the line through the tile cache and takes an
entry, a free one of the eight or, where there is none, any of them. -/
def State.walkLine (p slot : Nat) (o : Obj) (s : State) (line : Nat) : State :=
  let tag := (o.key, o.active, line)
  if (s.slot slot).walked.contains tag then s.countKv p 7 1
  else
    let s := (s.countKv p 8 1).cacheSpan p o (o.copyAt o.active + 64 + 128 * line) 128 false false
    if (s.slot slot).walked.length < 8 then s.modSlot slot fun x => { x with walked := x.walked ++ [tag] }
    else
      let t := s.free
      t.2.modSlot slot fun x => { x with walked := x.walked.set (t.1 % 8) tag }

/-- The walker reads the entries of some pages for a stroke (R233, R234). -/
def State.walk (t : Site) (o : Obj) (layer head : Nat) (pages : List Nat) (s : State) : State :=
  (pages.filterMap fun g => (o.localPage? g).map fun j => o.entryIndex layer head j / 16).foldl (State.walkLine t.p t.slot o) s

/-- Where a page of a pool begins, from its entry. -/
def frameAt (e : Nat) : Nat := entryFrame e * 4096

/-- P for a cache format (R226). -/
def cacheP (fmt : Nat) : Nat := if fmtWidth fmt = 16 then 32 else 64
/-- Where element d of position i lies in a K block (R227). -/
def kAt (fmt i d : Nat) : Nat := let b := fmtWidth fmt / 8; d / cacheP fmt * 4096 + i * cacheP fmt * b + d % cacheP fmt * b
/-- Where element d of position i lies in a V block (R227). -/
def vAt (fmt hd i d : Nat) : Nat :=
  let b := fmtWidth fmt / 8
  64 * hd * b + (d / 64 * (64 / cacheP fmt) + i / cacheP fmt) * 4096 + d % 64 * cacheP fmt * b + i % cacheP fmt * b

/-! ### One query row (R236) -/

/-- A query row's state: m, s and the numerator. -/
structure Row where
  m : Nat := fpNegInf
  s : Nat := 0
  a : List Nat

/-- What one page adds to a query row: `k` and `v` give the page's elements, `att` the attended positions and
`live` those below LENGTH. -/
def Row.page (pr : Pairing) (fa scale hd : Nat) (q : List Nat) (k v : Nat → Nat → Num) (att live : Nat → Bool) (r : Row) : Row :=
  let dot := fun (j : Nat) => (accumulate pr 0 (q.zipIdx.map fun e => (((decodeFmt fa e.1, .num 1 0), (k j e.2, .num 1 0)) : ScaledElem × ScaledElem))).1
  let l := (List.range 64).map fun j => if att j then some (fpMul 0 scale (dot j)) else none
  let m := (l.filterMap id).foldl fpMax r.m
  let alpha := expStep r.m m
  let p := l.map fun x => match x with
    | some x => fpExp (fpSub 0 x m)
    | none => 0
  let one := fun (d a : Nat) => (accumulate pr (fpMul 0 a alpha) (p.zipIdx.map fun e =>
    if live e.2 then (((decodeFmt fa (encodeFmt 1 fa 0 false (ofFp32 e.1)).1, .num 1 0), (v e.2 d, .num 1 0)) : ScaledElem × ScaledElem)
    else ((.zero false, .num 1 0), (.zero false, .num 1 0)))).1
  { m := m, s := fpFma 0 r.s alpha (laneTree (fpAdd 0) 0 p), a := ((List.range hd).zip r.a).map fun e => one e.1 e.2 }

/-- The positions a query attends: from `lo` up to but not including `hi`. -/
structure Span where
  lo : Nat
  hi : Nat

/-- The span of a query that sees `n` positions, under WINDOW. -/
def spanOf (n window : Nat) : Span := { lo := if window = 0 then 0 else n - window, hi := n }

/-- The global pages a span touches on this part, ascending. -/
def Span.pages (x : Span) (o : Obj) : List Nat :=
  if x.hi ≤ x.lo then [] else ((List.range ((x.hi - 1) / 64 + 1 - x.lo / 64)).map (x.lo / 64 + ·)).filter fun g => (o.localPage? g).isSome

/-- A query row over the pages of its span. -/
def State.attend (s : State) (t : Site) (o : Obj) (layer head hd : Nat) (pr : Pairing) (x : Span) (q : List Nat) : Row :=
  let fb := descFmt (fmtB t.w)
  let content := match s.objAt t.p (8188 + o.u 4 1) with
    | some pool => pool.content
    | none => []
  let b := fmtWidth fb / 8
  (x.pages o).foldl (fun r g =>
    let base := frameAt ((o.pageEntry layer head g).getD 0)
    let el := fun (at_ : Nat) => decodeFmt fb (ofLE (memRead content (base + at_) b))
    r.page pr (descFmt (fmtA t.w)) (wd t.w 11) hd q (fun j d => el (kAt fb j d)) (fun j d => el (vAt fb hd j d))
      (fun j => decide (x.lo ≤ 64 * g + j) && decide (64 * g + j < x.hi)) (fun j => decide (64 * g + j < o.length)))
    { a := List.replicate hd 0 }

/-- What the attention strokes write, a row for each query row (R237). -/
def State.attnOut (s : State) (t : Site) (hd : Nat) (rows : List Row) : Effect :=
  let w := t.w
  let d := locAt w 5
  let fd := descFmt (fmtD w)
  if d.space = 2 then
    let e := s.putRows t d 1 0 (rows.map fun r => r.a.map fun c => ((c, fpFlags c) : Elem))
    let ms := rows.zipIdx.map fun r => s.writeLoc t d (d.off + (hd / 64 * rows.length + r.2) * 256) (le 4 r.1.m ++ le 4 r.1.s)
    { e with writes := e.writes ++ ms }
  else s.putRows t d fd ((hd * fmtWidth fd + 511) / 512) (rows.map fun r => r.a.map fun c =>
      if r.m = fpNegInf ∧ r.s = 0 then ((0, noFlags) : Elem) else toD w (fpMul 0 c (fpRecip r.s)))

/-- An attention stroke over the spans of its query positions (R173, R236, R238). -/
def State.attention (t : Site) (spans : Obj → Except Nat (List Span)) (s : State) : Effect × State :=
  let w := t.w
  let hdc := bits (wd w 8) 9 8
  let hd := headDim hdc
  let layer := hi16 w 8
  let head := lo16 w 9
  match s.kvSeq t (locAt w 3) layer head hdc (fmtB w), pairing (fmtA w) (fmtB w) with
  | .error c, _ => ({ fault := c }, s)
  | _, none => ({ fault := 0x0102 }, s)
  | .ok o, some pr =>
    match spans o with
    | .error c => ({ fault := c }, s)
    | .ok xs =>
      let pages := (xs.flatMap fun x => x.pages o).eraseDups
      let code := s.walkCode t o layer head pages
      if code ≠ 0 then ({ fault := code }, s.walk t o layer head pages)
      else
        let group := bits (wd w 8) 7 0
        let fa := descFmt (fmtA w)
        let n := group * xs.length
        let q := fun (r : Nat) => (List.range hd).map fun d => s.elem t (locAt w 1) fa n ((hd * fmtWidth fa + 511) / 512) r d
        let rows := xs.zipIdx.flatMap fun x => (List.range group).map fun g => s.attend t o layer head hd pr x.1 (q (x.2 * group + g))
        ((s.attnOut t hd rows).withTiles (max 1 pages.length), s.walk t o layer head pages)

/-- ATTN_DECODE (R235, R236). -/
def meaningAttnDecode : Meaning :=
  { units := unitsOf,
    reads := fun _ _ => [],
    run := fun t s => s.attention t (fun o =>
      let n := if wd t.w 10 = 0 then o.length else wd t.w 10
      if o.length < n then .error 0x0608 else .ok [spanOf n (wd t.w 12)]) }

/-- ATTN_DECODE (R172). -/
def execAttnDecode (p c core : Nat) (s : State) : Host.Outcome State Fault Refusal := settled s (s.issue 0x20 meaningAttnDecode p c core)

/-- ATTN_PREFILL (R238): a query at or beyond LENGTH is padding. -/
def meaningAttnPrefill : Meaning :=
  { units := unitsOf,
    reads := fun _ _ => [],
    run := fun t s => s.attention t (fun o =>
      let first := if wd t.w 13 = 0xFFFFFFFF then o.u 24 4 else wd t.w 13
      .ok ((List.range (lo16 t.w 10)).map fun i => if o.length ≤ first + i then ({ lo := 0, hi := 0 } : Span) else spanOf (first + i + 1) (wd t.w 12))) }

/-- ATTN_PREFILL (R172). -/
def execAttnPrefill (p c core : Nat) (s : State) : Host.Outcome State Fault Refusal := settled s (s.issue 0x21 meaningAttnPrefill p c core)

/-! ### KV_APPEND (R239) -/

/-- KV_APPEND (R235, R239). -/
def meaningKvAppend : Meaning :=
  { units := unitsOf,
    reads := fun _ _ => [],
    run := fun t s =>
      let w := t.w
      let hdc := bits (wd w 8) 17 16
      let hd := headDim hdc
      let head := lo16 w 9
      let layer := hi16 w 9
      match s.kvSeq t (locAt w 5) layer head hdc (fmtD w) with
      | .error c => ({ fault := c }, s)
      | .ok o =>
        let first := if wd w 10 = 0xFFFFFFFF then o.u 24 4 else wd w 10
        if first < o.u 24 4 then ({ fault := 0x0608 }, s)
        else
          let fa := descFmt (fmtA w)
          let fd := descFmt (fmtD w)
          let b := fmtWidth fd / 8
          let rows := (List.range (lo16 w 8)).filter fun i => decide (first + i < o.u 28 4) && (o.localPage? ((first + i) / 64)).isSome
          let entry := fun (i : Nat) => (o.pageEntry layer head ((first + i) / 64)).getD 0
          let ok := fun (i : Nat) => s.entryCode t.p (o.u 4 1) (entry i) == 0
          let out := fun (l : Loc) (stride i d : Nat) => convertCode fa fd (roundOf w) (satOf w) (s.elem t l fa (lo16 w 8) stride i d)
          let elems := (rows.takeWhile ok).flatMap fun i => (List.range hd).flatMap fun d =>
            let base := frameAt (entry i)
            [(base + kAt fd ((first + i) % 64) d, out (locAt w 1) (lo16 w 11) i d), (base + vAt fd hd ((first + i) % 64) d, out (locAt w 3) (hi16 w 11) i d)]
          ({ writes := elems.map fun e => { space := 3, place := t.p * 8192 + 8188 + o.u 4 1, addr := e.1, bytes := le b e.2.1 },
             flags := elems.foldl (fun f e => f.join e.2.2) noFlags,
             elements := elems.length,
             fault := match rows.find? fun i => !ok i with
               | some i => s.entryCode t.p (o.u 4 1) (entry i)
               | none => 0 }, s.walk t o layer head (rows.map fun i => (first + i) / 64).eraseDups) }

/-- KV_APPEND (R172). -/
def execKvAppend (p c core : Nat) (s : State) : Host.Outcome State Fault Refusal := settled s (s.issue 0x22 meaningKvAppend p c core)

/-! ### KV_PUBLISH (R174, R248) -/

/-- The generation a KV_PUBLISH takes, or the code it fails with. -/
def State.publishCode (s : State) (t : Site) : Except Nat (Obj × Nat) :=
  let w := t.w
  match s.bound t (locAt w 1).obj with
  | none => .error 0x0607
  | some o =>
    if o.kind ≠ 3 ∨ (locAt w 1).off ≠ 0 then .error 0x0607
    else if !s.inStep t o then .error 0x0610
    else if o.u 33 1 = 2 then .error 0x0609
    else
      let copy := wd w 3 % 2
      let g := lo16 w 4
      let gen := if g = 0 then o.u (o.copyAt (1 - o.active)) 2 else g
      if (if g = 0 then copy ≠ 0 else copy = o.active) ∨ gen = 0 ∨ gen = o.u 34 2 then .error 0x060A else .ok (o, gen)

/-- KV_PUBLISH (R174). -/
def meaningKvPublish : Meaning :=
  { reads := fun _ _ => [],
    run := fun t s =>
      match s.publishCode t with
      | .error c => ({ fault := c }, s)
      | .ok (o, gen) =>
        ({}, (s.modObj o.owner o.index (·.setU 33 1 2)).modFlight t.p t.c fun f => { f with publishes := f.publishes ++ [(o.owner, o.index, gen)] }) }

/-- KV_PUBLISH (R172). -/
def execKvPublish (p c core : Nat) (s : State) : Host.Outcome State Fault Refusal := settled s (s.issue 0x23 meaningKvPublish p c core)

end Sys2Proof.Machine
end

