-- ==== Sys2Proof/Machine/Recurrent.lean ====
section
/-! DEFINITION. The stream strokes (R175, R176, R263 to R276): STREAM_STEP, STREAM_GATES, STREAM_RENORM and
STREAM_MOVE. -/

namespace Sys2Proof.Machine

/-! ### S40 vectors -/

/-- A vector of S40 state: its mantissas and its exponent. -/
abbrev Vec := List Int × Int

/-- The exact value of an element. -/
def Vec.at (v : Vec) (e : Nat) : Num := s40Value (v.1.getD e 0) v.2

/-- An element as FP32, with RNE (R267). -/
def Vec.cvt (v : Vec) (e : Nat) : Nat := toFp32 0 (v.at e)

/-- A state write (R268): the values under the smallest exponent at or above EXP that holds them all. -/
def writeVec (mode : Nat) (xs : List Num) (e : Int) : Vec × Flags :=
  let fits := fun (k : Nat) => xs.all fun x => !x.finite || !(s40Mantissa mode (e + k) x).2.saturated
  let e' : Int := match (List.range (128 - e).toNat).find? fits with
    | some k => e + k
    | none => 127
  let ms := xs.map (s40Mantissa mode e')
  ((ms.map (·.1), e'), ms.foldl (fun f m => f.join m.2) noFlags)

/-! ### Slots of a stroke's rows -/

/-- A row of a stream stroke: skipped, or the slot it advances. -/
inductive SRow where
  | skip
  | live (id : Nat)
deriving DecidableEq, Repr

/-- The flight of a stroke's context. -/
def State.flightOf (s : State) (t : Site) : Option Flight := (s.ctx t.p t.c).flight

/-- The row of the step that a slot has. -/
def State.chunkRow (s : State) (t : Site) (id : Nat) : Option StreamRow :=
  (s.flightOf t).bind fun f => f.streamRows.find? fun r => r.slot == id

/-- Whether a listed slot has been released (R176, R286). -/
def State.slotReleased (s : State) (t : Site) (id : Nat) : Bool :=
  match s.chunkRow t id with
  | some r => r.released || !(s.streamSlot id).opened
  | none => !(s.streamSlot id).opened

/-- A listed slot: SLOT_NOT_HOME, or its row. -/
def State.sRow (s : State) (t : Site) (id : Nat) : Except Nat SRow :=
  if id = 0xFFFF then .ok .skip
  else if 2047 < id ∨ s.streamOwner id ≠ t.p then .error 0x0502
  else if s.slotReleased t id then .ok .skip
  else if (s.streamSlot id).home ≠ t.core then .error 0x0502
  else .ok (.live id)

/-- The rows of a slot list of `n` entries, or the first fault. -/
def State.sRows (s : State) (t : Site) (off n : Nat) : Except Nat (List SRow) :=
  (List.range n).mapM fun b => s.sRow t (ofLE (s.readSpad t (off + 2 * b) 2))

/-- Whether a row of a slot list met SLOT_RELEASED. -/
def State.sawReleasedIn (s : State) (t : Site) (off n : Nat) : Bool :=
  (List.range n).any fun b =>
    let id := ofLE (s.readSpad t (off + 2 * b) 2)
    id != 0xFFFF && decide (id ≤ 2047) && s.streamOwner id == t.p && s.slotReleased t id

/-- The code of a mark in a plane. -/
def State.markAt (s : State) (t : Site) (off k : Nat) : Nat := ((s.readSpad t (off + k / 4) 1).headD 0).toNat / 4 ^ (k % 4) % 4

/-- The frame of the chunk at which a stroke's time step 0 stands, from the place of its marks (R278). -/
def State.firstFrame (s : State) (t : Site) (off : Nat) : Nat :=
  match (s.flightOf t).bind fun f => s.boundIn f.binds 65533 with
  | some m =>
    let base := m.u 24 4
    if base ≠ 0 ∧ base ≤ off ∧ off < base + 64 * m.u 8 1 then (off - base) / 64 else 0
  | none => 0

/-- What each of a row's time steps does (R270): 0 advance, 1 reset and advance, 2 pause; END makes pauses of what
follows it. -/
def State.actions (s : State) (t : Site) (marks batch steps b id frame : Nat) : List Nat :=
  let before := match s.chunkRow t id with
    | some r => hasEnd frame r.marks
    | none => false
  ((List.range steps).foldl (fun (a : List Nat × Bool) k =>
    let m := s.markAt t marks (k * batch + b)
    let ended := a.2 || m == 3
    (a.1 ++ [if ended then 2 else m], ended)) ([], before)).1

/-- The vector v of a slot, with its descriptor. -/
def State.vecOf (s : State) (p id v : Nat) : VecDesc × Vec :=
  let r := s.slotRecord p id
  let d := vecDesc r v
  (d, (vecMantissas r d.row d.elems, d.exp))

/-- The reset value of a vector (R270). -/
def State.vecInit (s : State) (p id v : Nat) : Vec := let r := s.slotRecord p id; vecReset r (vecDesc r v)

/-- Whether a descriptor is as a stroke needs it (R264). -/
def State.vecFits (s : State) (p id v elems : Nat) : Bool :=
  let d := (s.vecOf p id v).1
  decide (v < 32) && d.row != 0 && d.elems == elems

/-- The writes that put a vector back. -/
def State.vecWrites (s : State) (p id v : Nat) (x : Vec) : List Write :=
  match s.slotOf p (s.streamSlot id).home with
  | none => []
  | some n =>
    let base := (s.streamSlot id).record * s.streamBytes
    let d := vecDesc (s.slotRecord p id) v
    [{ space := 4, place := n, addr := base + 256 * d.row, bytes := mantissaBytes x.1 },
     { space := 4, place := n, addr := base + 8 * v + 6, bytes := [byteOf (unsigned 8 x.2)] }]

/-- Whether a RESET of a vector at a frame is still to be performed (R271). -/
def State.resetPending (s : State) (t : Site) (id v frame : Nat) : Bool :=
  match s.flightOf t with
  | some f => !f.resetsDone.contains (id, v, frame)
  | none => true

/-- Notes what a stream stroke has done: slots written, resets performed, rows released. -/
def State.noteStream (t : Site) (slots : List Nat) (resets : List (Nat × Nat × Nat)) (released : Bool) (s : State) : State :=
  s.modFlight t.p t.c fun f => { f with
    slotsWritten := f.slotsWritten ++ slots.filter fun i => !f.slotsWritten.contains i
    resetsDone := f.resetsDone ++ resets.filter fun r => !f.resetsDone.contains r
    sawReleased := f.sawReleased || released }

/-! ### Cells (R266, R267, R275) -/

/-- The gate functions of a stroke: the sigmoid and the tanh. -/
structure Gates where
  sig : Nat → Nat
  tanh : Nat → Nat

/-- A pre-activation of a row. -/
def zAt (z : List Nat) (i : Nat) : Nat := z.getD i 0

/-- LSTM: h′ and c′ (R267). -/
def lstm (g : Gates) (mode H : Nat) (z : List Nat) (h c : Vec) : Vec × Vec × Flags :=
  let c' := writeVec mode ((List.range H).map fun e =>
    Num.add false ((ofFp32 (g.sig (zAt z (H + e)))).mul (c.at e)) (ofFp32 (fpMul 0 (g.sig (zAt z e)) (g.tanh (zAt z (2 * H + e)))))) c.2
  let h' := writeVec mode ((List.range H).map fun e => ofFp32 (fpMul 0 (g.sig (zAt z (3 * H + e))) (g.tanh (c'.1.cvt e)))) h.2
  (h'.1, c'.1, c'.2.join h'.2)

/-- GRU: h′ (R267). -/
def gru (g : Gates) (mode H : Nat) (z : List Nat) (h : Vec) : Vec × Flags :=
  writeVec mode ((List.range H).map fun e =>
    let r := g.sig (zAt z e)
    let u := g.sig (zAt z (H + e))
    let n := g.tanh (fpFma 0 r (zAt z (3 * H + e)) (zAt z (2 * H + e)))
    Num.add false ((ofFp32 u).mul (h.at e)) (ofFp32 (fpMul 0 (fpSub 0 fpOne u) n))) h.2

/-- σ5 (R275). -/
def sig5 (x : Nat) : Nat := fpRecip (fpAdd 0 fpOne (fpExp (toFp32 0 (ofFp32 x).negate)))

/-- t5 (R275): 2 × σ5(2x) − 1 as one fused multiply-add. -/
def tanh5 (x : Nat) : Nat := fpFma 0 0x40000000 (sig5 (toFp32 0 ((ofFp32 x).scale 1))) 0xBF800000

/-! ### STREAM_STEP -/

/-- Where a slot list, marks and steps of a STREAM_STEP stand. -/
def ssBatch (w : List Nat) : Nat := bits (wd w 8) 7 0
/-- STEPS of a STREAM_STEP. -/
def ssSteps (w : List Nat) : Nat := hi16 w 8

/-- The pre-activations of a row (R265): from row `r` of X and the recurrent inputs, in FMT_A; the reduction is padded to whole panels with +0. -/
def State.preact (s : State) (t : Site) (k : Block264) (pr : Pairing) (r : Nat) (rec_ : List Nat) : List Nat × Flags :=
  let w := t.w
  let l := locAt w 3
  let fa := descFmt (fmtA w)
  let I := hi16 w 12
  let sh := cellShape w
  let xs := (List.range I).map (fun i => decodeFmt fa (s.elem t (locAt w 1) fa (ssBatch w * ssSteps w) (lo16 w 11) r i)) ++ rec_.map (decodeFmt fa)
  let P := depthB w
  let xs := xs ++ List.replicate ((P - xs.length % P) % P) (Num.zero false)
  let panelsAt : Loc := { l with off := l.off + 64 }
  let table := fun (off i : Nat) => ofLE (s.readLoc t l (l.off + off + 4 * i) 4)
  let col := fun (c : Nat) =>
    let a := accumulate pr 0 (xs.zipIdx.map fun e => (((e.1, .num 1 0), s.panelElem t panelsAt (fmtB w) sh.2 (statBytes (fmtA w) (fmtB w) / 64) P c e.2) : ScaledElem × ScaledElem))
    let x := if pr.int then toFp32 0 (ofInt (signed 32 a.1)) else a.1
    let x := if k.scaleOff = 0 then x else fpMul (roundOf w) x (table k.scaleOff c)
    (if k.biasOff = 0 then x else fpAdd (roundOf w) x (table k.biasOff c), a.2)
  let cols := (List.range sh.1).map col
  (cols.map (·.1), cols.foldl (fun f e => f.join e.2) noFlags)

/-- The recurrent input of a vector (R265). -/
def recurrent (w : List Nat) (q H : Nat) (h : Vec) : List Nat :=
  (List.range H).map fun e => (encodeFmt 1 (descFmt (fmtA w)) (roundOf w) (satOf w) (ofFp32 (fpMul (roundOf w) (h.cvt e) q))).1

/-- What a row of a stroke comes to: the output codes of its time steps, its pre-activations (by time step, empty where
none were formed), the vectors that each tile writes and the resets it performs. -/
structure RowOut where
  out : List (List Elem)
  z : List (List Nat) := []
  vecs : List (List (Nat × Vec)) := []
  resets : List (Nat × Nat) := []
  flags : Flags := {}

/-- A row that is skipped or paused writes zeros. -/
def blankRow (H : Nat) : List Elem := List.replicate H (0, noFlags)

/-- LSTM and GRU over the time steps of a row. -/
def State.recurRow (s : State) (t : Site) (k : Block264) (pr : Pairing) (g : Gates) (b id frame : Nat) (acts : List Nat) : RowOut :=
  let w := t.w
  let H := lo16 w 12
  let isLstm := bits (wd w 14) 7 0 == 0x01
  let v := k.vec
  let reset := fun (x : Nat) (f : Nat) (old : Vec) => if s.resetPending t id x f then s.vecInit t.p id x else old
  let r := acts.zipIdx.foldl (fun (a : RowOut × Vec × Vec) act =>
    if act.1 = 2 then ({ a.1 with out := a.1.out ++ [blankRow H], z := a.1.z ++ [[]], vecs := a.1.vecs ++ [[]] }, a.2)
    else
      let f := frame + act.2
      let rs := act.1 == 1
      let h := if rs then reset v f a.2.1 else a.2.1
      let c := if rs ∧ isLstm then reset (v + 1) f a.2.2 else a.2.2
      let z := s.preact t k pr (act.2 * ssBatch w + b) (recurrent w k.qscale H h)
      let n : Vec × Vec × Flags := if isLstm then lstm g (roundOf w) H z.1 h c
        else let x := gru g (roundOf w) H z.1 h; (x.1, c, x.2)
      let out := (List.range H).map fun e => toD w (n.1.cvt e)
      ({ a.1 with out := a.1.out ++ [out], z := a.1.z ++ [z.1],
                  vecs := a.1.vecs ++ [(v, n.1) :: (if isLstm then [(v + 1, n.2.1)] else [])], flags := (a.1.flags.join z.2).join n.2.2,
                  resets := a.1.resets ++ (if rs then (v, f) :: (if isLstm then [(v + 1, f)] else []) else []) }, n.1, n.2.1))
    ({ out := [] }, (s.vecOf t.p id v).2, (s.vecOf t.p id (v + 1)).2)
  r.1

/-- An element of the scan (R272). -/
abbrev ScanElem := Nat × Nat × Bool

/-- One level of the segmented scan (R273). -/
def scanLevel (d : Nat) (p : List ScanElem) : List ScanElem :=
  p.zipIdx.map fun e =>
    if e.2 < d ∨ e.1.2.2 then e.1
    else
      let q := p.getD (e.2 - d) (fpOne, 0, false)
      (fpMul 0 e.1.1 q.1, fpFma 0 e.1.1 q.2.1 e.1.2.1, q.2.2)

/-- ⌈log₂ n⌉. -/
def ceilLog2 (n : Nat) : Nat := if n ≤ 1 then 0 else Nat.log2 (n - 1) + 1

/-- The segmented inclusive scan (R273). -/
def segScan (p : List ScanElem) : List ScanElem := (List.range (ceilLog2 p.length)).foldl (fun p l => scanLevel (2 ^ l) p) p

/-- A scan cell over the time steps of a row (R272 to R274). -/
def State.scanRow (s : State) (t : Site) (k : Block264) (pr : Pairing) (g : Gates) (b id frame : Nat) (acts : List Nat) : RowOut :=
  let w := t.w
  let H := lo16 w 12
  let gated := bits (wd w 14) 7 0 == 0x11
  let v := k.vec
  let s0 := (s.vecOf t.p id v).2
  let v0 := s.vecInit t.p id v
  let zs := acts.zipIdx.map fun a => if a.1 = 2 then ([], noFlags) else s.preact t k pr (a.2 * ssBatch w + b) []
  let rs := acts.zipIdx.map fun a => a.1 == 1 && s.resetPending t id v (frame + a.2)
  let elem := fun (e : Nat) => segScan ((acts.zip (zs.zip rs)).map fun x =>
    if x.1 = 2 then ((fpOne, 0, false) : ScanElem)
    else
      let a := g.sig (zAt x.2.1.1 e)
      (a, fpMul 0 (fpSub 0 fpOne a) (zAt x.2.1.1 (H + e)), x.2.2))
  let scans := (List.range H).map elem
  let start := fun (x : ScanElem) (e : Nat) => if x.2.2 then v0.at e else s0.at e
  let exact := fun (x : ScanElem) (e : Nat) => Num.add false ((ofFp32 x.1).mul (start x e)) (ofFp32 x.2.1)
  let hAt := fun (e i : Nat) => let x := (scans.getD e []).getD i (fpOne, 0, false); toFp32 0 (exact x e)
  let out := acts.zipIdx.map fun a =>
    if a.1 = 2 then blankRow H
    else (List.range H).map fun e =>
      let h := hAt e a.2
      toD w (if gated then fpMul 0 h (g.sig (zAt (zs.getD a.2 ([], noFlags)).1 (2 * H + e))) else h)
  let last := fun (e : Nat) => (scans.getD e []).getLastD (fpOne, 0, false)
  let wasReset := rs.any (fun b => b)
  let wr := writeVec (roundOf w) ((List.range H).map fun e => exact (last e) e) (if wasReset then v0.2 else s0.2)
  let idle := acts.all (· == 2)
  { out := out, z := zs.map (·.1), vecs := [if idle then [] else [(v, wr.1)]],
    resets := (rs.zipIdx.filter (·.1)).map fun x => (v, frame + x.2),
    flags := (zs.foldl (fun f z => f.join z.2) noFlags).join (if idle then noFlags else wr.2) }

/-- The stroke's rows once its checks have passed. -/
def State.stepRows (t : Site) (k : Block264) (pr : Pairing) (g : Gates) (rows : List SRow) (s : State) : Effect × State :=
  let w := t.w
  let H := lo16 w 12
  let B := ssBatch w
  let T := ssSteps w
  let marks := bits (wd w 10) 20 0
  let frame := s.firstFrame t marks
  let scan := 0x10 ≤ bits (wd w 14) 7 0
  let outs : List RowOut := rows.zipIdx.map fun r => match r.1 with
    | .skip => { out := List.replicate T (blankRow H) }
    | .live id =>
      let acts := s.actions t marks B T r.2 id frame
      if scan then s.scanRow t k pr g r.2 id frame acts else s.recurRow t k pr g r.2 id frame acts
  let y := s.putRows t (locAt w 5) (descFmt (fmtD w)) (hi16 w 11)
    ((List.range (T * B)).map fun i => ((outs.getD (i % B) { out := [] }).out.getD (i / B) (blankRow H))) (if scan then fun _ => 0 else fun i => i / B)
  let n := if scan then B * T else B
  let acc : Loc := { off := 0, obj := 0, space := 2, top := 0 }
  let zWrites := (List.range T).flatMap fun k => outs.zipIdx.flatMap fun o =>
    let z := o.1.z.getD k []
    if z = [] then [] else inTile (if scan then 0 else k) (s.rowWrites t acc 1 n 0 (if scan then k * B + o.2 else o.2) z)
  let live := rows.filterMap fun r => match r with
    | .live id => some id
    | .skip => none
  let vecW := (rows.zip outs).flatMap fun r => match r.1 with
    | .live id => r.2.vecs.zipIdx.flatMap fun k => inTile k.2 (k.1.flatMap fun v => s.vecWrites t.p id v.1 v.2)
    | .skip => []
  let resets := (rows.zip outs).flatMap fun r => match r.1 with
    | .live id => r.2.resets.map fun x => (id, x.1, x.2)
    | .skip => []
  ({ y with writes := zWrites ++ y.writes ++ vecW, flags := outs.foldl (fun f o => f.join o.flags) y.flags, tiles := if scan then 1 else T,
            resets := resets },
   s.noteStream t live resets (s.sawReleasedIn t (bits (wd w 9) 20 0) B))

/-- STREAM_STEP (R175, R263 to R274). -/
def meaningStreamStep : Meaning :=
  { units := unitsOf,
    run := fun t s =>
      let w := t.w
      let k := s.block264 t
      let n := if k.segs = 1 then 32 else 16
      let at_ := bits (wd w 13) 20 0
      let second := at_ + 64 * ((12 * n + 63) / 64)
      let sg := pwlTable n (s.readSpad t at_ (12 * n))
      let th := pwlTable n (s.readSpad t second (12 * n))
      let H := lo16 w 12
      match s.sRows t (bits (wd w 9) 20 0) (ssBatch w), pairing (fmtA w) (fmtB w) with
      | .error c, _ => ({ fault := c }, s)
      | _, none => ({ fault := 0x0102 }, s)
      | .ok rows, some pr =>
        let fits := rows.all fun r => match r with
          | .skip => true
          | .live id => s.vecFits t.p id k.vec H && (bits (wd w 14) 7 0 != 0x01 || s.vecFits t.p id (k.vec + 1) H)
        if !k.legal ∨ !fits then ({ fault := 0x0507 }, s)
        else if !s.inShare t (s.stepTables t) then ({ fault := 0x0105 }, s)
        else if !pwlOk sg ∨ !pwlOk th then ({ fault := 0x0106 }, s)
        else s.stepRows t k pr { sig := pwlEval sg, tanh := pwlEval th } rows }

/-- STREAM_STEP (R175). -/
def execStreamStep (p c core : Nat) (s : State) : Host.Outcome State Fault Refusal := settled s (s.issue 0x28 meaningStreamStep p c core)

/-! ### STREAM_GATES (R275, R276) -/

/-- A row of a STREAM_GATES. -/
def State.gateRow (s : State) (t : Site) (arr v H b id frame act : Nat) : RowOut :=
  let w := t.w
  let rs := fun (x : Nat) => act == 1 && s.resetPending t id x frame
  let cur := fun (x : Nat) => if rs x then s.vecInit t.p id x else (s.vecOf t.p id x).2
  let emit := fun (h : Vec) => (List.range H).map fun e => toD w (h.cvt e)
  let g : Gates := { sig := sig5, tanh := tanh5 }
  let z := (List.range (vCols w)).map fun c => s.elem t (locAt w 1) 1 (vRows w) 0 b c
  let done := (if rs v then [(v, frame)] else []) ++ (if arr = 1 ∧ rs (v + 1) then [(v + 1, frame)] else [])
  if act = 2 then { out := [emit (s.vecOf t.p id v).2] }
  else match arr with
  | 0 => { out := [emit (cur v)], vecs := [if rs v then [(v, cur v)] else []], resets := done }
  | 1 =>
    let n := lstm g (roundOf w) H z (cur v) (cur (v + 1))
    { out := [emit n.1], vecs := [[(v, n.1), (v + 1, n.2.1)]], resets := done, flags := n.2.2 }
  | _ =>
    let n := gru g (roundOf w) H z (cur v)
    { out := [emit n.1], vecs := [[(v, n.1)]], resets := done, flags := n.2 }

/-- STREAM_GATES (R276). -/
def meaningStreamGates : Meaning :=
  { units := unitsOf,
    run := fun t s =>
      let w := t.w
      let arr := wd w 11 % 8
      let v := wd w 11 / 8 % 32
      let H := if arr = 0 then vCols w else vCols w / 4
      match s.sRows t (bits (wd w 9) 20 0) (vRows w) with
      | .error c => ({ fault := c }, s)
      | .ok rows =>
        let fits := rows.all fun r => match r with
          | .skip => true
          | .live id => (arr == 0 || vCols w % 4 == 0) && s.vecFits t.p id v H && (arr != 1 || s.vecFits t.p id (v + 1) H)
        if !fits then ({ fault := 0x0507 }, s)
        else
          let marks := bits (wd w 10) 20 0
          let frame := s.firstFrame t marks
          let outs : List RowOut := rows.zipIdx.map fun r => match r.1 with
            | .skip => ({ out := [blankRow H] } : RowOut)
            | .live id => s.gateRow t arr v H r.2 id frame ((s.actions t marks (vRows w) 1 r.2 id frame).headD 0)
          let fd := descFmt (fmtD w)
          let d := s.putRows t (locAt w 5) fd ((H * fmtWidth fd + 511) / 512) (outs.map fun o => o.out.headD []) (· / 64)
          let ids := fun (f : Nat → RowOut → List (Nat × Nat × Nat)) => (rows.zip outs).flatMap fun r => match r.1 with
            | .live id => f id r.2
            | .skip => []
          let vecW := (rows.zip outs).zipIdx.flatMap fun r => match r.1.1 with
            | .live id => inTile (r.2 / 64) (r.1.2.vecs.flatten.flatMap fun x => s.vecWrites t.p id x.1 x.2)
            | .skip => []
          let resets := ids fun id o => o.resets.map fun x => (id, x.1, x.2)
          let live := rows.filterMap fun r => match r with
            | .live id => some id
            | .skip => none
          ({ d with writes := d.writes ++ vecW, flags := outs.foldl (fun f o => f.join o.flags) d.flags, tiles := vTiles w, resets := resets },
           s.noteStream t live resets (s.sawReleasedIn t (bits (wd w 9) 20 0) (vRows w))) }

/-- STREAM_GATES (R175). -/
def execStreamGates (p c core : Nat) (s : State) : Host.Outcome State Fault Refusal := settled s (s.issue 0x29 meaningStreamGates p c core)

/-! ### STREAM_RENORM and STREAM_MOVE -/

/-- STREAM_RENORM (R269). -/
def meaningStreamRenorm : Meaning :=
  { units := unitsOf,
    run := fun t s =>
      let off := bits (wd t.w 1) 20 0
      let n := bits (wd t.w 2) 7 0
      match s.sRows t off n with
      | .error c => ({ fault := c }, s)
      | .ok rows =>
        let live := rows.filterMap fun r => match r with
          | .live id => some id
          | .skip => none
        let each := live.flatMap fun id => (List.range 32).filterMap fun v =>
          let d := s.vecOf t.p id v
          if d.1.row = 0 then none
          else
            let r := s40Renorm d.2.1 d.2.2
            some (s.vecWrites t.p id v (r.1, r.2.1), r.2.2, d.1.elems)
        ({ writes := each.flatMap (·.1), flags := each.foldl (fun f e => f.join e.2.1) noFlags, elements := (each.map (·.2.2)).sum },
         s.noteStream t live [] (s.sawReleasedIn t off n)) }

/-- STREAM_RENORM (R269). -/
def execStreamRenorm (p c core : Nat) (s : State) : Host.Outcome State Fault Refusal := settled s (s.issue 0x2A meaningStreamRenorm p c core)

/-- STREAM_MOVE (R176, R285): registers the move, and waits for the boundary of its slot's chunk, holding no unit; where no stream step of the
partition is in progress it takes effect at once, and then it holds the transfer engine for its copy (R86). -/
def meaningStreamMove : Meaning :=
  { ready := fun t s => s.streamStepRuns t.p || !(s.unitsHeld t.p t.core).contains 0,
    run := fun t s =>
      let id := bits (wd t.w 1) 10 0
      let dest := bits (wd t.w 1) 22 16
      let e := s.streamSlot id
      if s.streamOwner id ≠ t.p ∨ (!s.slotReleased t id ∧ e.home ≠ t.core) then ({ fault := 0x0502 }, s)
      else if s.streamStepRuns t.p then
        ({}, (s.registerMove t.p id dest (some (t.c, t.core, t.idx))).noteStream t [] [] (s.slotReleased t id))
      else
        let refused := e.opened && dest != e.home && (s.freeRecord t.p dest).isNone
        ({ fault := if refused then 0x0503 else 0, units := [0] },
         ((s.registerMove t.p id dest none).moveSlot t.p id).noteStream t [] [] (s.slotReleased t id)) }

/-- STREAM_MOVE (R176). -/
def execStreamMove (p c core : Nat) (s : State) : Host.Outcome State Fault Refusal := settled s (s.issue 0x2B meaningStreamMove p c core)

end Sys2Proof.Machine
end

