-- ==== Sys2Proof/Machine/Complete.lean ====
section
/-! DEFINITION. How a running stroke goes on: the tiles that end before its last (R107, R146, R365), its completion (R108, R154, R156), and what the
data of a MCAST that arrives makes of the strokes that run (R195). -/

namespace Sys2Proof.Machine

/-! ### Data that arrives under running strokes (R155, R195) -/

/-- The meaning of an opcode whose stroke reads memory and whose results are its writes alone. -/
def meaningOf : Nat → Option Meaning
  | 0x08 => some meaningMove | 0x0B => some meaningGather | 0x0C => some meaningScatter
  | 0x10 => some (meaningMatmul false) | 0x11 => some (meaningMatmul true) | 0x12 => some meaningConv2d | 0x13 => some meaningFft
  | 0x18 => some meaningEwise | 0x19 => some meaningPwl | 0x1A => some meaningReduce | 0x1B => some meaningNorm | 0x1C => some meaningSoftmax
  | 0x1D => some meaningRotate | 0x1E => some meaningConvert
  | 0x20 => some meaningAttnDecode | 0x21 => some meaningAttnPrefill | 0x22 => some meaningKvAppend
  | 0x28 => some meaningStreamStep | 0x29 => some meaningStreamGates | 0x2A => some meaningStreamRenorm
  | _ => none

/-- The place of a running stroke. -/
def State.siteOf (s : State) (p : Nat) (r : Running) : Option Site :=
  match (s.ctx p r.ctx).flight, (s.ctx p r.ctx).pattern, s.slotOf p r.core with
  | some f, some pat, some n => some { p := p, c := r.ctx, core := r.core, slot := n, idx := r.stroke, w := pat.stroke r.stroke, pat := pat, binds := f.binds,
                                       split := (f.run? r.core).any (·.split) }
  | _, _, _ => none

/-- A running stroke sees, line by line, what it has read or what is written now (R155): its remaining tiles follow what it sees, and a fault that it
then meets fails it. Of a stroke whose earlier tiles have changed what its later ones start from, the results stand (assumption 14). -/
def State.reseeOne (p : Nat) (ws : List Write) (s : State) (r : Running) : State :=
  match meaningOf (r.word0 % 256), s.siteOf p r with
  | some m, some t =>
    let coin := s.free
    if (0 < r.tile ∧ (r.word0 % 256 = 0x11 ∨ r.word0 % 256 = 0x28)) ∨ coin.1 % 2 = 0 then coin.2
    else
      let others := ((coin.2.part p).running.filter (· != r)).flatMap (·.writes)
      let seen := (coin.2.tearAll (ws ++ others)).modFlight p r.ctx fun f => { f with resetsDone := f.resetsDone.filter fun x => !r.resets.contains x }
      let e := (m.run t seen).1
      let s := { coin.2 with freeCount := seen.freeCount }
      if e.fault ≠ 0 then ((s.modPart p fun x => { x with running := x.running.erase r }).tearAll e.writes).stopFlight p r.ctx e.fault r.core r.stroke
      else
        let first := r.tiles - e.tiles
        let left := (e.writes.map fun w => { w with tile := w.tile + first }).filter fun w => decide (r.tile ≤ w.tile)
        s.modPart p fun x => { x with running := x.running.map fun y =>
          if y = r then { y with writes := left, flags := e.flags, marks := e.marks, elements := e.elements } else y }
  | _, _ => s

/-- Data of a MCAST reaches the shares of its members, whatever they run (R195). -/
def State.resee (p : Nat) (by_ : Running) (ws : List Write) (s : State) : State :=
  if by_.word0 % 256 ≠ 0x0A then s
  else (((s.part p).running.filter fun r => r.ctx == by_.ctx && r != by_)).foldl (State.reseeOne p ws) s

/-! ### Tiles and completion -/

/-- A stroke completes, and its results stand. -/
def State.completeStroke (p : Nat) (r : Running) (s : State) : State := (s.resee p r r.writes).finishStroke p r

/-- STROKE_COMPLETE (R108, R154, R156). -/
def execStrokeComplete (p c core stroke : Nat) (s : State) : Host.Outcome State Fault Refusal :=
  settled s (match s.runningAt p c core stroke with
    | some r => if s.mayComplete p r then s.completeStroke p r else s
    | none => s)

/-- Marks a running stroke as interrupted or as going on. -/
def State.setPreempted (p : Nat) (r : Running) (b : Bool) (s : State) : State :=
  s.modPart p fun x => { x with running := x.running.map fun y => if y = r then { y with preempted := b } else y }

/-- A tile ends: its results are written before the next tile starts, and the position reached moves on (R107, R146). -/
def State.passTile (p : Nat) (r : Running) (s : State) : Running × State :=
  let done := r.writes.filter fun w => decide (w.tile ≤ r.tile)
  let next := { r with writes := r.writes.filter fun w => decide (r.tile < w.tile), tile := r.tile + 1 }
  let s := (s.resee p r done).land p done
  (next, s.modPart p fun x => { x with running := x.running.map fun y => if y = r then next else y })

/-- A stroke between two tiles gives up its units to a context that wants them (R365). -/
def State.yieldTo (p k : Nat) (r : Running) (s : State) : State :=
  let s := ((s.setPreempted p r true).modFlight p r.ctx fun f => { f with marks := f.marks ||| 16 }).countCtx p r.ctx 4
  s.capture p 5 ([byteOf r.core, byteOf r.ctx, byteOf k, 0] ++ le 4 r.stroke)

/-- TILE_BOUNDARY (R146, R365): a tile of a preemptible stroke ends, and the stroke gives up its units to a ready stroke of lesser rank or goes on;
an interrupted stroke resumes where its rank and its units allow. -/
def execTileBoundary (p c core stroke : Nat) (s : State) : Host.Outcome State Fault Refusal :=
  settled s (match s.runningAt p c core stroke with
    | none => s
    | some r =>
      if !preemptOk [r.word0] then s
      else if r.preempted then (if s.mayResume p core r then s.setPreempted p r false else s)
      else if r.tiles ≤ r.tile + 1 ∨ s.heldBack p r then s
      else
        let t := s.passTile p r
        match (List.range 16).find? (t.2.wanted p core t.1) with
        | none => t.2
        | some k => t.2.yieldTo p k t.1)

end Sys2Proof.Machine
end

