-- ==== Sys2Proof/Machine/StatusTable.lean ====
section
/-! DEFINITION. Every named status code, in code order (R23, R78 and the status tables of every chapter). -/

namespace Sys2Proof.Machine

/-- Status codes, part 1. -/
def statusCodes1 : List (Nat × String) := [
  (0x0000, "OK"), (0x0010, "ANSWER_UNREACHABLE"), (0x0011, "ANSWER_BUSY"), (0x0012, "ANSWER_NOT_LEAD"), (0x0013, "ANSWER_NO_CREDENTIAL"),
  (0x0101, "ACC_SHORT"), (0x0102, "FORMAT_PAIR"), (0x0103, "TOKEN_OVERFLOW"), (0x0104, "TOKEN_TIMEOUT"), (0x0105, "SHARE_BOUNDS"),
  (0x0106, "PWL_TABLE"), (0x0107, "CORE_RETIRED"), (0x0108, "CORE_LOST"), (0x0109, "SPAD_UNCORRECTABLE"), (0x010A, "ACC_UNCORRECTABLE"),
  (0x010B, "SRAM_CORRECTED"), (0x0120, "STROKE_OPCODE"), (0x0121, "STROKE_RESERVED"), (0x0122, "STROKE_FIELD"), (0x0123, "STROKE_SPACE"),
  (0x0124, "STROKE_ALIGN"), (0x0125, "STROKE_BINDING"), (0x0126, "STROKE_PEAL"), (0x0127, "STROKE_CORE"), (0x0128, "STROKE_OVERLAP"),
  (0x0129, "TIME_NOT_VALID"), (0x0130, "PATTERN_FORMAT"), (0x0131, "PATTERN_TARGET"), (0x0132, "PATTERN_SIGNATURE"), (0x0133, "PATTERN_CORES"),
  (0x0134, "PATTERN_SHARES"), (0x0135, "PATTERN_STROKE"), (0x0136, "PATTERN_BUCKET"), (0x0137, "PATTERN_CLASS"), (0x0160, "SAT_RERUN"),
  (0x0161, "SAT_TRIPPED"), (0x0162, "SAT_WATCH"), (0x0170, "TILE_CAP"), (0x0171, "ACC_STAGING"), (0x0201, "OBJECT_NOT_FOUND"),
  (0x0202, "OBJECT_ACCESS"), (0x0203, "QUOTA_DRAM"), (0x0204, "QUOTA_FLASH"), (0x0205, "CACHE_PIN_FULL"), (0x0206, "OBJECT_NOT_RESIDENT"),
  (0x0207, "OBJECT_DAMAGED"), (0x0208, "OBJECT_SEALED"), (0x0209, "DRAM_UNCORRECTABLE"), (0x020A, "DRAM_CORRECTED"), (0x020B, "DRAM_LANE_SPARED"),
  (0x020C, "SLICE_RETIRED"), (0x020D, "CACHE_LINE_LOST"), (0x020E, "FLASH_REBUILT"), (0x020F, "FLASH_UNCORRECTABLE"), (0x0210, "READOPT_FAILED"),
  (0x0211, "PUBLISHER_UNTRUSTED"), (0x0212, "POWER_DOWN"), (0x0213, "CLAIM_NO_TURNS"), (0x0301, "MESH_UNCORRECTABLE"), (0x0302, "PEER_TIMEOUT"),
  (0x0303, "PEER_LINK_DOWN"), (0x0304, "PEER_ABORTED"), (0x0305, "PEER_NO_ROUTE"), (0x0306, "PEER_REMOTE_REFUSED")]

/-- Status codes, part 2. -/
def statusCodes2 : List (Nat × String) := [
  (0x0307, "PEER_LANE_SPARED"), (0x0308, "PEER_PROTOCOL"), (0x0309, "PEER_MISMATCH"), (0x0401, "PARTITION_RESET"), (0x0402, "ADMISSION_REFUSED"),
  (0x0403, "SUB_MALFORMED"), (0x0404, "NO_PATTERN"), (0x0405, "URGENT_FETCH"), (0x0501, "SLOT_RELEASED"), (0x0502, "SLOT_NOT_HOME"),
  (0x0503, "SLOT_SPACE"), (0x0504, "SLOT_LOST"), (0x0505, "SLOT_RESTARTED"), (0x0506, "SLOT_IMAGE"), (0x0507, "STREAM_GEOMETRY"),
  (0x0508, "STREAM_MANIFEST"), (0x0509, "STREAM_BUCKET_FULL"), (0x050A, "CHUNK_LATE"), (0x050B, "GATE_FAILED"), (0x0601, "OUT_OF_PAGES"),
  (0x0602, "PT_WRITE_REJECTED"), (0x0603, "PAGE_NOT_VALID"), (0x0604, "PAGE_OWNER"), (0x0605, "PAGE_STALE"), (0x0606, "PAGE_RANGE"),
  (0x0607, "PT_GEOMETRY"), (0x0608, "POSITION_RANGE"), (0x0609, "PUBLISH_PENDING"), (0x060A, "PUBLISH_COPY"), (0x060B, "PUBLISH_REFUSED"),
  (0x060C, "SEQ_BUSY"), (0x060D, "SEQ_FULL"), (0x060E, "POSITIONS_OVER_BUCKET"), (0x060F, "MANIFEST_INVALID"), (0x0610, "SEQ_NOT_IN_STEP"),
  (0x0701, "AFE_CANDIDATE"), (0x0702, "MIC_FAILED"), (0x0703, "MIC_SPARED"), (0x0704, "FEED_OVERRUN"), (0x0705, "CANDIDATE_EXPIRED"),
  (0x0706, "RATE_RANGE"), (0x0707, "CASCADE_RESTORE_FAILED"), (0x0801, "FRAME_DROPPED_OVERLOAD"), (0x0802, "FRAME_DROPPED_FIFO"),
  (0x0803, "FRAME_DROPPED_NO_BUFFER"), (0x0804, "FRAME_DROPPED_MODE"), (0x0805, "CSI_HEADER"), (0x0806, "CSI_UNKNOWN"), (0x0807, "FRAME_NO_START"),
  (0x0808, "CAM_CONTROL_FAILED"), (0x0809, "CAM_OUTPUT_LOST"), (0x0901, "AES67_LATE"), (0x0902, "AES67_MALFORMED"), (0x0903, "PCIE_ERROR"),
  (0x0904, "APERTURE_REFUSED"), (0x0905, "PCIE_LINK_UP"), (0x0A01, "TIME_MSG_MALFORMED"), (0x0A02, "TIME_STEPPED"), (0x0A03, "TIME_HOLDOVER"),
  (0x0A04, "TIME_LOCKED"), (0x0A05, "TIME_OFFSET_LARGE"), (0x0A06, "TRIGGER_OVERRUN"), (0x0A07, "CAPTURE_LOST"), (0x0B01, "CASCADE_BUSY")]

/-- Status codes, part 3. -/
def statusCodes3 : List (Nat × String) := [
  (0x0B02, "STREAM_RESIDENT"), (0x0B03, "REALTIME_CONTEXT"), (0x0B04, "WORK_IN_FLIGHT"), (0x0B05, "ROLE_FLOOR"), (0x0B06, "SAVE_PENDING"),
  (0x0B07, "BRACED"), (0x0B08, "DESCENT_ABORTED"), (0x0B09, "SUPPLY_WARNING"), (0x0B0A, "SUPPLY_LATE"), (0x0B0B, "THERMAL_EMERGENCY"),
  (0x0B0C, "POWER_ALERT"), (0x0B0D, "THERMAL_TRIP"), (0x0B0E, "AON_BROWNOUT"), (0x0B0F, "VAON_RESET"), (0x0C01, "KEY_ABSENT"),
  (0x0C02, "KEY_UNWRAP_FAILED"), (0x0C03, "KEY_PRESENT"), (0x0C04, "TENANT_CLAIMED"), (0x0C05, "TENANT_SCRUBBED"), (0x0C06, "MGMT_TLS_REFUSED"),
  (0x0D01, "POWER_ON"), (0x0D02, "COLD_REQUEST"), (0x0D03, "WARM_REQUEST"), (0x0D04, "RESET_PIN_COLD"), (0x0D05, "RESET_PIN_WARM"),
  (0x0D06, "SYSTEM_DATA_LOST"), (0x0D07, "MCU_EXHAUSTED"), (0x0D08, "CLOCK_LOST"), (0x0D09, "FIRMWARE_REJECTED"), (0x0D0A, "SAVED_INVALID"),
  (0x0D0B, "TRAINING_DRIFT"), (0x0D0C, "MCU_FAILOVER"), (0x0D0D, "PLL_FAILOVER"), (0x0D0E, "CLOCK_FAULT"), (0x0D0F, "SYSTEM_DATA_REPAIRED"),
  (0x0E01, "UNKNOWN_OP"), (0x0E02, "BAD_VERSION"), (0x0E03, "MALFORMED"), (0x0E04, "OBJECT_ABSENT"), (0x0E05, "SUBINDEX_ABSENT"),
  (0x0E06, "ACCESS_DENIED"), (0x0E07, "READ_ONLY"), (0x0E08, "TYPE_MISMATCH"), (0x0E09, "LENGTH_MISMATCH"), (0x0E0A, "VALUE_OUT_OF_RANGE"),
  (0x0E0B, "USE_BLOCK"), (0x0E0C, "OBJECT_BUSY"), (0x0E0D, "BAD_SESSION"), (0x0E0E, "TAG_FAILED"), (0x0E0F, "SEQ_STALE"), (0x0E10, "BLOCK_SEQUENCE"),
  (0x0E11, "BLOCK_CRC"), (0x0E12, "BLOCK_TIMEOUT"), (0x0E13, "SUBSCRIPTION_LIMIT"), (0x0E14, "SESSION_LIMIT"), (0x0E15, "STATE_REFUSED"),
  (0x0E16, "FUSE_CLEAR"), (0x0E17, "SAVE_FAILED"), (0x0E18, "QUEUE_FULL"), (0x0E19, "WINDOW_BUSY"), (0x0E1A, "NOT_READABLE"),
  (0x0E1B, "SUBSCRIPTION_DROPPED")]

/-- Every status code with its name. -/
def statusCodes : List (Nat × String) := statusCodes1 ++ statusCodes2 ++ statusCodes3

end Sys2Proof.Machine
end

