-- ==== Sys2Proof/Machine/Peer.lean ====
section
/-! DEFINITION. The mesh's faults, the peer links and the peer strokes (11_mesh_and_peer_links.md). -/

namespace Sys2Proof.Machine

/-! ### Frames on the wire (R343) -/

/-- The fields of a frame's header. -/
def peerFields (f : PeerFrame) : Bytes :=
  le 4 (f.typ % 16 + 16 * (f.cls % 4) + 2 ^ 8 * (f.linkSeq % 65536) + 2 ^ 24 * (f.lines % 32)) ++
  le 4 (f.ackSeq % 65536 + 2 ^ 16 * b01 f.nak) ++
  le 4 (f.src % 16 + 16 * (f.dst % 16) + 2 ^ 8 * (f.dstCore % 128) + 2 ^ 16 * (f.pair % 256) + 2 ^ 24 * (f.op % 16) + 2 ^ 28 * b01 f.last +
    2 ^ 29 * b01 f.signalEn) ++
  le 4 (f.dstLine % 2 ^ 15 + 2 ^ 15 * (f.token % 8)) ++ le 4 (f.xferSeq % 65536 + 2 ^ 16 * (f.frameIndex % 65536)) ++ le 4 f.detail

/-- The header of a frame, with its reserved bits. -/
def peerHeader (f : PeerFrame) : Bytes := le 24 (ofLE (peerFields f) ||| f.reserved)

/-- A frame as it goes out: header, payload and CRC-32. -/
def peerBytes (f : PeerFrame) : Bytes :=
  let b := peerHeader f ++ f.payload
  b ++ le 4 (crc32 b)

/-! ### Ports -/

/-- A port. -/
def State.port (s : State) (k : Nat) : PeerPort := s.peer.ports.getD k {}
/-- Changes the peer links. -/
def State.modPeer (f : Peers → Peers) (s : State) : State := { s with peer := f s.peer }
/-- Changes a port. -/
def State.modPort (k : Nat) (f : PeerPort → PeerPort) (s : State) : State := s.modPeer fun x => { x with ports := x.ports.modify k f }
/-- Counts in PORT_COUNTS. -/
def State.countPort (k i : Nat) (s : State) : State := s.modPort k fun x => { x with counts := bump x.counts i }
/-- Counts in PEER_COUNTS. -/
def State.countPeer (p i : Nat) (s : State) : State := s.modPeer fun x => { x with counts := x.counts.modify p fun l => bump l i }

/-- Sends a frame on a port, with the acknowledgement fields (R344). -/
def State.emitFrame (k : Nat) (f : PeerFrame) (s : State) : State :=
  let x := s.port k
  ((s.send (.peer k { f with ackSeq := x.rxSeq, nak := x.nak })).modPort k fun x => { x with nak := false }).countPort k 0

/-- Whether a port carries frames. -/
def PeerPort.up (x : PeerPort) : Bool := x.state == 3 || x.state == 4 || x.state == 5

/-- A frame goes to a port: sent, and kept until it is acknowledged; held while the port is not up or its replay
buffer of 128 frames is full (R344). -/
def State.pushFrame (k : Nat) (f : PeerFrame) (s : State) : State :=
  let x := s.port k
  if !x.up ∨ x.held ≠ [] ∨ (f.lines ≠ 0 ∧ 128 ≤ x.replay.length) then s.modPort k fun x => { x with held := x.held ++ [f] }
  else if f.lines = 0 then s.emitFrame k f
  else
    let f := { f with linkSeq := (x.txSeq + 1) % 65536 }
    (s.modPort k fun x => { x with txSeq := f.linkSeq, replay := x.replay ++ [f] }).emitFrame k f

/-- Sends what a port held. -/
def State.flushHeld (k : Nat) (s : State) : State :=
  let l := (s.port k).held
  l.foldl (fun s f => s.pushFrame k f) (s.modPort k fun x => { x with held := [] })

/-! ### Routes (R349, R350) -/

/-- The member a port leads to. -/
def Peers.neighbour (x : Peers) (m k : Nat) : Nat :=
  if x.topology = 2 then
    let a := m % 4
    let b := m / 4
    match k with
    | 0 => (a + 1) % 4 + 4 * b
    | 1 => (a + 3) % 4 + 4 * b
    | 2 => a + 4 * ((b + 1) % 4)
    | _ => a + 4 * ((b + 3) % 4)
  else if k = 0 then (m + 1) % x.members else (m + x.members - 1) % x.members

/-- A slot whose owner has no frame carries one with LINES = 0, whose header acknowledges (R342). DESIGN CHOICE (assumption 69): it is a SEND
frame to the neighbour, and the model shows one for each frame that it answers, not one for each slot. -/
def State.emitIdle (k : Nat) (s : State) : State :=
  if (s.port k).up then s.emitFrame k { typ := 1, op := 1, src := s.peer.index, dst := s.peer.neighbour s.peer.index k } else s

/-- The other end of a port's link leaves by the port beside it. -/
def oppositePort (k : Nat) : Nat := if k % 2 = 0 then k + 1 else k - 1

/-- `n` hops by a port from a member, and where they end. -/
def Peers.hops (x : Peers) (k : Nat) : Nat → Nat → List (Nat × Nat) × Nat
  | 0, m => ([], m)
  | n + 1, m => let r := x.hops k n (x.neighbour m k); ((m, k) :: r.1, r.2)

/-- The port and the number of hops along an axis of the torus. -/
def axisHops (fromA toA plus : Nat) : Nat × Nat :=
  let d := (toA + 4 - fromA) % 4
  if d ≤ 2 then (plus, d) else (plus + 1, 4 - d)

/-- A path: the first or the second choice of R349 and R350. -/
def Peers.path (x : Peers) (src dst : Nat) (second : Bool) : List (Nat × Nat) :=
  if x.topology = 2 then
    let h := axisHops (src % 4) (dst % 4) 0
    let v := axisHops (src / 4) (dst / 4) 2
    let a := if second then v else h
    let b := if second then h else v
    let r := x.hops a.1 a.2 src
    r.1 ++ (x.hops b.1 b.2 r.2).1
  else
    let d := (dst + x.members - src) % x.members
    let e := x.members - d
    if (decide (d ≤ e)) != second then (x.hops 0 d src).1 else (x.hops 1 e src).1

/-- Whether a link is known to have failed. -/
def Peers.broken (x : Peers) (h : Nat × Nat) : Bool :=
  x.down.contains h || x.down.contains (x.neighbour h.1 h.2, oppositePort h.2)

/-- The route between two members; none where no route is left. -/
def Peers.route (x : Peers) (src dst : Nat) : Option (List (Nat × Nat)) :=
  if x.members ≤ src ∨ x.members ≤ dst then none
  else
    let a := x.path src dst false
    if !a.any x.broken then some a
    else
      let b := x.path src dst true
      if b.any x.broken then none else some b

/-- Sends a frame towards a member by the first port of its route round some failed links. -/
def State.toMemberBy (down : List (Nat × Nat)) (dst : Nat) (f : PeerFrame) (s : State) : State :=
  match ({ s.peer with down := down } : Peers).route s.peer.index dst with
  | some (h :: _) => s.pushFrame h.2 f
  | _ => s

/-- Sends a frame towards a member by the routes in force. -/
def State.toMember (dst : Nat) (f : PeerFrame) (s : State) : State := s.toMemberBy s.peer.down dst f

/-- The class of a context's traffic (R335). -/
def State.peerClass (s : State) (p c : Nat) : Nat := match s.ctxClass p c with
  | 3 => 0 | 2 => 1 | _ => 2

/-- A CONTROL frame of this member (R343). -/
def State.control (s : State) (op dst pair xfer detail : Nat) : PeerFrame :=
  { typ := 2, cls := 3, src := s.peer.index, dst := dst, op := op, pair := pair, xferSeq := xfer, detail := detail }

/-! ### Link faults (R344 to R348, R357) -/

/-- A fault begins on a port: it ends when every frame that is outstanding now has been acknowledged (R345, R357). -/
def PeerPort.openFault (x : PeerPort) : PeerPort := { x with faultUpTo := x.faultUpTo.or (some ((x.replay.getLast?.map (·.linkSeq)).getD x.txSeq)) }

/-- A port retrains (R345, R347, R357). -/
def State.retrain (k : Nat) (s : State) : State := (s.modPort k fun x => { x.openFault with state := 6 }).countPort k 6

/-- The frames outstanding are sent again: one attempt; past eight, the port retrains (R344, R345). -/
def State.resend (k : Nat) (s : State) : State :=
  let x := s.port k
  if 8 ≤ x.attempts then s.retrain k
  else
    let s := (s.modPort k fun x => { x.openFault with state := if x.state = 3 then 4 else x.state, attempts := x.attempts + 1 }).countPort k 4
    x.replay.foldl (fun s f => s.emitFrame k f) s

/-- Whether a sequence number is covered by an acknowledgement. -/
def covered (ack seq : Nat) : Bool := decide ((ack + 65536 - seq) % 65536 < 32768)

/-- The acknowledgement fields of a frame that arrived (R344): what they free, and a fault that they end, which the
link has resolved (R357). -/
def State.takeAck (k ack : Nat) (s : State) : State :=
  let s := s.modPort k fun x => { x with replay := x.replay.filter fun f => !covered ack f.linkSeq }
  let s := match (s.port k).faultUpTo with
    | some u => if covered ack u then
        (s.modPort k fun x => { x with faultUpTo := none, attempts := 0, state := if x.state = 4 then 3 else x.state }).countPort k 8
      else s
    | none => s
  s.flushHeld k

/-- A partner protocol violation (R348). -/
def State.peerViolation (k : Nat) (f : PeerFrame) (s : State) : State :=
  ((s.logViolation 0x0308 0xFF (0x30 + k) (byteOf k :: (peerHeader f).take 8)).countPort k 7).retrain k

/-- Whether a frame breaks none of R348's rules but that of its LINK_SEQ: no reserved bit, TYPE, OP and LINES of R343's table, a CONTROL frame
without payload, and a DST_MEMBER of the constellation. -/
def Peers.frameOk (x : Peers) (ops : List Nat) (f : PeerFrame) : Bool :=
  f.reserved == 0 && (f.typ == 1 || f.typ == 2) && decide (f.lines ≤ 16) && (f.typ == 2) == (5 ≤ f.op : Bool) && (f.typ != 2 || f.lines == 0) &&
  ops.contains f.op && decide (f.dst < x.members)

/-- The acknowledgement fields of a frame: what they free, and a resend that they ask for (R344). -/
def State.takeHeader (k : Nat) (f : PeerFrame) (s : State) : State :=
  let s := s.takeAck k f.ackSeq
  if f.nak then s.resend k else s

/-- A frame arrives whole on a port (R344, R348): refused as a violation, discarded, forwarded, or given to this
member, and acknowledged in the next slot. In a gap every frame but the expected one is discarded. `ops` are the OPs of the row; a frame with
another OP of R343 is not the row's, and changes nothing. -/
def State.arrive (k : Nat) (f : PeerFrame) (ops : List Nat) (deliver : PeerFrame → State → State) (s : State) : State :=
  if !(s.port k).up ∨ (1 ≤ f.op ∧ f.op ≤ 8 ∧ !ops.contains f.op) then s else
  let s := s.countPort k 1
  let x := s.port k
  let d := (f.linkSeq + 65536 - (x.rxSeq + 1) % 65536) % 65536
  if !s.peer.frameOk ops f then s.peerViolation k f
  else if f.lines = 0 then
    if x.gap then s
    else
      let s := s.takeHeader k f
      if f.dst = s.peer.index then deliver f s else s.toMember f.dst f
  else if d ≠ 0 then
    if 32768 ≤ d then (s.countPort k 3).emitIdle k
    else if x.gap then s
    else s.peerViolation k f
  else
    let s := (s.modPort k fun x => { x with rxSeq := f.linkSeq, gap := false }).takeHeader k f
    (if f.dst = s.peer.index then deliver f s else s.toMember f.dst f).emitIdle k

/-- PEER_EMPTY_FRAME (R342, R344): the acknowledgement fields of a frame without payload. It goes one hop, and is refused or, in a gap, discarded as
any frame is (R344, R348); a frame of 1 to 16 lines is not this row's. -/
def execPeerEmptyFrame (port : Nat) (f : PeerFrame) (s : State) : Host.Outcome State Fault Refusal :=
  settled s (if !(s.port port).up ∨ (1 ≤ f.lines ∧ f.lines ≤ 16) then s else
    let s := s.countPort port 1
    if !s.peer.frameOk [1, 2, 3, 4, 5, 6, 7, 8] f then s.peerViolation port f
    else if (s.port port).gap then s else s.takeHeader port f)

/-- PEER_NAK (R344): the frames after ACK_SEQ are sent again. -/
def execPeerNak (port ackSeq : Nat) (s : State) : Host.Outcome State Fault Refusal :=
  settled s (if (s.port port).up then (s.takeAck port ackSeq).resend port else s)

/-- PEER_FRAME_CRC_ERROR (R344): the frame is discarded, and NAK is sent once for the gap. -/
def execPeerFrameCrcError (port : Nat) (s : State) : Host.Outcome State Fault Refusal :=
  settled s (if !(s.port port).up then s else
    let s := s.countPort port 2
    if (s.port port).gap then s
    else (s.modPort port fun x => { x with gap := true, nak := true }).emitIdle port)

/-- RETRY_BUDGET_SPENT (R345). -/
def execRetryBudgetSpent (port : Nat) (s : State) : Host.Outcome State Fault Refusal :=
  settled s (if (s.port port).up then s.retrain port else s)

/-! ### Strokes across the constellation (R351 to R356) -/

/-- The pair of a context whose mask holds all of some members (R351). -/
def State.pairOf (s : State) (p c : Nat) (ms : List Nat) : Option Nat :=
  (s.peer.pairs.find? fun e => e.2.1 == p && e.2.2.1 == c && ms.all fun m => e.2.2.2.testBit m).map (·.1)

/-- The next XFER_SEQ of a pair (R352). -/
def State.nextXfer (pair : Nat) (s : State) : Nat × State :=
  let n := (kvGet s.peer.sentSeq pair).getD 0 % 65535 + 1
  (n, s.modPeer fun x => { x with sentSeq := kvSet x.sentSeq pair (some n) })

/-- Data in frames of at most 1,024 bytes, each of whole lines: what follows the data in its last line is zero (assumption 69). -/
def frameData (b : Bytes) : List Bytes :=
  let n := (b.length + 1023) / 1024
  let b := b ++ List.replicate ((64 - b.length % 64) % 64) 0
  (List.range n).map fun i => slice b (1024 * i) (min 1024 (b.length - 1024 * i))

/-- Sends data as the frames of one transfer of a collective to a member, from a frame index on, by the routes that its stroke issued with
(R350). -/
def State.sendData (x : Coll) (op dst xfer first : Nat) (last : Bool) (b : Bytes) (s : State) : State :=
  let l := frameData b
  l.zipIdx.foldl (fun s e => s.toMemberBy x.down dst
    { cls := s.peerClass x.p x.c, lines := e.1.length / 64, src := s.peer.index, dst := dst, dstCore := x.core, pair := x.pair, op := op,
      last := last && e.2 + 1 == l.length, xferSeq := xfer, frameIndex := first + e.2, payload := e.1 }) (s.countPart x.p 11 b.length)

/-- The other members of a collective, or the destination of a send. -/
def State.others (s : State) (x : Coll) : List Nat := x.members.filter (· != s.peer.index)

/-- This member's place in a collective. -/
def State.placeIn (s : State) (x : Coll) : Nat := x.members.findIdx (· == s.peer.index)
/-- The member at a place of a collective. -/
def Coll.memberAt (x : Coll) (i : Nat) : Nat := x.members.getD i 0

/-- The XFER_SEQ of the transfer that a member sends this one for a collective: that of its frames where one has come, else the next. -/
def State.xferFrom (s : State) (x : Coll) (m op taken : Nat) : Nat :=
  if taken ≠ 0 then taken
  else match s.peer.inbox.find? fun f => f.op == op && f.pair == x.pair && f.dstCore == x.core && f.src == m with
    | some f => f.xferSeq
    | none => (kvGet s.peer.lastIn (x.pair * 16 + m)).getD 0 % 65535 + 1

/-- The transfers of a reduction that this member still takes in (R353): the chain of the member before it, and the highest member's result. -/
def State.transfersIn (s : State) (x : Coll) : List (Nat × Nat) :=
  let me := s.placeIn x
  let top := x.memberAt (x.members.length - 1)
  if !x.reduce then []
  else (if me = 0 then [] else [(x.memberAt (me - 1), s.xferFrom x (x.memberAt (me - 1)) 2 x.inChain)]) ++
    (if me + 1 = x.members.length then [] else [(top, s.xferFrom x top 3 x.inOut)])

/-- The frames of a pair and a source up to a transfer are to be discarded (R356). -/
def raiseAborted (pair : Nat) (l : List (Nat × Nat)) (e : Nat × Nat) : List (Nat × Nat) :=
  let key := pair * 16 + e.1
  if e.2 = 0 then l
  else kvSet l key (some (match kvGet l key with
    | some o => if covered o e.2 then o else e.2
    | none => e.2))

/-- Whether a frame belongs to a transfer that was aborted (R356). -/
def Peers.late (x : Peers) (f : PeerFrame) : Bool :=
  match kvGet x.aborted (f.pair * 16 + f.src) with
  | some n => covered n f.xferSeq
  | none => false

/-- An ABORT of a peer stroke to another member (R355): it names the stroke's core there and the last transfer it has sent. -/
def State.abortFrame (s : State) (x : Coll) (m code : Nat) : PeerFrame :=
  let xfer := if x.xferSeq = 0 then (kvGet s.peer.sentSeq x.pair).getD 0 else x.xferSeq
  { s.control 5 m x.pair xfer code with dstCore := if x.reduce then x.core else bits (wd x.words 9) 22 16 }

/-- A peer stroke fails (R355, R356): its partial D keeps its old value, the submission stops, and its late frames are to be
discarded. -/
def State.failColl (x : Coll) (code count : Nat) (abort : Bool) (s : State) : State :=
  let ins := s.transfersIn x
  let s := s.modPeer fun q =>
    let q := { q with colls := q.colls.filter fun y => y != x, aborted := ins.foldl (raiseAborted x.pair) q.aborted }
    { q with inbox := q.inbox.filter fun f => !q.late f }
  let s := s.modPart x.p fun q => { q with running := q.running.filter fun r => !(r.ctx == x.c && r.core == x.core && r.stroke == x.stroke && r.peer.isSome) }
  let s := (s.stopFlight x.p x.c code x.core x.stroke).countPeer x.p count
  if abort then (s.others x).foldl (fun s m => s.toMember m (s.abortFrame x m code)) s else s

/-- A peer stroke completes: what it writes is in D (R352, R353). -/
def State.endColl (x : Coll) (data : Bytes) (s : State) : State :=
  let s := s.modPeer fun q => { q with colls := q.colls.filter fun y => y != x }
  let s := s.countPeer x.p 0
  match (s.part x.p).running.find? fun r => r.ctx == x.c && r.core == x.core && r.stroke == x.stroke && r.peer.isSome with
  | none => s
  | some r =>
    if !x.reduce then s.finishStroke x.p r
    else
      let w := x.words
      let fa := descFmt (fmtA w)
      let fd := descFmt (fmtD w)
      let n := data.length * 8 / fmtWidth fa
      let el := (List.range n).map fun i => convertCode fa fd (roundOf w) (satOf w) (elemAt (fmtWidth fa) data i)
      let r' := { r with
        writes := [{ space := 1, place := x.place, addr := x.addr, bytes := packCodes (fmtWidth fd) (el.map (·.1)) }]
        flags := el.foldl (fun f e => f.join e.2) x.flags
        elements := n }
      (s.modPart x.p fun q => { q with running := q.running.map fun y => if y = r then r' else y }).finishStroke x.p r'

/-! #### PEER_SEND (R352) -/

/-- The rows of a PEER_SEND as runs of bytes and the remote lines they go to. -/
def State.sendRuns (s : State) (t : Site) : List (Nat × Bytes) :=
  let w := t.w
  let a := locAt w 1
  let line := (locAt w 5).off / 64
  let n := lo16 w 8
  let row := fun (r : Nat) => (List.range n).flatMap fun i => s.readLine t a (lineAt a (lo16 w 10) n r i)
  let rows := (List.range (hi16 w 8)).map fun r => (line + r * hi16 w 10, row r)
  if hi16 w 10 = n ∨ rows.length = 1 then [(line, rows.flatMap (·.2))] else rows

/-- PEER_SEND (R177, R352). -/
def meaningPeerSend : Meaning :=
  { units := unitsOf,
    run := fun t s =>
      let w := t.w
      let m := bits (wd w 9) 3 0
      match s.pairOf t.p t.c [m], s.peer.route s.peer.index m with
      | some pair, some _ =>
        let xs := s.nextXfer pair
        let frames := (s.sendRuns t).flatMap fun r => (frameData r.2).zipIdx.map fun e => (r.1 + 16 * e.2, e.1)
        let x : Coll := { p := t.p, c := t.c, core := t.core, stroke := t.idx, pair := pair, xferSeq := xs.1, reduce := false, members := [m], words := w,
                           down := s.peer.down }
        let s := xs.2.modPeer fun q => { q with colls := q.colls ++ [x] }
        let s := frames.zipIdx.foldl (fun s e => s.toMember m
          { cls := s.peerClass t.p t.c, lines := (e.1.2.length + 63) / 64, src := s.peer.index, dst := m, dstCore := bits (wd w 9) 22 16, pair := pair, op := 1,
            last := e.2 + 1 == frames.length, signalEn := (wd w 9).testBit 23, token := bits (wd w 9) 26 24, dstLine := e.1.1, xferSeq := xs.1,
            frameIndex := e.2, payload := e.1.2 }) (s.countPart t.p 11 (frames.map fun e => e.2.length).sum)
        ({ peer := some xs.1 }, s)
      | _, _ => ({ fault := 0x0305 }, s.countPeer t.p 4) }

/-- PEER_SEND (R177). -/
def execPeerSend (p c core : Nat) (s : State) : Host.Outcome State Fault Refusal := settled s (s.issue 0x30 meaningPeerSend p c core)

/-- The code with which a destination refuses a frame; 0 where it takes it (R351, R352). -/
def State.sendRefusal (s : State) (f : PeerFrame) : Nat × State :=
  match s.peer.pairs.find? fun e => e.1 == f.pair with
  | some (_, p, c, mask) =>
    if !mask.testBit f.src then (1 + s.free.1 % 65535, s.free.2)
    else if s.cores p ≤ f.dstCore then (0x0127, s)
    else if (s.slotOf p f.dstCore).isNone then (0x0108, s)
    else if s.ctxCfg p c 0 4 < f.dstLine + f.lines then (0x0105, s)
    else (0, s)
  | none => (1 + s.free.1 % 65535, s.free.2)

/-- Answers a transfer to its sender. -/
def State.ackTransfer (f : PeerFrame) (code : Nat) (s : State) : State :=
  s.toMember f.src { typ := 1, cls := f.cls, src := s.peer.index, dst := f.src, dstCore := f.dstCore, pair := f.pair, op := 4, xferSeq := f.xferSeq, detail := code }

/-- A SEND frame for this member (R352). -/
def State.takeSend (f : PeerFrame) (s : State) : State :=
  let key := f.pair * 16 + f.src
  if s.peer.late f ∨ kvGet s.peer.refused key = some f.xferSeq then s
  else
    let r := s.sendRefusal f
    let s := r.2.modPeer fun q => { q with lastIn := kvSet (kvSet q.lastIn key (some f.xferSeq)) (1024 + key) (some f.xferSeq) }
    if r.1 ≠ 0 then (s.modPeer fun q => { q with refused := kvSet q.refused key (some f.xferSeq) }).ackTransfer f r.1
    else match s.peer.pairs.find? fun e => e.1 == f.pair with
      | none => s
      | some (_, p, c, _) => match s.slotOf p f.dstCore with
        | none => s
        | some n =>
          let s := (s.countPart p 12 (64 * f.lines)).modSlot n fun x =>
            { x with spad := memWrite x.spad ((s.ctxCfg p c 0 3 + f.dstLine) * 64) (slice f.payload 0 (64 * f.lines)) }
          if !f.last then s
          else (if f.signalEn then s.addToken p n c f.token none else s).ackTransfer f 0

/-- PEER_DATA_FRAME (R352). -/
def execPeerDataFrame (port : Nat) (f : PeerFrame) (s : State) : Host.Outcome State Fault Refusal :=
  settled s (s.arrive port f [1] fun f s => s.takeSend f)

/-- An ACK_E2E for this member (R352). The code with which the destination refused a transfer stands in the DETAIL of an error record, since a
completion entry has none. DEDUCED (assumption 68). -/
def State.takeAckE2e (f : PeerFrame) (s : State) : State :=
  match s.peer.colls.find? fun x => !x.reduce && x.pair == f.pair && x.xferSeq == f.xferSeq && x.members == [f.src] with
  | none => s
  | some x => if f.detail = 0 then s.endColl x [] else (s.logError 0x0306 x.p 0xFE (be 2 f.detail)).failColl x 0x0306 5 false

/-- PEER_ACK_E2E (R352). -/
def execPeerAckE2e (port : Nat) (f : PeerFrame) (s : State) : Host.Outcome State Fault Refusal :=
  settled s (s.arrive port f [4] fun f s => s.takeAckE2e f)

/-! #### PEER_REDUCE (R177, R353) -/

/-- Two elements combined (R177): KIND 3 the maximum, else the sum, rounded with RNE in FMT_A. -/
def combineElem (fa kind a b : Nat) : Elem :=
  if fa = 9 then
    let x := signed 32 a
    let y := signed 32 b
    if kind = 3 then (unsigned 32 (max x y), noFlags) else let r := satInt32 (x + y); (unsigned 32 r.1, r.2)
  else
    let x := widenFp fa a
    let y := widenFp fa b
    if kind = 3 then ((encodeFmt 1 fa 0 false (ofFp32 (fpMax x y))).1, noFlags)
    else ((encodeFmt 1 fa 0 false (Num.add false (decodeFmt fa a) (decodeFmt fa b))).1, noFlags)

/-- Two runs of elements combined. -/
def combineRun (fa kind : Nat) (a b : Bytes) : Bytes × Flags :=
  let w := fmtWidth fa
  let l := (List.range (a.length * 8 / w)).map fun i => combineElem fa kind (elemAt w a i) (elemAt w b i)
  (packCodes w (l.map (·.1)), l.foldl (fun f e => f.join e.2) noFlags)

/-- The bytes that a member keeps of a result of `n` bytes (R353): its equal part for KIND 1, else all. -/
def Coll.partBytes (x : Coll) (n : Nat) : Nat :=
  let w := fmtWidth (descFmt (fmtA x.words))
  if x.kind = 1 then n * 8 / w / x.members.length * w / 8 else n

/-- What a member keeps of a result (R353). -/
def Coll.part (x : Coll) (i : Nat) (all : Bytes) : Bytes := if x.kind = 1 then slice all (i * x.partBytes all.length) (x.partBytes all.length) else all

/-- The bytes of a result that a member receives: those of its part, without what fills the last line of a frame. -/
def Coll.received (x : Coll) : Bytes := x.got.take (x.partBytes (if x.kind = 2 then x.members.length * x.own.length else x.own.length))

/-- The highest member holds the result: it sends each other member its part and completes (R353). -/
def State.distribute (x : Coll) (all : Bytes) (s : State) : State :=
  let me := s.placeIn x
  let s := (List.range x.members.length).foldl (fun s i =>
    if i = me then s
    else
      let xs := s.nextXfer x.pair
      xs.2.sendData x 3 (x.memberAt i) xs.1 0 true (x.part i all)) s
  s.endColl x (x.part me all)

/-- Changes a collective in progress. -/
def State.modColl (x : Coll) (f : Coll → Coll) (s : State) : Coll × State :=
  (f x, s.modPeer fun q => { q with colls := q.colls.map fun y => if y = x then f x else y })

/-- A frame of the chain reaches a member whose stroke has issued (R353). -/
def State.chainFrame (x : Coll) (f : PeerFrame) (s : State) : State :=
  let fa := descFmt (fmtA x.words)
  let me := s.placeIn x
  let highest := me + 1 = x.members.length
  let next := x.memberAt (me + 1)
  let fwd := fun (b : Bytes) (last : Bool) (s : State) => (s.countPart x.p 11 b.length).toMemberBy x.down next
    { cls := s.peerClass x.p x.c, lines := (b.length + 63) / 64, src := s.peer.index, dst := next, dstCore := x.core, pair := x.pair, op := 2, last := last,
      xferSeq := x.xferSeq, frameIndex := f.frameIndex, payload := b }
  if x.kind = 2 then
    if highest then
      let y := s.modColl x fun x => { x with got := x.got ++ f.payload, chained := x.chained || f.last, inChain := f.xferSeq }
      if f.last then y.2.distribute y.1 (y.1.got ++ y.1.own) else y.2
    else
      let y := s.modColl x fun x => { x with chained := x.chained || f.last, inChain := f.xferSeq }
      let s := fwd f.payload false y.2
      if f.last then s.sendData x 2 next x.xferSeq (f.frameIndex + 1) true x.own else s
  else
    let own := slice x.own (1024 * f.frameIndex) f.payload.length
    let r := combineRun fa x.kind f.payload own
    let y := s.modColl x fun x => { x with got := if highest then x.got ++ r.1 else x.got, flags := x.flags.join r.2, chained := x.chained || f.last, inChain := f.xferSeq }
    if highest then (if f.last then y.2.distribute y.1 y.1.got else y.2) else fwd r.1 f.last y.2

/-- A frame of the distribution (R353). -/
def State.outFrame (x : Coll) (f : PeerFrame) (s : State) : State :=
  let y := s.modColl x fun x => { x with got := x.got ++ f.payload, inOut := f.xferSeq }
  if f.last then y.2.endColl y.1 y.1.received else y.2

/-- The collective a kept frame is for: the first of its pair and core that expects it. -/
def State.collFor (s : State) (f : PeerFrame) : Option Coll :=
  s.peer.colls.find? fun x => x.reduce && x.pair == f.pair && x.core == f.dstCore &&
    (if f.op = 2 then decide (0 < s.placeIn x) && x.memberAt (s.placeIn x - 1) == f.src && !x.chained
     else x.memberAt (x.members.length - 1) == f.src)

/-- Hands the frames that wait to the strokes that expect them, in the order they came. -/
def State.pump : Nat → State → State
  | 0, s => s
  | n + 1, s =>
    match s.peer.inbox.find? fun f => (s.collFor f).isSome with
    | none => s
    | some f => match s.collFor f with
      | none => s
      | some x =>
        let s := s.modPeer fun q => { q with inbox := q.inbox.erase f }
        ((if f.op = 2 then s.chainFrame x f else s.outFrame x f)).pump n

/-- A frame of a collective for this member. -/
def State.takeReduce (f : PeerFrame) (s : State) : State :=
  if s.peer.late f then s
  else
    let s := match s.peer.pairs.find? fun e => e.1 == f.pair with
      | some e => s.countPart e.2.1 12 f.payload.length
      | none => s
    let s := s.modPeer fun q => { q with inbox := q.inbox ++ [f], lastIn := kvSet q.lastIn (f.pair * 16 + f.src) (some f.xferSeq) }
    s.pump s.peer.inbox.length

/-- PEER_REDUCE (R177, R353). -/
def meaningPeerReduce : Meaning :=
  { units := unitsOf,
    run := fun t s =>
      let w := t.w
      let ms := (List.range 16).filter fun i => (wd w 9).testBit i
      let n := bits (wd w 8) 23 0
      let reach := ms.all fun m => m == s.peer.index || (s.peer.route s.peer.index m).isSome
      match s.pairOf t.p t.c ms with
      | none => ({ fault := 0x0305 }, s.countPeer t.p 4)
      | some pair =>
        if !reach ∨ !ms.contains s.peer.index then ({ fault := 0x0305 }, s.countPeer t.p 4)
        else
          let xs := if ms.getLast? = some s.peer.index then (0, s) else s.nextXfer pair
          let own := s.readLoc t (locAt w 1) (locAt w 1).off (n * fmtWidth (descFmt (fmtA w)) / 8)
          let x : Coll := { p := t.p, c := t.c, core := t.core, stroke := t.idx, pair := pair, xferSeq := xs.1, reduce := true, members := ms, words := w }
          let x := { x with kind := bits (wd w 9) 19 16, down := s.peer.down, own := own, place := t.slot, addr := s.ctxCfg t.p t.c 0 3 * 64 + (locAt w 5).off }
          ({ peer := some xs.1 }, xs.2.modPeer fun q => { q with colls := q.colls ++ [x] }) }

/-- The first act of a PEER_REDUCE that has just issued: the lowest member starts the chain, a member alone has its
result, and frames that came before are taken up. -/
def State.startReduce (p c core : Nat) (s : State) : State :=
  match s.peer.colls.find? fun x => x.reduce && x.p == p && x.c == c && x.core == core && !x.chained && x.frames == 0 with
  | none => s
  | some x =>
    let y := s.modColl x fun x => { x with frames := 1 }
    if s.placeIn x ≠ 0 then y.2.pump y.2.peer.inbox.length
    else
      let z := y.2.modColl y.1 fun x => { x with chained := true }
      if x.members.length = 1 then z.2.endColl z.1 (z.1.part 0 z.1.own)
      else (z.2.sendData z.1 2 (x.memberAt 1) x.xferSeq 0 true x.own).pump z.2.peer.inbox.length

/-- PEER_REDUCE (R177). -/
def execPeerReduce (p c core : Nat) (s : State) : Host.Outcome State Fault Refusal :=
  settled s ((s.issue 0x31 meaningPeerReduce p c core).startReduce p c core)

/-- PEER_REDUCE_CHAIN_FRAME (R353). -/
def execPeerReduceChainFrame (port : Nat) (f : PeerFrame) (s : State) : Host.Outcome State Fault Refusal :=
  settled s (s.arrive port f [2] fun f s => s.takeReduce f)

/-- PEER_REDUCE_OUT_FRAME (R353). -/
def execPeerReduceOutFrame (port : Nat) (f : PeerFrame) (s : State) : Host.Outcome State Fault Refusal :=
  settled s (s.arrive port f [3] fun f s => s.takeReduce f)

/-! ### Aborts, failed ports and timers -/

/-- Whether an ABORT is for a collective of this member (R356): of its pair, its core and its members, and not for a SEND that has come. -/
def State.abortsColl (s : State) (f : PeerFrame) (x : Coll) : Bool :=
  x.reduce && x.pair == f.pair && x.core == f.dstCore && x.members.contains f.src && kvGet s.peer.lastIn (1024 + f.pair * 16 + f.src) != some f.xferSeq &&
  (x.inChain == 0 || x.inChain == f.xferSeq || x.memberAt (s.placeIn x - 1) != f.src)

/-- An ABORT for this member (R356). -/
def State.takeAbort (f : PeerFrame) (s : State) : State :=
  let s := match s.peer.colls.find? (s.abortsColl f) with
    | some x => s.failColl x 0x0304 3 false
    | none => s
  s.modPeer fun q =>
    let q := { q with aborted := raiseAborted f.pair q.aborted (f.src, f.xferSeq) }
    { q with inbox := q.inbox.filter fun g => !q.late g }

/-- PEER_ABORT (R356). -/
def execPeerAbort (port : Nat) (f : PeerFrame) (s : State) : Host.Outcome State Fault Refusal :=
  settled s (s.arrive port f [5] fun f s => s.takeAbort f)

/-- PEER_PATH_DOWN (R350): DETAIL names the port and the member; routes follow the links that are left. -/
def execPeerPathDown (port : Nat) (f : PeerFrame) (s : State) : Host.Outcome State Fault Refusal :=
  settled s (s.arrive port f [6] fun f s =>
    let h := (f.detail / 256 % 16, f.detail % 4)
    if s.peer.down.contains h then s else s.modPeer fun q => { q with down := q.down ++ [h] })

/-- The local ports on a stroke's routes (R355, R356). -/
def State.portsOf (s : State) (x : Coll) : List Nat :=
  (s.others x).filterMap fun m => match ({ s.peer with down := x.down } : Peers).route s.peer.index m with
    | some (h :: _) => some h.2
    | _ => none

/-- A port becomes FAILED (R356): its strokes fail, and the members that can be reached hear of it (R350). -/
def State.portFailed (k : Nat) (s : State) : State :=
  let x := s.port k
  if x.state = 7 ∨ x.state = 8 ∨ s.peer.members = 0 then s
  else
    let hit := s.peer.colls.filter fun c => (s.portsOf c).contains k
    let s := (s.modPort k fun x => { x with state := 7, replay := [], held := [], faultUpTo := none, attempts := 0 }).countPort k 9
    let s := s.modPeer fun q => { q with down := if q.down.contains (q.index, k) then q.down else q.down ++ [(q.index, k)] }
    let s := hit.foldl (fun s c => s.failColl c 0x0303 2 true) s
    let reach := (List.range s.peer.members).filter fun m => m != s.peer.index && (s.peer.route s.peer.index m).isSome
    reach.foldl (fun s m => s.toMember m (s.control 6 m 0 0 (k + 256 * s.peer.index))) s

/-- PEER_PORT_FAILED (R356). -/
def execPeerPortFailed (port : Nat) (s : State) : Host.Outcome State Fault Refusal := settled s (s.portFailed port)

/-- COLL_TIMEOUT (R355). -/
def execCollTimeout (p c core stroke : Nat) (s : State) : Host.Outcome State Fault Refusal :=
  settled s (match s.peer.colls.find? fun x => x.p == p && x.c == c && x.core == core && x.stroke == stroke with
    | none => s
    | some x =>
      let busy := (s.portsOf x).any fun k => (s.port k).state == 4 || (s.port k).state == 5 || (s.port k).state == 6
      if busy ∧ !x.extended then ((s.modColl x fun x => { x with extended := true }).2).countPeer p 6
      else s.failColl x 0x0302 1 true)

/-- The state of a lane: STATE and LOGICAL. -/
def laneCode (state logical : Nat) : Nat := state + 8 * logical

/-- PEER_LANE_FAIL (R346): the spare takes the lane's place, or the port retrains on three lanes, or fails. -/
def execPeerLaneFail (port lane : Nat) (s : State) : Host.Outcome State Fault Refusal :=
  settled s (
    let x := s.port port
    let l := x.laneStates.getD lane 60
    let fail := fun (s : State) => s.modPort port fun x => { x with laneStates := x.laneStates.set lane (laneCode 3 7) }
    if !x.up ∨ (l % 8 ≠ 1 ∧ l % 8 ≠ 2) then s
    else if l % 8 = 2 then fail s
    else if x.laneStates.getD 4 60 % 8 = 2 then
      let s := ((fail s).modPort port fun x => { x with laneStates := x.laneStates.set 4 (laneCode 1 (l / 8)) }).countPort port 5
      (s.logError 0x0307 0xFF (0x30 + port) [byteOf port, byteOf lane]).resend port
    else
      let good := (x.laneStates.filter fun v => v % 8 == 1).length - 1
      let s := (fail s).modPort port fun x => { x with lanes := good }
      if 3 ≤ good then s.retrain port else s.portFailed port)

/-- PORT_TRAINING_DONE (R347): the port sends IDENTIFY; a fast retrain that fails makes it FAILED, and other training
that fails leaves it down. -/
def execPortTrainingDone (port : Nat) (ok : Bool) (s : State) : Host.Outcome State Fault Refusal :=
  settled s (
    let x := s.port port
    if x.state ≠ 2 ∧ x.state ≠ 6 then s
    else if ok then
      let m := s.peer.neighbour s.peer.index port
      s.emitFrame port (s.control 8 m 0 0 0)
    else if x.state = 6 then s.portFailed port
    else s.modPort port fun x => { x with state := 1 })

/-- PEER_IDENTIFY (R347): a partner that agrees on the constellation, the topology and the member index brings the port
up, and what it kept is sent; another leaves it down. -/
def execPeerIdentify (port id topology member node partnerPort : Nat) (s : State) : Host.Outcome State Fault Refusal :=
  settled s (
    let x := s.port port
    if x.state ≠ 2 ∧ x.state ≠ 6 then s
    else if id = s.peer.id ∧ topology = s.peer.topology ∧ member = s.peer.neighbour s.peer.index port then
      let s := s.modPort port fun x =>
        { x with state := (if x.faultUpTo.isSome then 4 else 3), partnerNode := node, partnerPort := partnerPort, gap := false }
      let s := (s.port port).replay.foldl (fun s f => s.emitFrame port f) s
      s.flushHeld port
    else (s.modPort port fun x => { x with state := 1 }).logError 0x0309 0xFF (0x30 + port) (byteOf port :: be 4 node))

/-- The ports and the constellation at a start (R347, R349), from the saved objects. -/
def State.startPeers (s : State) : State :=
  let members := if s.cfg 0x1A00 2 = 0 then 0 else s.cfg 0x1A00 3
  let used := fun (k : Nat) => decide (members ≠ 0) && (s.cfg 0x1A00 2 == 2 || decide (k < 2))
  let lanes := [laneCode 1 0, laneCode 1 1, laneCode 1 2, laneCode 1 3, laneCode 2 7]
  let pair := fun (k : Nat) => s.field 0 0x1A10 (k + 1)
  let pairs := (List.range 64).filterMap fun k => if pair k 0 = 0xFF then none else some (k, pair k 0, pair k 1, pair k 2)
  let ports : List PeerPort := (List.range 4).map fun k => if used k then { state := 2, lanes := 4, laneStates := lanes } else {}
  s.modPeer fun _ => { id := s.cfg 0x1A00 1, topology := s.cfg 0x1A00 2, members := members, index := s.cfg 0x1A00 4, lead := s.cfg 0x1A00 5, pairs := pairs, ports := ports }

/-- CONSTELLATION_STATE: 0 none, 1 forming, 2 UP, 3 DEGRADED (R350). -/
def Peers.stateCode (x : Peers) : Nat :=
  if x.members = 0 then 0
  else if x.down ≠ [] then 3
  else if x.ports.all fun p => p.state == 8 || p.up || p.state == 6 then 2 else 1

/-! ### The mesh (R334) -/

/-- A flit of a block that a PREFETCH of a core asked for is lost: its prefetcher ends (R293, R334). -/
def State.dropPrefetch (p c core stroke : Nat) (s : State) : State :=
  { s with slots := s.slots.map fun x => { x with prefetchers := x.prefetchers.map fun e => match e with
      | some f => if f.part = p ∧ f.ctx = c ∧ f.core = core ∧ f.stroke = stroke then none else e
      | none => none } }

/-- Whether a prefetcher works for a PREFETCH. -/
def State.prefetches (s : State) (p c core stroke : Nat) : Bool := s.slots.any fun x => x.prefetchers.any fun e => match e with
  | some f => f.part == p && f.ctx == c && f.core == core && f.stroke == stroke
  | none => false

/-- The buddy copies that leave a core after the boundary of a step (R283): those of the slots processed there that the next step has not
written. -/
def State.leaving (s : State) (p c core : Nat) : List Nat := match (s.ctx p c).flight with
  | some f => f.chunkSlots.filter fun id => (s.streamSlot id).home == core && !f.slotsWritten.contains id
  | none => []

/-- MESH_FLIT_UNCORRECTABLE (R334): the flit is dropped, and the transfer it belongs to fails: a stroke that runs, a block that a PREFETCH asked for
or, where the event names no stroke (0xFFFFFFFF), the buddy copies that leave the core (assumption 66). -/
def execMeshFlitUncorrectable (router port p c core stroke : Nat) (s : State) : Host.Outcome State Fault Refusal :=
  settled s (
    let s := (s.modPeer fun q => { q with meshErrors := bump q.meshErrors 1 }).logError 0x0301 0xFF 0 [byteOf router, byteOf port]
    match s.runningAt p c core stroke with
    | none =>
      if s.prefetches p c core stroke then (s.dropPrefetch p c core stroke).stopFlight p c 0x0301 core stroke
      else if stroke = 0xFFFFFFFF ∧ s.leaving p c core ≠ [] then
        ((s.leaving p c core).foldl (fun s id => s.modStream id fun x => { x with buddyValid := false }) s).stopFlight p c 0x0301 core stroke
      else s
    | some r =>
      let s := (s.modPart p fun x => { x with running := x.running.erase r }).tearAll r.writes
      let s := s.modPeer fun q => { q with colls := q.colls.filter fun x => !(x.p == p && x.c == c && x.core == core && x.stroke == stroke) }
      s.stopFlight p c 0x0301 core stroke)

end Sys2Proof.Machine
end

