-- ==== Sys2Proof/Machine/Pattern.lean ====
section
/-! DEFINITION. What a pattern must meet to be loaded into a context (R182, R222), and the admission of real-time and
urgent contexts (R376 to R382). -/

namespace Sys2Proof.Machine

/-! ### The container (R179, R180) -/

/-- A byte of a container. -/
def Loaded.u8 (l : Loaded) (off : Nat) : Nat := ofLE (slice l.bytes off 1)
/-- Whether `n` bytes of a container are zero. -/
def Loaded.zeros (l : Loaded) (off n : Nat) : Bool := (slice l.bytes off n).all (· == 0)
/-- SIGNATURE_OFFSET. -/
def Loaded.sigAt (l : Loaded) : Nat := l.u32 92
/-- How many annotations the section holds. -/
def Loaded.annCount (l : Loaded) : Nat := (l.u32 72 - l.u32 68) / 64
/-- ENTRY_COUNT of the re-run table; 0 where there is none. -/
def Loaded.rerunCount (l : Loaded) : Nat := if l.u32 84 = 0 then 0 else l.u32 (l.u32 84)

/-- The sections in their order: where each begins and the least it holds. A section that is absent has no place. -/
def Loaded.sections (l : Loaded) : List (Nat × Nat) :=
  [(l.u32 48, 64 * l.strokeCount), (l.u32 56, 16 * l.bucketCount)] ++ (if l.pealCount = 0 then [] else [(l.u32 64, 16 * l.pealCount)]) ++
  [(l.u32 68, 64), (l.u32 72, 16 * l.u16 76), (l.u32 80, 4 * l.strokeCount)] ++
  (if l.u32 84 = 0 then [] else [(l.u32 84, l.u32 88)]) ++ [(l.sigAt, 128)]

/-- Whether sections lie in order from a place on, each on a 64-byte boundary. -/
def inOrder : Nat → List (Nat × Nat) → Bool
  | _, [] => true
  | e, (a, n) :: r => decide (e ≤ a) && a % 64 == 0 && inOrder (a + n) r

/-- The end of the bucket section. -/
def Loaded.bucketEnd (l : Loaded) : Nat := if l.pealCount = 0 then l.u32 68 else l.u32 64

/-- A bucket entry, its directory and its annotation. -/
def Loaded.bucketOk (l : Loaded) (i : Nat) : Bool :=
  let at_ := l.bucketAt i
  let d := l.u32 (at_ + 8)
  l.zeros (at_ + 5) 3 && decide (l.u8 (at_ + 4) ≤ 3) && d % 8 == 0 && decide (l.bucketAt l.bucketCount ≤ d) && decide (d + 8 * l.cores ≤ l.bucketEnd) &&
  decide (l.u32 (at_ + 12) < l.annCount)

/-- Whether an annotation's reserved bytes are zero and a bucket names it. -/
def Loaded.annOk (l : Loaded) (k : Nat) : Bool :=
  l.zeros (l.u32 68 + 64 * k + 56) 8 && (List.range l.bucketCount).any fun i => l.u32 (l.bucketAt i + 12) == k

/-- A binding-table entry. -/
def Loaded.bindOk (l : Loaded) (i : Nat) : Bool :=
  let at_ := l.u32 72 + 16 * i
  decide (1 ≤ l.u16 at_) && decide (1 ≤ l.u8 (at_ + 2)) && decide (l.u8 (at_ + 2) ≤ 3) && l.zeros (at_ + 3) 1 && l.zeros (at_ + 12) 4

/-- Whether a list of numbers repeats none. -/
def distinct : List Nat → Bool
  | [] => true
  | a :: r => !r.contains a && distinct r

/-- Whether the pattern holds a stroke of one of some opcodes. -/
def Loaded.uses (l : Loaded) (ops : List Nat) : Bool := (List.range l.strokeCount).any fun i => ops.contains (opcodeOf (l.stroke i))

/-- Whether a step of the pattern takes a key-value manifest (R241). -/
def Loaded.isKv (l : Loaded) : Bool := l.uses [0x20, 0x21, 0x22, 0x23]

/-- Whether a binding is listed with read access. -/
def Loaded.listsRead (l : Loaded) (b : Nat) : Bool := l.bindings.any fun e => e.1 == b && e.2.1 % 2 == 1

/-- Where an entry's core array lies. -/
def Loaded.coreArray (l : Loaded) (e : Nat) : Nat := l.u32 84 + l.rerunU32 e 16

/-- The wide ranges: entry, core, first stroke and count. -/
def Loaded.wideRanges (l : Loaded) : List (Nat × Nat × Nat × Nat) :=
  ((List.range l.rerunCount).flatMap fun k => (List.range l.cores).map fun c => (k + 1, c, (l.rerunCore (k + 1) c).2)).filter fun r => decide (0 < r.2.2.2)

/-- Whether two ranges meet. -/
def rangesMeet (a n b m : Nat) : Bool := decide (a < b + m) && decide (b < a + n)

/-- The re-run table as R222 has it, with the thresholds in force. -/
def Loaded.rerunOk (l : Loaded) (s : State) : Bool :=
  let base := l.u32 84
  let n := l.rerunCount
  if base = 0 then l.u32 88 == 0 && (List.range l.strokeCount).all fun i => (l.layer i).2 == 0
  else
    let es := (List.range n).map (· + 1)
    let at_ := fun (e : Nat) => base + 64 + 32 * (e - 1)
    let need := 64 + 32 * n + 16 * l.cores * n
    l.zeros (base + 4) 60 && l.u32 88 == need && decide (n ≤ 65535) &&
    es.all (fun e =>
      let off := l.rerunU32 e 16
      let w := l.u16 (at_ e + 12)
      let t := s.thresholds l (some e)
      let trip := l.rerunU32 e 4
      let watch := l.rerunU32 e 8
      l.zeros (at_ e + 2) 2 && l.zeros (at_ e + 15) 1 && l.zeros (at_ e + 24) 8 && decide (trip ≤ 1000000) && decide (watch ≤ 1000000) &&
      decide ((if watch = 0 then t.2 else watch) < (if trip = 0 then t.1 else trip)) &&
      off % 16 == 0 && decide (64 + 32 * n ≤ off) && decide (off + 16 * l.cores ≤ l.u32 88) &&
      (w == 0 || l.bindings.any fun b => b.1 == w) &&
      (List.range l.cores).all (fun c => let r := l.rerunCore e c; decide (r.2.2 ≤ 65535) && (r.1 != 0xFFFFFFFF || r.2.2 == 0)) &&
      es.all fun f => f == e || !rangesMeet off (16 * l.cores) (l.rerunU32 f 16) (16 * l.cores)) &&
    (List.range l.strokeCount).all fun i => decide ((l.layer i).2 ≤ n)

/-- PATTERN_FORMAT's conditions (R182, R222, R241, R277). -/
def Loaded.formatOk (l : Loaded) (s : State) (size : Nat) : Bool :=
  l.u32 0 == 0x54505A56 && l.u16 4 == 1 && l.u16 6 == 256 && l.zeros 78 2 && l.zeros 100 156 && decide (l.u8 37 < 8) &&
  decide (1 ≤ l.cores) && decide (l.cores ≤ 64) && decide (1 ≤ l.steps) && decide (1 ≤ l.strokeCount) && decide (l.strokeCount ≤ 16777216) &&
  decide (1 ≤ l.bucketCount) && decide (l.bucketCount ≤ 256) && decide (l.pealCount ≤ 256) && (l.pealCount != 0 || l.u32 64 == 0) &&
  l.u32 96 == l.sigAt + 128 && l.u32 96 == size && inOrder 256 l.sections && l.zeros (l.sigAt + 104) 24 &&
  (List.range l.bucketCount).all l.bucketOk && (List.range l.annCount).all l.annOk &&
  (List.range l.pealCount).all (fun k => l.zeros (l.u32 64 + 16 * k + 9) 7) &&
  (List.range (l.u16 76)).all l.bindOk && distinct (l.bindings.map (·.1)) && l.rerunOk s &&
  (!l.isKv || l.listsRead 65534) &&
  (!l.isStream || l.listsRead 65533)

/-- PATTERN_SIGNATURE's conditions (R181). -/
def Loaded.signatureOk (l : Loaded) (keys : Bytes) : Bool :=
  match keyIn keys (ofLE (slice l.bytes l.sigAt 8)) with
  | some k => Config.verifies k (Config.sha384 (l.bytes.take (l.sigAt + 8))) (slice l.bytes (l.sigAt + 8) 96)
  | none => false

/-! ### The strokes (R182, R222) -/

/-- The cores that may issue a stroke. -/
def Loaded.issuers (l : Loaded) (i : Nat) : List Nat :=
  (List.range l.cores).filter fun c =>
    (List.range l.bucketCount).any (fun b => decide ((l.dir b c).1 ≤ i) && decide (i < (l.dir b c).1 + (l.dir b c).2)) ||
    l.wideRanges.any fun r => r.2.1 == c && decide (r.2.2.1 ≤ i) && decide (i < r.2.2.1 + r.2.2.2)

/-- The first code with which a stroke fails checks 1 to 7 of R152 on one of the cores that may issue it, the descriptor of a PREFETCH
included; 0 where it passes. -/
def State.strokeCode (s : State) (cores : Nat) (l : Loaded) (i : Nat) : Nat :=
  let w := l.stroke i
  let desc := if opcodeOf w = 0x09 then descStatic l.pealCount (descBytes w) else 0
  match l.issuers i with
  | [] => firstFailing [s.checkStatic cores l.pealCount none w, desc]
  | cs => ((cs.map fun c => firstFailing [s.checkStatic cores l.pealCount (some fun k => (l.peal k).contains c) w, desc]).find? (· != 0)).getD 0

/-- The LAST strokes of a core in a bucket. -/
def Loaded.lastCount (l : Loaded) (b c : Nat) : Nat :=
  ((List.range (l.dir b c).2).filter fun i => isLast (l.stroke ((l.dir b c).1 + i))).length

/-- Whether a bucket's directory is as R182 asks. -/
def Loaded.dirOk (l : Loaded) (b : Nat) : Bool :=
  (List.range l.cores).all fun c =>
    let d := l.dir b c
    decide (0 < d.2) && decide (d.1 + d.2 ≤ l.strokeCount) && opcodeOf (l.stroke (d.1 + d.2 - 1)) == 0x3F && l.lastCount b c == l.lastCount b 0

/-- The opcodes a wide range may hold (R222). -/
def wideOps : List Nat := [0x00, 0x08, 0x0B, 0x10, 0x11, 0x12, 0x18, 0x19, 0x1A, 0x1B, 0x1C, 0x1D, 0x1E]

/-- The first stroke that breaks R222: a gate or a wide stroke. -/
def Loaded.gateFault (l : Loaded) : Option Nat :=
  let gates := (List.range l.rerunCount).flatMap fun k => (List.range l.cores).map fun c => (k + 1, c, (l.rerunCore (k + 1) c).1)
  let badGate := gates.find? fun g =>
    g.2.2 != 0xFFFFFFFF &&
    (!((List.range l.bucketCount).any fun b => decide ((l.dir b g.2.1).1 ≤ g.2.2) && decide (g.2.2 < (l.dir b g.2.1).1 + (l.dir b g.2.1).2)) ||
     l.layer g.2.2 != (l.u16 (l.u32 84 + 64 + 32 * (g.1 - 1)), g.1))
  let dirs := (List.range l.bucketCount).flatMap fun b => (List.range l.cores).map fun c => l.dir b c
  let badRange := l.wideRanges.find? fun r =>
    dirs.any (fun d => rangesMeet r.2.2.1 r.2.2.2 d.1 d.2) || decide (l.strokeCount < r.2.2.1 + r.2.2.2) ||
    l.wideRanges.any (fun q => q.1 != r.1 && rangesMeet r.2.2.1 r.2.2.2 q.2.2.1 q.2.2.2)
  let badStroke := (l.wideRanges.flatMap fun r => (List.range r.2.2.2).map (r.2.2.1 + ·)).find? fun i =>
    let w := l.stroke i
    isLast w || !wideOps.contains (opcodeOf w) || (operands w).any fun o => o.loc.space == 4
  match badGate, badRange, badStroke with
  | some g, _, _ => some g.2.2
  | none, some r, _ => some r.2.2.1
  | none, none, some i => some i
  | none, none, none => none

/-- PATTERN_STROKE's conditions: none, or the stroke and the code that DETAIL names. -/
def State.strokeFault (s : State) (cores : Nat) (l : Loaded) : Option (Nat × Nat) :=
  match (List.range l.strokeCount).find? fun i => s.strokeCode cores l i != 0 with
  | some i => some (i, s.strokeCode cores l i)
  | none =>
    if !(List.range l.bucketCount).all l.dirOk ∨ (List.range l.pealCount).any (fun k => (l.peal k).any fun m => decide (l.cores ≤ m)) then some (0xFFFFFFFF, 0)
    else l.gateFault.map fun i => (i, 0)

/-! ### The tile cap (R190) -/

/-- TILE_CAP_CYCLES. -/
def tileCap : Nat := 3276

/-- Whether a pattern's tile and non-preemptible times are within the cap. -/
def Loaded.withinCap (l : Loaded) : Bool := (List.range l.bucketCount).all fun b => decide (l.maxTile b ≤ tileCap) && decide (l.maxNonPreempt b ≤ tileCap)

/-- Whether a class is real-time or urgent. -/
def timed (cls : Nat) : Bool := cls == 2 || cls == 3

/-- Whether a partition holds a real-time or urgent context. -/
def State.hasTimed (s : State) (p : Nat) : Bool := (List.range 16).any fun c => timed (s.ctxClass p c)

/-- A best-effort context whose loaded pattern exceeds the cap. -/
def State.overCap (s : State) (p : Nat) : Option Nat :=
  (List.range 16).find? fun c => s.ctxClass p c == 1 && (match (s.ctx p c).pattern with
    | some l => !l.withinCap
    | none => false)

/-! ### Worst-case times (R381) -/

/-- Whether a pattern's buckets use only cores 0 and 1 of the cascade partition, so that it runs in ATTEND (R497). -/
def State.fitsAttend (s : State) (p : Nat) (l : Loaded) (b : Nat) : Bool :=
  p == s.cascadePart && (List.range l.cores).all fun c => decide (c < 2) || decide ((l.dir b c).2 = 0)

/-- Whether all of a pattern's buckets run in ATTEND. -/
def State.allFit (s : State) (p : Nat) (l : Loaded) : Bool := (List.range l.bucketCount).all (s.fitsAttend p l)

/-- Whether a pattern runs in the mode in force. -/
def State.runsNow (s : State) (p : Nat) (l : Loaded) : Bool := s.mode == 5 || s.allFit p l

/-- CORECLK in cycles per nanosecond, as the derivation takes it for a context. -/
def State.clockOf (s : State) (p : Nat) (l : Loaded) : Rat := if s.mode = 4 ∧ s.allFit p l then 8192 / 10000 else 16384 / 10000

/-- C of a bucket in ns; none where it needs a reservation that the partition lacks. -/
def State.bucketTime (s : State) (p : Nat) (l : Loaded) (b : Nat) : Option Rat :=
  let a := l.annAt b
  let dram := s.dramTurns p
  let peer := s.area p 0 5
  let bytes := l.u64 (a + 24)
  let pbytes := l.u64 (a + 32)
  if (bytes ≠ 0 ∧ dram = 0) ∨ (pbytes ≠ 0 ∧ peer = 0) then none
  else
    some (((l.u64 a + l.u64 (a + 8) : Nat) : Rat) / s.clockOf p l + ((l.u64 (a + 16) : Nat) : Rat) / (12288 / 10000) +
      (if bytes = 0 then 0 else ((bytes : Nat) : Rat) / ((6291456 / 10000) * (dram : Nat) / 64 * (88 / 100))) +
      (if pbytes = 0 then 0 else ((pbytes : Nat) : Rat) / ((2546 / 100) * (peer : Nat) / 64)))

/-- C of a pattern: the largest of its buckets'. -/
def State.opTime (s : State) (p : Nat) (l : Loaded) : Option Rat :=
  (List.range l.bucketCount).foldl (fun m b => match m, s.bucketTime p l b with
    | some x, some y => some (max x y)
    | _, _ => none) (some 0)

/-- The step-boundary term in ns: 0 for one step or where no stage runs. Otherwise the fixed parts of the stages, Release, Close and Reserve
(R244) and End and Route (R280), and a free amount for what they add for each flip, page, slot and row, which stand in manifests
(assumption 21). The last step ends at Close or Release. -/
def Loaded.boundaryTime (l : Loaded) : Rat :=
  if l.steps ≤ 1 ∨ !(l.isKv || l.isStream) then 0
  else (((if l.isKv then 700 * (l.steps - 1) + 300 else 0) + (if l.isStream then 500 * (l.steps - 1) + 100 else 0) + Config.boundaryNs l.bytes : Nat) : Rat)

/-- The tile wait. -/
def State.tileWait (s : State) (p : Nat) (l : Loaded) : Rat := ((tileCap : Nat) : Rat) / s.clockOf p l

/-- The cores of a pattern that hold strokes other than NOP and END in some bucket. -/
def Loaded.busyCores (l : Loaded) : List Nat :=
  (List.range l.cores).filter fun c => (List.range l.bucketCount).any fun b =>
    (List.range (l.dir b c).2).any fun i => let o := opcodeOf (l.stroke ((l.dir b c).1 + i)); o != 0x00 && o != 0x3F

/-- Whether two contexts have loaded patterns that share a core. -/
def State.shares (s : State) (p i j : Nat) : Bool := match (s.ctx p i).pattern, (s.ctx p j).pattern with
  | some a, some b => a.busyCores.any b.busyCores.contains
  | _, _ => false

/-- Whether a context is enabled, has a pattern loaded and runs in the mode in force. -/
def State.counts (s : State) (p c : Nat) : Bool := s.ctxClass p c != 0 && (match (s.ctx p c).pattern with
  | some l => s.runsNow p l
  | none => false)

/-- RESERVED_CORES of a context (R380). -/
def State.reservedCores (s : State) (p c : Nat) : List Nat :=
  let m := ofLE (s.obj 0 (0x3010 + 0x100 * p + 4 * c) 0x0A)
  (List.range 64).filter fun k => m.testBit k

/-- One more step of the iteration of R382. -/
def admitStep (base r : Rat) (js : List (Rat × Rat)) : Rat := js.foldl (fun a j => a + ((r / j.1).ceil : Rat) * j.2) base

/-- The iteration of R382: the response, or none where it passes the beat. -/
def admitLoop (base beat : Rat) (js : List (Rat × Rat)) : Nat → Rat → Option Rat
  | 0, _ => none
  | n + 1, r =>
    let r' := admitStep base r js
    if r' = r then (if r ≤ beat then some r else none)
    else if beat < r' then none
    else admitLoop base beat js n r'

/-- The period and the charge of a context that wins over another; none where its operation has no bound. -/
def State.charge (s : State) (p j : Nat) : Option (Rat × Rat) := match (s.ctx p j).pattern with
  | none => none
  | some l => match s.opTime p l with
    | none => none
    | some c =>
      if s.ctxClass p j = 3 then some ((1000 * s.ctxCfg p j 0 0x0B : Nat), 200 + c)
      else some ((1000 * s.ctxCfg p j 0 8 : Nat), 1000 + c)

/-- The response of a real-time context (R382): none where it is not admitted. -/
def State.response (s : State) (p i : Nat) (l : Loaded) : Option Rat :=
  let js := (List.range 16).filter fun j => j != i && s.counts p j && s.outranks p j i && s.shares p i j
  let charges := js.map (s.charge p)
  let b : Rat := if (List.range 16).any fun j => j != i && s.counts p j && s.outranks p i j && s.shares p i j then s.tileWait p l else 0
  match s.opTime p l, charges.all Option.isSome with
  | some c, true =>
    let base := 1000 + b + c + l.boundaryTime + 450
    admitLoop base (1000 * s.ctxCfg p i 0 8 : Nat) (charges.filterMap id) 1000000 base
  | _, _ => none

/-- The urgent response (R381). -/
def State.urgentSum (s : State) (p i : Nat) (l : Loaded) : Option Rat :=
  let shared := (List.range 16).any fun j => j != i && s.counts p j && s.shares p i j
  let tile : Rat := if l.busyCores.all (s.reservedCores p i).contains then 0 else if s.mode = 4 ∧ !shared then 0 else s.tileWait p l
  (s.opTime p l).map fun c => 120 + 80 + tile + 1600 + c + l.boundaryTime + 200 + 250

/-- The real-time context that is not admitted, if any (R382). -/
def State.unadmitted (s : State) (p : Nat) : Option Nat :=
  (List.range 16).find? fun i => s.ctxClass p i == 2 && (match (s.ctx p i).pattern with
    | some l => (s.response p i l).isNone
    | none => false)

/-- WCRT_NS of every context (R382): 0 where it has no admitted response. -/
def State.storeWcrt (p : Nat) (s : State) : State :=
  (List.range 16).foldl (fun t c => t.modCtx p c fun x => { x with wcrt := match x.pattern with
    | none => 0
    | some l =>
      let r := if s.ctxClass p c = 3 then s.urgentSum p c l else if s.ctxClass p c = 2 then s.response p c l else none
      (r.map fun q => q.ceil.toNat).getD 0 }) s

/-! ### The urgent context (R376, R379, R380) -/

/-- Whether a ring of a context holds a completed CACHE claim of its partition. -/
def State.ringPinned (s : State) (p c sub : Nat) : Bool := match s.objOf (s.ctxCfg p c 1 sub) with
  | some o => o.claimed p 2
  | none => false

/-- The lines of the first block a core fetches through a binding (R379). -/
def Loaded.firstBlock (l : Loaded) (b c : Nat) : Option Nat :=
  let d := l.dir b c
  (((List.range d.2).map fun i => l.stroke (d.1 + i)).find? fun w =>
    opcodeOf w == 0x09 || ([0x08, 0x0A, 0x0B].contains (opcodeOf w) && (operands w).any fun o => o.rd && o.loc.space == 3)).map fun w =>
      match opcodeOf w with
      | 0x09 => lo16 w 5
      | 0x0B => lo16 w 8 * hi16 w 8
      | _ => lo16 w 8 * hi16 w 8

/-- Lm of a transfer of L lines with s slots (R337). -/
def meshLm (l s : Nat) : Nat := 37 + (64 + s - 1) / s + (64 * l + s - 1) / s - l

/-- Whether the first fetch of every core passes (R379). -/
def State.fetchOk (s : State) (p c : Nat) (l : Loaded) : Bool :=
  let b := s.ctxCfg p c 0 0x0C
  let m := s.area p 0 4
  (List.range l.cores).all fun k => match l.firstBlock b k with
    | none => true
    | some n => decide (0 < m) && decide ((1 + meshLm 1 m + 24 + (n + meshLm n m)) * 10000 ≤ 1600 * 12288)

/-- The condition of R376 that an urgent context fails, from 1 in the table's order; 0 where it meets all. -/
def State.urgentCondition (s : State) (p c : Nat) : Nat :=
  if s.area p 0 4 < 4 then 1
  else if !(s.ringPinned p c 1 && s.ringPinned p c 2) then 2
  else if (match (s.ctx p c).pattern with | some l => !l.withinCap | none => false) then 3
  else if (s.unadmitted p).isSome then 4 else 0

/-- Admission after a change (R376, R382): 0, or ADMISSION_REFUSED with its DETAIL. `t` is the state after the
change. -/
def admission (t : State) (p c : Nat) : Option Bytes :=
  let u := if t.ctxClass p c = 3 then t.urgentCondition p c else 0
  if u ≠ 0 then some [byteOf c, byteOf u]
  else match t.unadmitted p with
    | some i => some [byteOf i, 0]
    | none => none

/-- Whether a pattern leaves the reserved cores of the partition's urgent context alone (R380). -/
def State.reserveOk (s : State) (p c : Nat) (l : Loaded) : Bool :=
  (List.range 16).all fun u => u == c || s.ctxClass p u != 3 || !(l.busyCores.any (s.reservedCores p u).contains)

/-! ### Loading (R366) -/

/-- The first code with which a load of a pattern fails (R182, R190, R376, R379, R380, R382), with its DETAIL; 0
where it passes. -/
def State.patternCode (s : State) (p c : Nat) (l : Loaded) (size : Nat) : Nat × Bytes :=
  let cls := s.ctxClass p c
  let cores := s.area p 0 1
  let accMax := (List.range l.bucketCount).all fun b => decide (l.maxAcc b ≤ s.ctxCfg p c 0 6)
  if !l.formatOk s size then (0x0130, [])
  else if l.u32 28 ≠ 0x00008640 ∨ s.cfg 0x1000 8 < l.u32 32 then (0x0131, [])
  else if !l.signatureOk (s.obj 0 (0x3052 + 0x100 * p) 2) then (0x0132, [])
  else if cores < l.cores then (0x0133, [])
  else if s.ctxCfg p c 0 4 < l.spadLines ∨ s.ctxCfg p c 0 6 < l.u32 44 ∨ (timed cls && !accMax) then (0x0134, [])
  else if cls = 0 ∨ !l.classes.testBit (cls - 1) ∨ (timed cls && !l.withinCap) then (0x0137, [])
  else if cls = 1 ∧ s.hasTimed p ∧ !l.withinCap then (0x0170, [])
  else match s.strokeFault cores l with
    | some f => (0x0135, be 4 f.1 ++ be 2 f.2)
    | none =>
      if !s.reserveOk p c l then (0x0133, [])
      else if !timed cls then (0, [])
      else if cls = 3 ∧ !s.fetchOk p c l then (0x0405, [])
      else match admission (s.modCtx p c fun x => { x with pattern := some l }) p c with
        | some d => (0x0402, d)
        | none => (0, [])

/-- A pattern takes its place in a context; the records of its SAT_CHECK layers begin at zero (R366, R215, R220). -/
def State.installPattern (p c : Nat) (l : Loaded) (s : State) : State :=
  (s.modCtx p c fun x => { x with pattern := some l, layerStats := l.freshStats, reload := none }).storeWcrt p

/-- Counts a refusal under R190. -/
def State.countTileCap (s : State) : State := { s with tileCapRefusals := s.tileCapRefusals + 1 }

/-- The code of a load (R366): access first, then the checks; with what the refusal records. -/
def State.loadCode (s : State) (p c handle : Nat) : Nat × State :=
  match s.objOf handle with
  | none => (0x0202, s)
  | some o =>
    if !(o.owner == p || (o.claim? p).isSome) ∨ o.deleting then (0x0202, s)
    else if o.state = 4 then (0x0207, s)
    else if timed (s.ctxClass p c) ∧ !o.claimed p 1 then (0x0206, s)
    else
      let l : Loaded := { handle := handle, bytes := memRead o.content 0 o.size }
      let r := s.patternCode p c l o.size
      (r.1, (if r.1 = 0x0170 ∨ (r.1 = 0x0137 ∧ timed (s.ctxClass p c) ∧ !l.withinCap) then s.countTileCap else s).because r.2)

/-- PATTERN_LOAD's own checks. -/
def checkPatternLoad : Check := fun _ t v s =>
  if !s.hasKey t.i then (0x0C01, s)
  else if (s.ctx t.i t.j).flight.isSome then (0x0E15, s)
  else s.loadCode t.i t.j (ofBE v)

/-- PATTERN_LOAD takes the pattern that the object holds. -/
def commitPatternLoad : Commit := fun _ t v s =>
  match s.objOf (ofBE v) with
  | none => s
  | some o => s.installPattern t.i t.j { handle := ofBE v, bytes := memRead o.content 0 o.size }

/-- PATTERN_LOAD (R366). -/
def execPatternLoad (rq : Request) (s : State) : Host.Outcome State Fault Refusal :=
  settled s (s.ownWrite "PATTERN_LOAD" checkPatternLoad commitPatternLoad false rq)

/-- PATTERN_UNLOAD's own check. -/
def checkPatternUnload : Check := fun _ t v s => if ofBE v = 1 ∧ (s.ctx t.i t.j).flight.isSome then (0x0E15, s) else (0, s)

/-- PATTERN_UNLOAD: TRUE unloads. -/
def commitPatternUnload : Commit := fun _ t v s =>
  if ofBE v = 0 then s else (s.modCtx t.i t.j fun x => { x with pattern := none }).storeWcrt t.i

/-- PATTERN_UNLOAD (R366). -/
def execPatternUnload (rq : Request) (s : State) : Host.Outcome State Fault Refusal :=
  settled s (s.ownWrite "PATTERN_UNLOAD" checkPatternUnload commitPatternUnload false rq)

/-- The entries of a binding table as they are written. -/
def bindEntries (v : Bytes) : List (Nat × Nat × Nat) :=
  (List.range (v.length / 8)).map fun i => (ofBE (slice v (8 * i) 2), ofBE (slice v (8 * i + 2) 2), ofBE (slice v (8 * i + 4) 4))

/-- BINDINGS' own checks (R367). -/
def checkBindings : Check := fun _ _ v s =>
  let es := bindEntries v
  if v.length % 8 ≠ 0 then (0x0E0A, s)
  else if es.any (fun e => e.1 == 0 || e.2.1 != 0) then (0x0E0A, s)
  else (0, s)

/-- Of entries that name one binding the last stands. DESIGN CHOICE (assumption 36). -/
def lastBinds : List (Nat × Nat) → List (Nat × Nat)
  | [] => []
  | e :: r => if r.any (·.1 == e.1) then lastBinds r else e :: lastBinds r

/-- BINDINGS replaces the table; a snapshot already taken stands. -/
def commitBindings : Commit := fun _ t v s => s.modCtx t.i t.j fun x => { x with binds := lastBinds ((bindEntries v).map fun e => (e.1, e.2.2)) }

/-- BINDINGS (R367). -/
def execBindings (rq : Request) (s : State) : Host.Outcome State Fault Refusal :=
  settled s (s.ownWrite "BINDINGS" checkBindings commitBindings true rq)

/-! ### Contexts (R362 to R364, R382) -/

/-- Whether two ranges of lines or rows that hold something overlap. -/
def sharesMeet (a n b m : Nat) : Bool := decide (0 < n) && decide (0 < m) && rangesMeet a n b m

/-- Whether a context's shares lie in bounds and apart from those of the other enabled contexts (R363). -/
def State.shareOk (s : State) (p c : Nat) : Bool :=
  let g := fun (k off : Nat) => s.ctxCfg p k 0 off
  decide (g c 3 + g c 4 ≤ 32768) && decide (g c 5 + g c 6 ≤ s.workingRows) &&
  (s.ctxClass p c == 0 || (List.range 16).all fun k => k == c || s.ctxClass p k == 0 ||
    (!sharesMeet (g c 3) (g c 4) (g k 3) (g k 4) && !sharesMeet (g c 5) (g c 6) (g k 5) (g k 6)))

/-- Whether the partition's enabled non-urgent contexts hold from 1 to 60 queue entries each and no more than 60 together (R364). DEDUCED
(assumption 64): a write that leaves one of them none is out of range, as the range is. -/
def State.queueOk (s : State) (p : Nat) : Bool :=
  let held := ((List.range 16).filter fun c => s.ctxClass p c != 0 && s.ctxClass p c != 3).map fun c => s.ctxCfg p c 0 7
  held.all (fun n => decide (1 ≤ n)) && decide (held.sum ≤ 60)

/-- CTX_CLASS's own checks (R190, R362 to R364, R376, R382). A second urgent context is VALUE_OUT_OF_RANGE. -/
def checkCtxClass : Check := fun _ t v s =>
  let p := t.i
  let c := t.j
  let cls := ofBE v
  let s' := s.setObj t.part t.index t.sub v
  if 3 < cls then (0x0E0A, s)
  else if cls = 3 ∧ (List.range 16).any (fun k => k != c && s.ctxClass p k == 3) then (0x0E0A, s)
  else if !s'.shareOk p c ∨ !s'.queueOk p then (0x0E0A, s)
  else if (s.ctx p c).flight.isSome then (0x0E15, s)
  else match timed cls, s.overCap p with
    | true, some k => (0x0E15, (s.countTileCap).logViolation 0x0170 p 0 [byteOf k])
    | _, _ => match admission s' p c with
      | some d => (0x0402, s.because d)
      | none => (0, s)

/-- CTX_CLASS sets the class, and the responses follow. -/
def commitCtxClass : Commit := fun _ t v s => (s.setObj t.part t.index t.sub v).storeWcrt t.i

/-- CTX_CLASS (R362, R382). -/
def execCtxClass (rq : Request) (s : State) : Host.Outcome State Fault Refusal :=
  settled s (s.ownWrite "CTX_CLASS" checkCtxClass commitCtxClass false rq)

/-- The checks of a write of another object of a context's index 0x10 + 4c (R363, R364, R374, R380, R382). `s'` is the
state with the value written. -/
def checkCtxObject : Check := fun _ t v s =>
  let p := t.i
  let c := t.j
  let s' := s.setObj t.part t.index t.sub v
  let busy := (s.ctx p c).flight.isSome
  let adm := fun (_ : Unit) => match s'.unadmitted p with
    | some i => (0x0402, s.because [byteOf i, 0])
    | none => (0, s)
  if 3 ≤ t.sub ∧ t.sub ≤ 7 then
    if !(if t.sub = 7 then s'.queueOk p else s'.shareOk p c) then (0x0E0A, s)
    else if busy then (0x0E15, s) else (0, s)
  else if t.sub = 8 then
    if (match (s.ctx p c).pattern with | some l => l.isStream && ofBE v != 10000 * s.field p 0x2420 (c + 1) 0 | none => false) then (0x0E0A, s)
    else if ofBE v ≤ s.ctxCfg p c 0 9 then (0x0E0A, s) else adm ()
  else if t.sub = 9 then (if ofBE v < s.ctxCfg p c 0 8 then (0, s) else (0x0E0A, s))
  else if t.sub = 0x0A then
    if (List.range 16).any fun k => k != c && (match (s.ctx p k).pattern with
        | some l => s'.ctxClass p c == 3 && l.busyCores.any (s'.reservedCores p c).contains
        | none => false) then (0x0E15, s)
    else (0, s)
  else if t.sub = 2 ∨ t.sub = 0x0B then adm ()
  else (0, s)

/-- The effect of such a write. -/
def commitCtxObject : Commit := fun _ t v s => (s.setObj t.part t.index t.sub v).storeWcrt t.i

end Sys2Proof.Machine
end

