-- ==== Sys2Proof/Machine/Submit.lean ====
section
/-! DEFINITION. Submissions from their doorbell to their completion (R367 to R378, with R156, R157, R219, R254, R286
and R288). -/

namespace Sys2Proof.Machine

/-- NS112 in whole nanoseconds (R447). -/
def State.ns (s : State) : Nat := s.time.ns112 / 2 ^ 32

/-! ### Rings (R369 to R371) -/

/-- RING_ENTRIES of a context. -/
def State.ringEntries (s : State) (p c : Nat) : Nat := s.ctxCfg p c 1 3
/-- The object that a context's ring handle names. -/
def State.ring? (s : State) (p c sub : Nat) : Option Obj := s.objOf (s.ctxCfg p c 1 sub)
/-- CPL_CONSUMER. -/
def State.cplConsumer (s : State) (p c : Nat) : Nat := match s.ring? p c 2 with
  | some o => o.u 0 4
  | none => 0

/-- A submission entry as the part reads it (R370). -/
def State.readEntry (s : State) (p c idx : Nat) : Submission :=
  match s.ring? p c 1 with
  | none => { index := idx, seq := 0, bucket := 0, flags := 0, tag := 0, releaseNs := 0, malformed := true }
  | some o =>
    let a := 64 * (idx % s.ringEntries p c)
    let flags := o.u (a + 6) 2
    let ov := (List.range 4).map fun i => (o.u (a + 32 + 8 * i) 2, o.u (a + 36 + 8 * i) 4)
    let used := ov.filter fun e => e.1 != 0
    let bad := decide (3 < flags) || o.u (a + 24) 8 != 0 || (List.range 4).any (fun i => o.u (a + 34 + 8 * i) 2 != 0) ||
      (flags.testBit 0 && s.ctxClass p c != 1) || (!flags.testBit 0 && o.u (a + 16) 8 != 0) || !distinct (used.map (·.1))
    { index := idx, seq := o.u a 4, bucket := o.u (a + 4) 2, flags := flags, tag := o.u (a + 8) 8, releaseNs := o.u (a + 16) 8,
      overrides := used, malformed := bad }

/-! ### Completion (R219, R286, R288, R371) -/

/-- The status of a submission that no refusal or fault ended (R219, R286, R288). -/
def finalStatus (tripped rerun released late : Bool) : Nat :=
  if tripped then 0x0161 else if rerun then 0x0160 else if released then 0x0501 else if late then 0x050A else 0

/-- What a completion reports. -/
structure Done where
  code : Nat
  core : Nat := 0xFF
  stroke : Nat := 0xFFFFFFFF
  flags : Nat := 0
  steps : Nat := 0
  saturated : Nat := 0
  user : Nat := 0

/-- The 64 bytes of a completion entry (R371). -/
def Done.bytes (d : Done) (sub : Submission) (now : Nat) : Bytes :=
  le 4 sub.seq ++ le 2 d.code ++ [byteOf d.core, 0] ++ le 4 d.stroke ++ le 2 d.flags ++ le 2 d.steps ++ le 8 sub.tag ++ le 8 (d.saturated % 2 ^ 64) ++
  le 4 d.user ++ le 4 0 ++ le 8 ((sub.released.getD now) % 2 ^ 64) ++ le 8 (now % 2 ^ 64) ++ le 8 0

/-- The entry is written, CPL_PRODUCER advances, and the completion is signalled (R371). -/
def State.writeCompletion (p c : Nat) (sub : Submission) (d : Done) (s : State) : State :=
  let k := (s.ctx p c).cplProducer
  let at_ := 64 + 64 * (k % s.ringEntries p c)
  let s := match s.ring? p c 2 with
    | some o => s.modObj o.owner o.index fun x =>
        { x with content := memWrite (memWrite x.content at_ (d.bytes sub s.ns)) 4 (le 4 ((k + 1) % 2 ^ 32)) }
    | none => s
  let s := s.modCtx p c fun x =>
    { x with cplProducer := (k + 1) % 2 ^ 32, lastCompleted := sub.seq, lastCode := d.code, counts := bump x.counts 1 }
  let s := s.capture p 2 ([byteOf c, 0] ++ le 2 d.code ++ le 4 sub.seq ++ le 2 d.flags ++ le 2 d.steps)
  let s := if sub.flags.testBit 1 then s
    else ({ s with svc := { s.svc with signals := s.svc.signals ++ [(0, 0x3013 + 0x100 * p + 4 * c, 1)] } }).send (.msix (p + 1) (2 + c))
  -- a gate submission leaves its code with the stream context that waits for it (R289)
  (List.range 16).foldl (fun s k => s.modCtx p k fun x => match x.gating with
    | some (n, none) => if s.field p 0x2420 (k + 1) 2 = c then { x with gating := some (n, some d.code) } else x
    | _ => x) s

/-- A partition that is stopping stops with its last submission (R360). A doorbell that the urgent path holds is no accepted submission, so it does
not keep the partition from stopping; it is accepted only once the partition runs again. DESIGN CHOICE (assumption 65). -/
def State.settleStop (p : Nat) (s : State) : State :=
  if (s.part p).state = 5 ∧ (s.part p).ctxs.all (fun x => x.flight.isNone && x.queue.isEmpty) then s.modPart p fun x => { x with state := 1 } else s

/-- The submission in flight ends with its completion; the objects it named may go (R324). -/
def State.finishFlight (p c : Nat) (f : Flight) (stop : Option (Nat × Nat × Nat)) (s : State) : State :=
  let now := s.ns
  let late := match f.sub.deadline with
    | some d => decide (d < now)
    | none => false
  let isStream := match (s.ctx p c).pattern with
    | some l => l.isStream
    | none => false
  let chunkLate := isStream && decide (f.sub.releasedNow.getD now + 1000 * s.field p 0x2420 (c + 1) 7 < now)
  let flags := f.flags.word + 8 * (f.marks ||| (if late then 8 else 0))
  let d : Done := match stop with
    | some (code, core, idx) => { code := code, core := core, stroke := idx, flags := flags, steps := f.ended, saturated := f.flags.satCount, user := f.userValue }
    | none => { code := finalStatus f.tripped f.rerun f.sawReleased chunkLate, flags := flags, steps := f.ended, saturated := f.flags.satCount, user := f.userValue }
  let s := s.modCtx p c fun x => { x with flight := none }
  let s := if late then s.countCtx p c 2 else s
  let s := if chunkLate then f.chunkSlots.foldl (fun s id => s.modStream id fun x => { x with late := x.late + 1 }) (s.countStream p 1 1) else s
  let s := s.writeCompletion p c f.sub d
  let s := f.binds.foldl (fun s b => match s.objOf b.2 with
    | some o => s.finishDelete o.owner o.index
    | none => s) s
  s.settleStop p

/-- A submission that is not dispatched completes with its code (R367, R370). -/
def State.refuseSub (p c code : Nat) (sub : Submission) (s : State) : State :=
  ((s.countCtx p c 6).writeCompletion p c sub { code := code }).settleStop p

/-! ### Steps (R156, R242, R254, R279) -/

/-- The pair of a context and its members (R351); none where the context is not paired. -/
def State.ctxPair (s : State) (p c : Nat) : Option (Nat × List Nat) :=
  (s.peer.pairs.find? fun e => e.2.1 == p && e.2.2.1 == c).map fun e => (e.1, (List.range 16).filter fun m => e.2.2.2.testBit m)

/-- The checks of a step: a code and the rows that fail. -/
def State.stepCode (s : State) (p c : Nat) (l : Loaded) (f : Flight) : Nat × List Nat :=
  let k := if l.isKv then s.kvCheck p c l f else (0, [])
  if k.1 ≠ 0 then k else if l.isStream then (s.streamCheck p c l f, []) else (0, [])

/-- A step that does not start ends its submission (R243, R279). -/
def State.stepRefused (p c code short : Nat) (rows : List Nat) (l : Loaded) (f : Flight) (s : State) : State :=
  let s := if l.isKv ∧ 0x0600 ≤ code then s.kvShortage p c code short rows f else s.countStream p 2 1
  s.stopFlight p c code 0xFF 0xFFFFFFFF

/-- A step that passes its checks reserves and places, and its strokes may issue. -/
def State.stepStarts (p c : Nat) (l : Loaded) (f : Flight) (s : State) : State :=
  let s := if l.isKv then s.kvReserve p c f else s
  let s := if l.isStream then s.streamRoute p c l f else s
  s.modFlight p c fun g => { g with started := true, awaiting := [] }

/-- The first outcome known of a member of a pair. -/
def Peers.outcome? (x : Peers) (pair m : Nat) : Option Nat := (x.outcomes.find? fun e => e.1 == pair && e.2.1 == m).map (·.2.2)

/-- Takes the first outcome of each member out of the list. -/
def Peers.takeOutcomes (x : Peers) (pair : Nat) (ms : List Nat) : Peers :=
  { x with outcomes := ms.foldl (fun l m => match l.find? fun e => e.1 == pair && e.2.1 == m with
      | some e => l.erase e
      | none => l) x.outcomes }

/-- A paired context whose members have all sent their outcomes starts its step, or refuses it on every member (R254). -/
def State.resolvePair (p c : Nat) (s : State) : State :=
  match (s.ctx p c).flight, (s.ctx p c).pattern, s.ctxPair p c with
  | some f, some l, some (pair, ms) =>
    if f.awaiting = [] ∨ f.stop.isSome ∨ ms.any (fun m => (s.peer.outcome? pair m).isNone) then s
    else
      let codes := ms.map fun m => (m, (s.peer.outcome? pair m).getD 0)
      let own := (s.peer.outcome? pair s.peer.index).getD 0
      let s := s.modPeer fun x => x.takeOutcomes pair ms
      let short := (codes.map fun e => if e.2 = 0x0601 then 2 ^ e.1 else 0).sum
      let again := s.stepCode p c l f
      let code := if own ≠ 0 then own else if again.1 ≠ 0 then again.1 else ((codes.find? fun e => e.2 != 0).map (·.2)).getD 0
      if code = 0 then s.stepStarts p c l f
      else (s.modFlight p c fun g => { g with awaiting := [] }).stepRefused p c code short (if own = 0 ∧ again.1 = 0 then [] else again.2) l f
  | _, _, _ => s

/-- The next step of the submission in flight: checked, and started, refused, or put to the other members. -/
def State.nextStep (p c : Nat) (s : State) : State :=
  match (s.ctx p c).flight, (s.ctx p c).pattern with
  | some f, some l =>
    let r := s.stepCode p c l f
    match (if l.isKv ∧ s.peer.members ≠ 0 then s.ctxPair p c else none) with
    | some (pair, ms) =>
      let s := (s.modFlight p c fun g => { g with awaiting := ms }).modPeer fun x => { x with outcomes := x.outcomes ++ [(pair, x.index, r.1)] }
      let s := (ms.filter (· != s.peer.index)).foldl (fun s m => s.toMember m (s.control 7 m pair 0 r.1)) s
      s.resolvePair p c
    | none => if r.1 = 0 then s.stepStarts p c l f else s.stepRefused p c r.1 0 r.2 l f
  | _, _ => s

/-- PEER_RESERVE (R254): another member's outcome. -/
def execPeerReserve (port : Nat) (f : PeerFrame) (code : Nat) (s : State) : Host.Outcome State Fault Refusal :=
  settled s (s.arrive port f [7] fun f s =>
    match s.peer.pairs.find? fun e => e.1 == f.pair && e.2.2.2.testBit f.src with
    | none => s
    | some (_, p, c, _) => (s.modPeer fun x => { x with outcomes := x.outcomes ++ [(f.pair, f.src, code)] }).resolvePair p c)

/-- The stages of the boundary that ends a step (R244, R280). -/
def State.boundary (p c : Nat) (f : Flight) (s : State) : State :=
  let s := s.capture p 3 ([byteOf c, 0] ++ le 2 f.step ++ le 4 f.sub.seq)
  let live := (f.streamRows.filter fun r => !r.released).map (·.slot)
  let s := (s.kvBoundary p c).streamBoundary p c
  s.modFlight p c fun g => { g with started := false, step := f.step + 1, ended := f.ended + 1, chunkSlots := g.chunkSlots ++ live.filter fun i => !g.chunkSlots.contains i }

/-- Whether the step in progress has ended on every core. -/
def Flight.stepEnded (f : Flight) : Bool := f.started && f.stop.isNone && f.cores.all fun r => decide (f.step < r.steps)

/-- STEP_BOUNDARY (R156). -/
def execStepBoundary (p c : Nat) (s : State) : Host.Outcome State Fault Refusal :=
  settled s (match (s.ctx p c).flight with
    | none => s
    | some f =>
      if !f.stepEnded then s
      else
        let s := s.boundary p c f
        if f.cores.all (·.ended) then s else s.nextStep p c)

/-! ### Dispatch (R367, R373, R377) -/

/-- The bindings a submission is dispatched with: the table under the OVERRIDES of the entry. -/
def overlay (binds overrides : List (Nat × Nat)) : List (Nat × Nat) := overrides ++ binds.filter fun b => !overrides.any fun o => o.1 == b.1

/-- The code of a binding that a pattern lists (R150, R325, R379), or 0. -/
def State.bindCode (s : State) (p c : Nat) (binds : List (Nat × Nat)) (e : Nat × Nat × Nat) : Nat :=
  match s.boundIn binds e.1 with
  | none => 0x0125
  | some o =>
    if !(o.owner == p || (o.claim? p).isSome) ∨ o.kind = 4 ∨ (o.kind = 1 ∧ 2 ≤ e.2.1) ∨ o.size < e.2.2 then 0x0125
    else if timed (s.ctxClass p c) ∧ !o.claimed p 1 then 0x0206
    else if s.ctxClass p c = 1 ∧ (o.claim? p).isNone ∧ s.claimCode p o 1 = 0x0203 then 0x0203
    else 0

/-- The bindings that the first fetches of an urgent bucket read (R379). -/
def Loaded.firstBinds (l : Loaded) (b : Nat) : List Nat :=
  (List.range l.cores).filterMap fun k =>
    let d := l.dir b k
    (((List.range d.2).map fun i => l.stroke (d.1 + i)).find? fun w =>
      opcodeOf w == 0x09 || ([0x08, 0x0A, 0x0B].contains (opcodeOf w) && (operands w).any fun o => o.rd && o.loc.space == 3)).bind fun w =>
        if opcodeOf w = 0x09 then some (dSource (descBytes w)).obj else ((operands w).find? fun o => o.rd && o.loc.space == 3).map (·.loc.obj)

/-- Why a submission is not dispatched, or 0. -/
def State.dispatchCode (s : State) (p c : Nat) (sub : Submission) : Nat :=
  if sub.malformed then 0x0403
  else if (s.part p).state = 3 then 0x0108
  else match (s.ctx p c).pattern with
    | none => 0x0404
    | some l =>
      let binds := overlay (s.ctx p c).binds sub.overrides
      if l.bucketCount ≤ sub.bucket then 0x0136
      else
        let code := ((l.bindings.map (s.bindCode p c binds)).find? (· != 0)).getD 0
        if code ≠ 0 then code
        else if s.ctxClass p c = 3 ∧ (l.firstBinds sub.bucket).any (fun b => match s.boundIn binds b with
            | some o => !o.claimed p 2
            | none => true) then 0x0206
        else 0

/-- Clears a context's tokens on the cores of its partition. -/
def State.clearTokens (p c : Nat) (s : State) : State :=
  ((s.part p).map.filterMap id).foldl (fun s n => s.modSlot n fun x => { x with tokens := x.tokens.zipIdx.map fun e => if e.2 / 8 = c then 0 else e.1 }) s

/-- A submission takes its place in flight: the snapshot of its bindings, its strokes in the queues, its first step. -/
def State.takeFlight (p c : Nat) (sub : Submission) (l : Loaded) (s : State) : State :=
  let cores : List CoreRun := (List.range l.cores).map fun k => { core := k, todo := (List.range (l.dir sub.bucket k).2).map ((l.dir sub.bucket k).1 + ·) }
  let s := (s.clearTokens p c).modCtx p c fun x =>
    { x with queue := x.queue.drop 1, flight := some { sub := sub, binds := overlay x.binds sub.overrides, cores := cores }, lastDispatched := sub.seq }
  ((List.range l.cores).foldl (fun s k => s.fillQueue p c k) s).nextStep p c

/-- Whether a submission runs in the mode in force (R497), and no descent from ACTIVE is under way. -/
def State.modeFits (s : State) (p c : Nat) (sub : Submission) : Bool := (s.mode == 5 && s.power.down.isNone) || (match (s.ctx p c).pattern with
  | some l => s.fitsAttend p l sub.bucket
  | none => true)

/-- AUTO of a context's STREAM_CHUNK_CFG (R287). -/
def State.autoChunks (s : State) (p c : Nat) : Bool := s.field p 0x2420 (c + 1) 1 == 1

/-- GATE_CONTEXT of a stream context, where it names another context of the partition (R289). -/
def State.gateContext (s : State) (p c : Nat) : Option Nat :=
  let g := s.field p 0x2420 (c + 1) 2
  if 16 ≤ g ∨ g = c then none else some g

/-- Whether a chunk that the host submits waits for its gate submission and the update of the gates (R289). -/
def State.awaitsGate (s : State) (p c : Nat) (sub : Submission) : Bool :=
  !sub.gated && !s.autoChunks p c && (s.gateContext p c).isSome && (match (s.ctx p c).pattern with
    | some l => l.isStream
    | none => false)

/-- Dispatches what a context may dispatch: submissions that are refused complete one after another. A submission that
needs ACTIVE waits for it and asks for it; a chunk with a gate waits for its gate. -/
def State.dispatch (p c : Nat) : Nat → State → State
  | 0, s => s
  | n + 1, s =>
    let x := s.ctx p c
    match x.flight, x.queue with
    | none, sub :: rest =>
      let st := (s.part p).state
      if !(st == 2 || st == 3 || st == 5) ∨ (sub.released.isNone ∧ st ≠ 3) ∨ x.reload.isSome then s
      else
        let code := s.dispatchCode p c sub
        if code ≠ 0 then ((s.modCtx p c fun x => { x with queue := rest }).refuseSub p c code sub).dispatch p c n
        else if !s.modeFits p c sub then s.ascendFor 4
        else if s.awaitsGate p c sub then s
        else match x.pattern with
          | some l => s.takeFlight p c sub l
          | none => s
    | _, _ => s

/-- Dispatches what a context's queue allows. -/
def State.dispatchAll (p c : Nat) (s : State) : State := s.dispatch p c ((s.ctx p c).queue.length + 1)

/-- Dispatches in every context of a partition. -/
def State.dispatchPart (p : Nat) (s : State) : State := (List.range 16).foldl (fun s c => s.dispatchAll p c) s

/-- SUBMISSION_COMPLETE (R157): END has completed on every core, or the submission has been stopped and its strokes that
occupy a unit have completed. -/
def State.submissionComplete (p c : Nat) (s : State) : State :=
  match (s.ctx p c).flight with
  | none => s
  | some f =>
    let mine := (s.part p).running.filter fun r => r.ctx == c
    match f.stop with
    | some stop =>
      if mine.any fun r => r.word0 % 256 != 0x2B then s
      else
        let s := s.modPart p fun x => { x with running := x.running.filter fun r => r.ctx != c }
        let s := (s.kvAbort p c).streamAbort p c
        (s.finishFlight p c f (some stop)).dispatchAll p c
    | none =>
      if !(f.cores.all fun r => r.ended) ∨ (f.started && !f.stepEnded) ∨ !mine.isEmpty then s
      else
        let s := if f.started then s.boundary p c f else s
        match (s.ctx p c).flight with
        | some g => (s.finishFlight p c g g.stop).dispatchAll p c
        | none => s

/-! ### Doorbells (R372, R77, R378) -/

/-- Releases an accepted submission now (R373). -/
def State.released (p : Nat) (c : Nat) (sub : Submission) (at_ : Nat) (deadline : Option Nat) (s : State) : Submission × State :=
  ({ sub with released := some at_, deadline := deadline }, s.capture p 1 ([byteOf c, 0] ++ le 2 sub.bucket ++ le 4 sub.seq))

/-- Accepts one entry: it is read once, and released at once where its class and its RELEASE_NS allow (R373). -/
def State.acceptEntry (p c idx : Nat) (s : State) : State :=
  let sub := s.readEntry p c idx
  let cls := s.ctxClass p c
  let now := s.ns
  let atOnce := sub.malformed || cls == 3 || (cls == 1 && (!sub.flags.testBit 0 || decide (sub.releaseNs ≤ now)))
  let s := if s.modeFits p c sub then s else s.ascendFor 4
  let r := if atOnce then s.released p c sub now none else (sub, s)
  (r.2.modCtx p c fun x => { x with queue := x.queue ++ [r.1] }).countCtx p c 0

/-- Accepts a doorbell: every entry it covers. -/
def State.acceptTo (p c value : Nat) (s : State) : State :=
  let from_ := (s.ctx p c).producer
  let n := (value + 2 ^ 32 - from_) % 2 ^ 32
  let s := (List.range n).foldl (fun s i => s.acceptEntry p c ((from_ + i) % 2 ^ 32)) s
  (s.modCtx p c fun x => { x with producer := value, lastAcceptNs := some s.ns }).dispatchAll p c

/-- Where the producer will stand once the doorbells that are held have been accepted. -/
def State.postedTo (s : State) (p c : Nat) : Nat := ((s.ctx p c).held.getLast?).getD (s.ctx p c).producer

/-- Why a doorbell is refused, or 0 (R77, R360, R362, R535). A context that has no submission ring refuses it. -/
def State.doorbellCode (s : State) (p c value : Nat) : Nat :=
  if (s.sec.scrubbing.getD p none).isSome then 0x0E15
  else if !s.hasKey p then 0x0C01
  else if (s.part p).state ≠ 2 ∨ s.ctxClass p c = 0 ∨ (s.ring? p c 1).isNone then 0x0E15
  else if 2 ^ 31 ≤ (value + 2 ^ 32 - s.postedTo p c) % 2 ^ 32 ∨ s.ringEntries p c < (value + 2 ^ 32 - s.cplConsumer p c) % 2 ^ 32 then 0x0E0A
  else 0

/-- Whether the urgent path holds a doorbell now (R378). -/
def State.holdsUrgent (s : State) (p c : Nat) : Bool :=
  s.ctxClass p c == 3 && ((s.ctx p c).flight.isSome || !(s.ctx p c).queue.isEmpty || !(s.ctx p c).held.isEmpty ||
    (match (s.ctx p c).lastAcceptNs with
     | some t => decide (s.ns < t + 1000 * s.ctxCfg p c 0 0x0B)
     | none => false))

/-- A doorbell that passes its checks is accepted, or held. -/
def State.ringDoorbell (p c value : Nat) (s : State) : State :=
  if s.holdsUrgent p c then (s.modCtx p c fun x => { x with held := x.held ++ [value] }).countCtx p c 5 else s.acceptTo p c value

/-- A doorbell of the part's own, which advances the producer index by 1 (R372); its code says why it delivered nothing. -/
def State.autoDoorbell (p c : Nat) (s : State) : Nat × State :=
  let v := (s.postedTo p c + 1) % 2 ^ 32
  let code := s.doorbellCode p c v
  if code ≠ 0 then (code, s) else (0, s.ringDoorbell p c v)

/-- A host's doorbell: its code, or 0. -/
def State.hostDoorbellCode (s : State) (p c value : Nat) : Nat := if s.autoChunks p c then 0x0E15 else s.doorbellCode p c value

/-- DOORBELL (R372). -/
def execDoorbell (rq : Request) (s : State) : Host.Outcome State Fault Refusal :=
  settled s (s.ownWrite "DOORBELL" (fun _ t v s => (s.hostDoorbellCode t.i t.j (ofBE v), s)) (fun _ t v s => s.ringDoorbell t.i t.j (ofBE v)) false rq)

/-- A DOORBELL frame that has been admitted, answered only where ACK_REQ asks for it (R77). -/
def State.answerDoorbell (rq : Request) (w : Who) (s : State) : State :=
  if w.isAnon then s.abort rq w 0x0E06
  else match s.resolve w rq.frame.index rq.frame.sub with
  | .inl code => s.abort rq w code
  | .inr t =>
    let v := ofBE rq.frame.payload
    let code := if t.row.name = "DOORBELL" then s.hostDoorbellCode t.i t.j v else 0x0E03
    if code ≠ 0 then s.abort rq w code
    else
      let s := s.ringDoorbell t.i t.j v
      if rq.frame.flags.testBit 0 then s.ok rq w else s

/-- A DOORBELL frame (R77). -/
def State.serveDoorbell (rq : Request) (s : State) : State :=
  match s.admitted rq 7 (fun p => p.length == 4) with
  | .stop s => s
  | .go w s => s.answerDoorbell rq w

/-- ONNUM_DOORBELL (R77). -/
def execOnnumDoorbell (rq : Request) (s : State) : Host.Outcome State Fault Refusal := settled s (s.serveDoorbell rq)

/-- URGENT_DOORBELL_RELEASE (R378): the first held doorbell is accepted, once nothing is in flight and the interval has
passed, in a partition that is RUNNING: no other state accepts one (R360). -/
def execUrgentDoorbellRelease (p c : Nat) (s : State) : Host.Outcome State Fault Refusal :=
  settled s (match (s.ctx p c).held with
    | [] => s
    | v :: rest =>
      if (s.part p).state ≠ 2 ∨ (s.ctx p c).flight.isSome ∨ !(s.ctx p c).queue.isEmpty then s
      else
        let due := match (s.ctx p c).lastAcceptNs with
          | some t => t + 1000 * s.ctxCfg p c 0 0x0B
          | none => 0
        ((s.reach (due * 2 ^ 32)).modCtx p c fun x => { x with held := rest }).acceptTo p c v)

/-! ### Releases (R373 to R375) -/

/-- The start of beat k of a context in ns (R374). -/
def State.beatStart (s : State) (p c k : Nat) : Nat := 1000 * (k * s.ctxCfg p c 0 8 + s.ctxCfg p c 0 9)

/-- BEAT_START (R374, R375): beat k of a real-time context starts, and what it has accepted is released; a release that
finds the previous submission running, or one still before it, is deferred. -/
def execBeatStart (p c k : Nat) (s : State) : Host.Outcome State Fault Refusal :=
  settled s (
    let b := s.beatStart p c k
    if s.ctxClass p c ≠ 2 ∨ !((s.part p).state = 2 ∨ (s.part p).state = 5) ∨ b < s.ns then s
    else
      let s := s.reach (b * 2 ^ 32)
      let waits := (s.ctx p c).queue.filter fun x => x.released.isNone
      let busy := (s.ctx p c).flight.isSome || (s.ctx p c).queue.any fun x => x.released.isSome
      let deferred := if busy then waits.length else waits.length - 1
      let s := waits.foldl (fun s x => (s.released p c x b none).2) s
      let s := s.modCtx p c fun x =>
        { x with queue := x.queue.map fun q => if q.released.isSome then q else { q with released := some b, deadline := some (s.beatStart p c (k + 1)) },
                 counts := bumpBy x.counts 3 deferred }
      s.dispatchAll p c)

/-- RELEASE_TIME (R373): NS112 reaches RELEASE_NS of the first best-effort submission that waits for it. -/
def execReleaseTime (p c : Nat) (s : State) : Host.Outcome State Fault Refusal :=
  settled s (match (s.ctx p c).queue.find? fun x => x.released.isNone && x.flags.testBit 0 with
    | none => s
    | some q =>
      if s.ctxClass p c ≠ 1 then s
      else
        let s := s.reach (q.releaseNs * 2 ^ 32)
        let r := s.released p c q s.ns none
        (r.2.modCtx p c fun x => { x with queue := x.queue.map fun y => if y = q then r.1 else y }).dispatchAll p c)

end Sys2Proof.Machine
end

