-- ==== Sys2Proof/Machine/Tiers.lean ====
section
/-! DEFINITION. The cache, the DRAM and the flash as their events change them (R294 to R315), claims that complete
(R323) and objects that are readopted (R329). -/

namespace Sys2Proof.Machine

/-- Changes a DRAM group. -/
def State.modGroup (g : Nat) (f : DramGroup → DramGroup) (s : State) : State := s.modTiers fun t => { t with groups := t.groups.modify g f }

/-! ### Objects that are lost (R308, R315, R326) -/

/-- The strokes in flight that write an object fail (R154). -/
def State.failWriters (o : Obj) (code : Nat) (s : State) : State :=
  (List.range 8).foldl (fun s p =>
    ((s.part p).running.filter fun r => r.writes.any fun w => w.space == 3 && w.place == o.key).foldl (fun s r =>
      let s := (s.modPart p fun x => { x with running := x.running.erase r }).tearAll r.writes
      s.stopFlight p r.ctx code r.core r.stroke) s) s

/-! ### Cache ways and slices (R295, R299, R300) -/

/-- CACHE_WAY_MASK's own check. -/
def checkCacheWayMask : Check := fun _ t v s =>
  let others := (List.range 8).filter (· != t.i)
  if others.any fun q => (ofBE v &&& (s.waysInForce q ||| s.area q 0x60 1)) != 0 then (0x0E0A, s) else (0, s)

/-- Whether a context of a partition has a submission in flight. -/
def State.anyFlight (s : State) (p : Nat) : Bool := (s.part p).ctxs.any fun c => c.flight.isSome

/-- The mask written takes effect: the lines in the ways that it takes away are written back and invalidated. -/
def State.settleWays (p : Nat) (s : State) : State :=
  (s.modTiers fun t => { t with ways := t.ways.set p (s.area p 0x60 1) }).dropLines fun l => l.part == p && !(s.area p 0x60 1).testBit l.way

/-- CACHE_WAY_MASK: ways are added at once, and taken away at once where no submission is in flight. -/
def commitCacheWayMask : Commit := fun _ t v s =>
  let old := s.waysInForce t.i
  let s := s.setObj t.part t.index t.sub v
  if s.anyFlight t.i then s.modTiers fun x => { x with ways := x.ways.set t.i (old ||| ofBE v) } else s.settleWays t.i

/-- CACHE_WAY_MASK (R295). -/
def execCacheWayMask (rq : Request) (s : State) : Host.Outcome State Fault Refusal :=
  settled s (s.ownWrite "CACHE_WAY_MASK" checkCacheWayMask commitCacheWayMask false rq)

/-- WAY_REMOVAL_DEFERRED (R295): no context of the partition has a submission in flight any more. -/
def execWayRemovalDeferred (p : Nat) (s : State) : Host.Outcome State Fault Refusal :=
  settled s (if s.anyFlight p then s else s.settleWays p)

/-- SLICE_FAILURE (R299, R300): the dirty lines that can be read are written back, and slice 16, which is empty, takes the logical number, or no
slice does; `lost` are the objects with a dirty line in the slice that could not be read. Pinned lines are fetched again. -/
def execSliceFailure (slice : Nat) (lost : List Nat) (s : State) : Host.Outcome State Fault Refusal :=
  settled s (
    let v := s.tiers.slices.getD slice 3
    if v % 8 = 3 then s
    else
      let logical := v / 8
      let spare := decide (s.tiers.slices.getD 16 3 % 8 = 2) && slice != 16
      let gone := lost.filter fun h => s.tiers.lines.any fun l => l.obj == h && l.dirty && v % 8 == 1 && lineSlice l.a == logical
      let s := s.modTiers fun t =>
        let l := t.slices.set slice (3 + 8 * 31)
        { t with slices := if spare then l.set 16 (1 + 8 * logical) else l }
      let s := (s.dropLines fun l => v % 8 == 1 && lineSlice l.a == logical).fillPinned
      let s := { s with ras := { s.ras with counts := bump s.ras.counts 1 } }.logError 0x020C 0xFF 0 [byteOf slice, byteOf logical, byteOf (if spare then 16 else 0xFF)]
      gone.foldl (fun s h => match s.objOf h with
        | some o => (s.failWriters o 0x020D).damage o 0x020D
        | none => s) s)

/-! ### DRAM (R305 to R308, R572) -/

/-- DRAM_REFRESH (R305): a refresh turn takes every group; a real-time or urgent request that waits for it is counted. -/
def execDramRefresh (waiting : Option Nat) (s : State) : Host.Outcome State Fault Refusal :=
  settled s (match waiting with
    | some p => s.stallSome p 6
    | none => s)

/-- DRAM_RETRAIN (R305): the oscillator check and retraining take every group. -/
def execDramRetrain (waiting : Option Nat) (s : State) : Host.Outcome State Fault Refusal :=
  settled s (match waiting with
    | some p => s.stallSome p 6
    | none => s)

/-- REFRESH_PERIOD_SELECT (R305, R549): at a whole second, from the highest reading of the hottest sensor over the
second just ended, in tenths of a degree. -/
def execRefreshPeriodSelect (highest : Int) (s : State) : Host.Outcome State Fault Refusal :=
  settled s (
    let s := s.reach ((s.nowNs + 1000000000 - 1) / 1000000000 * 1000000000 * 2 ^ 32)
    s.modTiers fun t => { t with hot := if 850 < highest then true else if highest ≤ 800 then false else t.hot })

/-- The errors of a key that lie within a span of now, with one more. -/
def recent (now span key : Nat) (l : List (Nat × Nat)) : List (Nat × Nat) := (key, now) :: l.filter fun e => decide (now ≤ e.2 + span)

/-- A lane with 64 corrected errors in an hour is steered to a free spare, or leaves its group DEGRADED (R307). -/
def State.spareLane (g lane : Nat) (s : State) : State :=
  let x := s.tiers.groups.getD g {}
  let clear := fun (y : DramGroup) => { y with laneErrors := y.laneErrors.filter (fun e => e.1 != lane), failed := y.failed ||| 2 ^ lane }
  if x.failed.testBit lane then s
  else match x.spares.findIdx? (· == 0xFF) with
    | some k => (s.modGroup g fun y => { clear y with spares := y.spares.set k lane }).logError 0x020B 0xFF 0 [byteOf g, byteOf lane, byteOf k]
    | none => s.modGroup g fun y => { clear y with state := if y.state = 1 then 2 else y.state }

/-- A corrected error of a lane and a row (R307). -/
def State.dramCorrected (g lane row : Nat) (s : State) : State :=
  let now := s.nowNs
  let s := s.modGroup g fun x =>
    let rows := recent now 86400000000000 row x.rowErrors
    { x with
      corrected := x.corrected + 1
      laneErrors := recent now 3600000000000 lane x.laneErrors
      rowErrors := rows
      marked := if 16 ≤ (rows.filter fun e => e.1 == row).length ∧ !x.marked.contains row then row :: x.marked else x.marked }
  let s := s.logError 0x020A 0xFF 0 ([byteOf g, byteOf lane] ++ be 4 row)
  if 64 ≤ ((s.tiers.groups.getD g {}).laneErrors.filter fun e => e.1 == lane).length then s.spareLane g lane else s

/-- DRAM_CORRECTED_ERROR (R307). -/
def execDramCorrectedError (group lane row : Nat) (s : State) : Host.Outcome State Fault Refusal :=
  settled s (if group < 8 ∧ lane < 80 then s.dramCorrected group lane row else s)

/-- Whether patrol has overwritten every line since a time: as many lines of each group as it has, or 24 h have passed (R307). -/
def State.patrolled (s : State) (since : Nat) : Bool :=
  decide (since + 86400000000000 ≤ s.nowNs) ||
  s.tiers.groups.all fun g => decide (134217728 ≤ ((g.patrol.filter fun e => decide (since ≤ e.1)).map (·.2)).sum)

/-- DRAM_PATROL_SCRUB (R307, R324): the scrubber rewrites lines of a group, and corrects the errors it meets; the extents of erased objects that it
has overwritten are returned. -/
def execDramPatrolScrub (group lines : Nat) (errors : List (Nat × Nat)) (s : State) : Host.Outcome State Fault Refusal :=
  settled s (
    let s := s.modGroup group fun x => { x with patrol := (s.nowNs, lines) :: x.patrol.filter fun e => decide (s.nowNs ≤ e.1 + 86400000000000) }
    let s := s.modTiers fun t => { t with erasing := t.erasing.filter fun e => !s.patrolled e.2.2 }
    errors.foldl (fun s e => s.dramCorrected group e.1 e.2) s)

/-- A line of an object cannot be corrected (R308): a SEALED object's line is fetched again; another object is lost, and the
stroke whose access it was fails. -/
def State.lineLost (o : Obj) (p c core stroke : Nat) (s : State) : State :=
  if o.kind = 1 ∧ [3, 5, 6].contains o.state ∧ o.digest ≠ [] then (s.stall p 5 core).modTiers fun t => { t with refetch := t.refetch ++ [(p, o.handle)] }
  else
    let s := s.damage o 0x0209
    match s.runningAt p c core stroke with
    | some r =>
      let s := (s.modPart p fun x => { x with running := x.running.erase r }).tearAll r.writes
      s.stopFlight p c 0x0209 core stroke
    | none => s

/-- DRAM_UNCORRECTABLE (R308): a line of a group that an object holds. -/
def execDramUncorrectable (group handle p c core stroke : Nat) (s : State) : Host.Outcome State Fault Refusal :=
  settled s (
    let s := (s.modGroup group fun x => { x with uncorrectable := x.uncorrectable + 1 }).logError 0x0209 0xFF 0 []
    match s.objOf handle with
    | some o => s.lineLost o p c core stroke
    | none => s)

/-- DRAM_REFETCH_DONE (R308): the line has been rewritten from flash, and the access is served. -/
def execDramRefetchDone (p handle : Nat) (s : State) : Host.Outcome State Fault Refusal :=
  settled s (s.modTiers fun t => { t with refetch := t.refetch.erase (p, handle) })

/-- DRAM_CHANNEL_LOST (R572): the group reads FAILED; each access to it then meets an uncorrectable line. -/
def execDramChannelLost (group : Nat) (s : State) : Host.Outcome State Fault Refusal :=
  settled s (s.modGroup group fun x => { x with state := 3 })

/-! ### Flash (R311 to R315) -/

/-- FLASH_WINDOW_OPEN (R309, R310, R312 to R315): at a whole second that is not past, the window opens, and the translation layer does its work in it.
`reads` are the reads of blocks beside those of promotions (retries, rebuilds, the part's own), and `bad` the blocks that fail in this window. -/
def execFlashWindowOpen (second : Nat) (reads : List (Nat × Nat)) (bad : List Nat) (s : State) : Host.Outcome State Fault Refusal :=
  settled s (
    let s := s.reach (max second ((s.nowNs + 1000000000 - 1) / 1000000000) * 1000000000 * 2 ^ 32)
    ((s.modTiers fun t => { t with windowOpen := true, windowAtNs := s.nowNs }).countReads reads).maintain bad)

/-- FLASH_WINDOW_CLOSE (R312): FLASH_WINDOW_MS after it opened; a window of a whole second never closes. -/
def execFlashWindowClose (s : State) : Host.Outcome State Fault Refusal :=
  settled s (if !s.tiers.windowOpen ∨ 1000 ≤ s.cfg 0x2100 4 then s
    else (s.reach ((s.tiers.windowAtNs + 1000000 * s.cfg 0x2100 4) * 2 ^ 32)).modTiers fun t => { t with windowOpen := false })

/-- The strokes that wait at the head for an object's promotion fail with the code that it fails with (R326). -/
def State.failWaiters (o : Obj) (code : Nat) (s : State) : State :=
  (List.range 8).foldl (fun s p => (List.range 16).foldl (fun s c => match (s.ctx p c).flight with
    | none => s
    | some f => if f.stop.isSome ∨ !(f.binds.any fun b => b.2 == o.handle) then s
        else match f.cores.find? fun r => r.stalls.any fun k => k == 0 || k == 1 with
          | some r => s.stopFlight p c code r.core (r.todo.headD 0)
          | none => s) s) s

/-- FLASH_READ_RETRY (R315): a read for a claim of partition p needed retries or soft decoding (0), a rebuild of a page
of its stripe, which the next window rewrites (1), or was not to be had (2). -/
def execFlashReadRetry (p handle outcome die block page : Nat) (s : State) : Host.Outcome State Fault Refusal :=
  settled s (
    if outcome = 0 then s.stallSome p 3
    else if outcome = 1 then
      ((((s.stallSome p 3).stallSome p 4).modTiers fun t => { t with rebuilt := t.rebuilt + 1 }).rebuildPage ((die * 8192 + block) * 1024 + page)).logError 0x020E 0xFF 0 ([byteOf die] ++ be 2 block ++ be 2 page)
    else
      let s := ((s.stallSome p 3).stallSome p 4).logError 0x020F 0xFF 0 []
      match s.objOf handle with
      | some o => ((s.failWaiters o 0x020F).failClaims o 0x020F).damage o 0x020F
      | none => s)

/-! ### Readoption (R329, R534) -/

/-- An object is deleted in place of its readoption, and the claims that waited fail. -/
def State.readoptFails (o : Obj) (s : State) : State :=
  let s := (s.modObj o.owner o.index fun x => { x with claims := x.claims.filter fun c => !c.held }).failClaims
    { o with claims := o.claims.filter fun c => !c.held } 0x0210
  ({ s with objects := s.objects.filter fun x => !(x.owner == o.owner && x.index == o.index) }).objectEvent o.owner o.handle 5 0 0x0210

/-- Whether an object is the next of its partition to be readopted: its key is loaded, its partition has DRAM turns, and no
RETAINED object stands before it. -/
def State.readoptTurn (s : State) (o : Obj) : Bool :=
  o.state == 5 && s.hasKey o.owner && decide (0 < s.dramTurns o.owner) &&
  !(s.objects.any fun x => x.owner == o.owner && x.state == 5 && decide (x.index < o.index))

/-- READOPT_OBJECT (R329): every line has been read and the digest recomputed; `digestMatches` is FALSE where a line was read otherwise than it was
written. -/
def execReadoptObject (handle : Nat) (digestMatches : Bool) (s : State) : Host.Outcome State Fault Refusal :=
  settled s (match s.objOf handle with
    | none => s
    | some o =>
      if !s.readoptTurn o then s
      else if o.keyCheck ≠ s.keys.getD o.owner none ∨ !digestMatches ∨ o.digest ≠ o.digestNow then s.readoptFails o
      else ((s.modObj o.owner o.index Obj.readopt).objectEvent o.owner handle 7 0 0).fillPinned)

end Sys2Proof.Machine
end

