-- ==== Sys2Proof/Machine/Partitions.lean ====
section
/-! DEFINITION. Partitions: running, stopping and resetting them (R359 to R361, R383, R384), and the core map
(R109 to R115, R99, R284). -/

namespace Sys2Proof.Machine

/-! ### The core map's records -/

/-- A change of the core map is traced (R579). -/
def State.traceSlot (n : Nat) (s : State) : State :=
  let x := s.slot n
  s.capture 8 0x22 ([byteOf n, byteOf x.state, byteOf x.part, byteOf x.reason] ++ le 4 (s.coreMapGen % 2 ^ 32))

/-- A slot's memories, tokens and prefetchers are scrubbed. -/
def Slot.scrub (x : Slot) : Slot :=
  { x with spad := [], acc := [], stream := [], buddy := [], tokens := List.replicate 128 0, prefetchers := List.replicate 16 none, walked := [] }

/-- Copies of a recovery cross the mesh (R338). -/
def State.recoveryCopy (n : Nat) (s : State) : State := s.modPeer fun q => { q with recoveryCopies := q.recoveryCopies + n }

/-- Adds 1 to CORE_MAP_GENERATION. -/
def State.mapChanged (s : State) : State := { s with coreMapGen := s.coreMapGen + 1 }

/-- The slots of a mask (bit n of byte ⌊n ÷ 8⌋: slot n). -/
def slotsOf (v : Bytes) : List Nat := (List.range 72).filter fun n => (ofLE v).testBit n

/-- A running stroke that was held for a logical core while it was replaced reaches the replacement (R114). -/
def Running.redirect (old new : Nat) (r : Running) : Running :=
  { r with writes := r.writes.map fun w => if w.place = old ∧ w.space ≠ 3 then { w with place := new } else w,
           signals := r.signals.map fun k => if k.1 = old then (new, k.2) else k }

/-- The moves that wait for no step take effect at once (R285). -/
def State.settleMoves (p : Nat) (s : State) : State :=
  if s.streamStepRuns p then s
  else ((s.streams.map (·.1)).filter fun id => s.streamOwner id == p).foldl (fun s id => s.moveSlot p id) s

/-- A replacement is in service (R114, R284): it starts empty, the transfers that were held for the logical core while it was
replaced reach it, the map switches, and the stream slots of the core return. What has been held from outside stands in the memories of the
retired slot. The firmware image, and the records of the core where their buddy has them, are the copies that R338 counts. -/
def State.replaceDone (r : Replacement) (s : State) : State :=
  let s := { s with replacing := s.replacing.erase r }
  if (s.slot r.slot).state ≠ 1 then s
  else
    let held := s.slot r.retired
    let s := s.modSlot r.slot fun x =>
      { x.scrub with part := r.part, logical := r.logical, spad := held.spad, acc := held.acc, stream := held.stream, tokens := held.tokens }
    let s := s.modSlot r.retired Slot.scrub
    let s := (s.modPart r.part fun x => { x with map := x.map.set r.logical (some r.slot), mapGen := x.mapGen + 1 }).mapChanged.traceSlot r.slot
    let s := s.modPart r.part fun x => { x with running := x.running.map (Running.redirect r.retired r.slot) }
    let records := decide (2 ≤ s.cores r.part) && (s.openSlots r.part).any fun id => (s.streamSlot id).home == r.logical && (s.streamSlot id).buddyValid
    ((s.recoveryCopy (1 + b01 records)).recoverSlots r.part r.logical r.written).settleMoves r.part

/-- The replacements in progress in a partition are in service: what takes its cores, or gives them back, comes after them. -/
def State.replaceAll (p : Nat) (s : State) : State := (s.replacing.filter fun r => r.part == p).foldl (fun s r => s.replaceDone r) s

/-! ### Running (R360, R361, R520) -/

/-- Whether a partition runs. -/
def State.running (s : State) (p : Nat) : Bool := (s.part p).state == 2 || (s.part p).state == 5

/-- Whether the nonzero caps of the RUNNING partitions leave the allowance (R520). -/
def State.capsOk (s : State) (also : Option Nat) : Bool :=
  decide ((((List.range 8).filter fun p => s.running p || also == some p).map fun p => s.area p 0 6).sum + 25000 ≤ s.cfg 0x1440 1)

/-- The slots of the free pool, lowest first. -/
def State.freePool (s : State) : List Nat := (List.range 72).filter fun n => (s.slot n).state == 1 && (s.slot n).part == 0xFF

/-- The slots a partition holds, in the order of their logical numbers. -/
def State.heldSlots (s : State) (p : Nat) : List (Nat × Nat) := (s.part p).map.zipIdx.filterMap fun e => e.1.map fun n => (e.2, n)

/-- The slots a partition will hold when it runs (R361): none where its mask breaks its rule or the pool is too small. -/
def State.wantSlots (s : State) (p : Nat) : Option (List Nat) :=
  let n := s.area p 0 1
  let mask := slotsOf (s.obj 0 (0x3000 + 0x100 * p) 2)
  let held := s.heldSlots p
  if mask ≠ [] then
    if mask.length = n ∧ mask.all fun k => (s.slot k).state == 1 && ((s.slot k).part == 0xFF || (s.slot k).part == p) then some mask else none
  else
    let keep := if held.length ≤ n then held.map (·.2) else (held.take n).map (·.2)
    let need := n - keep.length
    let free := s.freePool
    if need ≤ free.length then some (keep ++ free.take need) else none

/-- The numbering of the cores (R361): a slot that stays keeps a number below n; the others take the numbers left, lowest
first, in ascending slot order. -/
def State.renumber (s : State) (p : Nat) (want : List Nat) : List (Option Nat) :=
  let n := want.length
  let stay := (s.heldSlots p).filter fun e => want.contains e.2 && decide (e.1 < n)
  let rest := (List.range 72).filter fun k => want.contains k && !stay.any fun e => e.2 == k
  let free := (List.range n).filter fun l => !stay.any fun e => e.1 == l
  (List.range n).map fun l => match stay.find? fun e => e.1 == l with
    | some e => some e.2
    | none => rest[(free.findIdx (· == l))]?

/-- Whether an open stream slot's core would leave the partition or change its number. -/
def State.disturbsSlots (s : State) (p : Nat) (map : List (Option Nat)) : Bool :=
  (s.openSlots p).any fun id => let h := (s.streamSlot id).home; map.getD h none != s.slotOf p h || (map.getD h none).isNone

/-- The code of PARTITION_RUN TRUE (R360, R361, R520). -/
def State.runCode (s : State) (p : Nat) : Nat :=
  let st := (s.part p).state
  if st = 2 then 0
  else if (s.ras.mcus.filter fun e => e.1 == 3).length ≥ 2 then 0x0E15
  else if st ≠ 1 ∧ st ≠ 3 then 0x0E15
  else if s.area p 0 4 = 0 ∨ !s.capsOk (some p) then 0x0E0A
  else let s := s.replaceAll p; match s.wantSlots p with
    | none => 0x0E0A
    | some w => if s.disturbsSlots p (s.renumber p w) then 0x0E15 else 0

/-- A slot enters a partition as a logical core, or leaves for the free pool: scrubbed either way. -/
def State.placeSlot (n part logical : Nat) (s : State) : State := s.modSlot n fun x => { x.scrub with part := part, logical := logical }

/-- The partition takes its cores and runs (R361). -/
def State.takeCores (p : Nat) (s : State) : State :=
  let s := s.replaceAll p
  match s.wantSlots p with
  | none => s
  | some w =>
    let map := s.renumber p w
    let held := (s.heldSlots p).map (·.2)
    let leave := held.filter fun n => !w.contains n
    let enter := w.filter fun n => !held.contains n
    let s := leave.foldl (fun s n => s.placeSlot n 0xFF 0xFF) s
    let s := enter.foldl (fun s n => s.placeSlot n p 0xFF) s
    let s := map.zipIdx.foldl (fun s e => match e.1 with
      | some n => s.modSlot n fun x => { x with part := p, logical := e.2 }
      | none => s) s
    let s := (s.modPart p fun x => { x with map := map, mapGen := x.mapGen + 1, state := 2 }).mapChanged
    let s := (leave ++ enter).foldl (fun s n => s.traceSlot n) s
    let s := s.modPart p fun x => { x with ctxs := x.ctxs.map fun c => match c.pattern with
      | some l => if w.length < l.cores then { c with pattern := none, lastCode := 0x0133 } else c
      | none => c }
    s.storeWcrt p

/-- PARTITION_RUN's own checks. -/
def checkPartitionRun : Check := fun _ t v s =>
  if ofBE v = 1 then (s.runCode t.i, s) else (if (s.part t.i).state = 4 then 0x0E15 else 0, s)

/-- PARTITION_RUN (R360): TRUE takes the cores and runs, FALSE lets the accepted submissions end. -/
def commitPartitionRun : Commit := fun _ t v s =>
  let p := t.i
  let s := s.setObj t.part t.index t.sub v
  let st := (s.part p).state
  if ofBE v = 1 then (if (st = 1 ∨ st = 3) ∧ s.runCode p = 0 then s.takeCores p else s)
  else if st = 2 then (s.modPart p fun x => { x with state := 5 }).settleStop p else s

/-- PARTITION_RUN (R361). -/
def execPartitionRun (rq : Request) (s : State) : Host.Outcome State Fault Refusal :=
  settled s (s.ownWrite "PARTITION_RUN" checkPartitionRun commitPartitionRun false rq)

/-! ### Writes of a partition's resources (R359, R360, R369, R604) -/

/-- The total over the partitions of an object, with one value replaced. -/
def State.totalOf (s : State) (off sub p v : Nat) : Nat := ((List.range 8).map fun q => if q = p then v else s.area q off sub).sum

/-- The checks of a write of PARTITION_CORES, PARTITION_SLOTS, DRAM_TURNS, MESH_SLOTS, PEER_SLOTS or POWER_CAP_MW. -/
def checkPartObject : Check := fun _ t v s =>
  let p := t.i
  let n := ofBE v
  let st := (s.part p).state
  let s' := s.setObj t.part t.index t.sub v
  let actives := ((List.range 72).filter fun k => (s.slot k).state == 1).length
  let adm := fun (_ : Unit) => match s'.unadmitted p with
    | some i => (0x0402, s.because [byteOf i, 0])
    | none => (0, s)
  if t.sub = 6 then (if (n ≠ 0 ∧ n < 1000) ∨ 165000 < n ∨ !s'.capsOk none then (0x0E0A, s) else (0, s))
  else if (t.sub = 1 ∧ actives < s.totalOf 0 1 p n) ∨ (t.sub = 3 ∧ 63 < s.totalOf 0 3 p n) ∨
      (t.sub = 4 ∧ 60 < s.totalOf 0 4 p n) ∨ (t.sub = 5 ∧ 63 < s.totalOf 0 5 p n) then (0x0E0A, s)
  else if 1 < st ∧ st ≠ 3 then (0x0E15, s)
  else if t.sub = 1 then
    if (s.openSlots p).any fun id => decide (n ≤ (s.streamSlot id).home) then (0x0E15, s) else (0, s)
  else if t.sub = 2 then
    if (s.openSlots p).any fun id => !(slotsOf v).isEmpty && (match s.slotOf p (s.streamSlot id).home with
      | some k => !(slotsOf v).contains k
      | none => false) then (0x0E15, s) else (0, s)
  else if t.sub = 3 then (if n = 0 ∧ s.claimNeeds p true then (0x0E15, s) else adm ())
  else if t.sub = 4 ∨ t.sub = 5 then adm ()
  else (0, s)

/-- The effect of such a write: PARTITION_CORES defines the partition or, at 0, ends its definition. -/
def commitPartObject : Commit := fun _ t v s =>
  let p := t.i
  let s := s.setObj t.part t.index t.sub v
  if t.sub = 1 then
    if ofBE v = 0 then
      let s := s.replaceAll p
      let held := (s.heldSlots p).map (·.2)
      let s := held.foldl (fun s n => s.placeSlot n 0xFF 0xFF) s
      let s := if held = [] then s else s.mapChanged
      (s.modPart p fun x => { x with state := 0, map := [], mapGen := if held = [] then x.mapGen else x.mapGen + 1 }).setObj 0 (0x3000 + 0x100 * p) 7 [0]
    else s.modPart p fun x => { x with state := if x.state = 0 then 1 else x.state }
  else s.storeWcrt p

/-- The checks of a write of DRAM_QUOTA, FLASH_QUOTA or FLASH_TURNS (R318, R604). -/
def checkTierObject : Check := fun _ t v s =>
  let p := t.i
  let n := ofBE v
  if t.sub = 2 then
    if n % 65536 ≠ 0 ∨ 127 * 2 ^ 30 < s.totalOf 0x60 2 p n then (0x0E0A, s) else if n < s.dramCharge p then (0x0E15, s) else (0, s)
  else if t.sub = 3 then (if n % 16384 ≠ 0 ∨ 1759218597888 - 8 * 2 ^ 30 < s.totalOf 0x60 3 p n then (0x0E0A, s) else (0, s))
  else if 63 < s.totalOf 0x60 4 p n then (0x0E0A, s)
  else if n = 0 ∧ s.claimNeeds p false then (0x0E15, s) else (0, s)

/-- Whether a handle names a WORKING object of a partition of some size; 0 names none. -/
def State.ringObjOk (s : State) (p h need : Nat) : Bool := h == 0 || (match s.objOf h with
  | some o => o.owner == p && o.kind == 2 && decide (need ≤ o.size)
  | none => false)

/-- The checks of a write of SUB_RING, CPL_RING or RING_ENTRIES (R369). -/
def checkRing : Check := fun _ t v s =>
  let p := t.i
  let c := t.j
  let n := ofBE v
  let k := s.ringEntries p c
  let idle := if (s.ctx p c).flight.isSome then 0x0E15 else 0
  if t.sub = 1 then (if s.ringObjOk p n (64 * k) then (idle, s) else (0x0E0A, s))
  else if t.sub = 2 then (if s.ringObjOk p n (64 + 64 * k) then (idle, s) else (0x0E0A, s))
  else if (List.range 13).any (fun i => n == 2 ^ i) && s.ringObjOk p (s.ctxCfg p c 1 1) (64 * n) && s.ringObjOk p (s.ctxCfg p c 1 2) (64 + 64 * n) then (idle, s)
  else (0x0E0A, s)

/-! ### Partition reset (R383, R384) -/

/-- Ends every step in flight of a partition without a boundary, and drops what is queued (R383, steps 2 to 4). -/
def State.dropWork (p : Nat) (logged : Bool) (s : State) : State :=
  let s := s.tearAll ((s.part p).running.flatMap (·.writes))
  let s := s.modPart p fun x => { x with running := [] }
  let s := s.modPeer fun q => { q with colls := q.colls.filter fun x => x.p != p }
  let s := { s with slots := s.slots.map fun x => { x with prefetchers := x.prefetchers.map fun f => match f with
    | some y => if y.part = p then none else some y
    | none => none } }
  (List.range 16).foldl (fun s c =>
    match (s.ctx p c).flight with
    | none => s.modCtx p c fun x => { x with queue := [], held := [], gating := none }
    | some f =>
      let s := (s.kvAbort p c).streamAbort p c
      let s := s.modCtx p c fun x => { x with flight := none, queue := [], held := [], gating := none }
      let s := if logged then s.logError 0x0401 p 0 (byteOf c :: be 4 f.sub.seq) else s
      f.binds.foldl (fun s b => match s.objOf b.2 with
        | some o => s.finishDelete o.owner o.index
        | none => s) s) s

/-- The records of the SAT_CHECK layers of a context begin again (R220). -/
def Context.clearLayers (x : Context) : Context := { x with layerStats := match x.pattern with
  | some l => l.freshStats
  | none => [] }

/-- A partition reset begins. -/
def State.beginReset (p : Nat) (s : State) : State :=
  let st := (s.part p).state
  if st = 4 then s
  else ((s.modPart p fun x => { x with state := 4, earlier := st }).dropWork p true).modPart p fun x => { x with ctxs := x.ctxs.map Context.clearLayers }

/-- PARTITION_RESET and TENANT_RESET: TRUE begins a reset. -/
def commitReset : Commit := fun _ t v s =>
  if ofBE v = 0 then s else (s.setObj t.part t.index t.sub v).beginReset t.i

/-- PARTITION_RESET (R383). -/
def execPartitionReset (rq : Request) (s : State) : Host.Outcome State Fault Refusal :=
  settled s (s.ownWrite "PARTITION_RESET" (fun _ _ _ s => (0, s)) commitReset false rq)

/-- TENANT_RESET (R383). -/
def execTenantReset (rq : Request) (s : State) : Host.Outcome State Fault Refusal :=
  settled s (s.ownWrite "TENANT_RESET" (fun _ _ _ s => (0, s)) commitReset false rq)

/-- Every stream slot of a partition is closed, and its generation starts again at 0 (R261). -/
def State.endStreams (p : Nat) (s : State) : State :=
  let ids := (s.streams.map (·.1)).filter fun id => s.streamOwner id == p
  ids.foldl (fun s id =>
    { s with streams := kvSet s.streams id none }.setObj 0 (0x4000 + id) 5 [0] |>.setObj 0 (0x4000 + id) 4 [0xFF]) s

/-- Every ring's indices become 0, CPL_PRODUCER included. -/
def State.zeroRings (p : Nat) (s : State) : State :=
  (List.range 16).foldl (fun s c =>
    let s := match s.ring? p c 2 with
      | some o => s.modObj o.owner o.index (·.setU 4 4 0)
      | none => s
    s.modCtx p c fun x => { x with producer := 0, cplProducer := 0, lastAcceptNs := none }) s

/-- Steps 5 to 7 of R383: the scrub, the rings, and the state before. -/
def State.endReset (p : Nat) (s : State) : State :=
  let held := (s.heldSlots p).map (·.2)
  let s := held.foldl (fun s n => s.modSlot n Slot.scrub) s
  let s := (((s.endStreams p).settleWays p).dropLines fun l => l.part == p).fillPinned.zeroRings p
  let s := s.modPart p fun x => { x with state := x.earlier, resetGen := x.resetGen + 1 }
  ((s.setObj 0 (0x3000 + 0x100 * p) 8 [0]).setObj 0 (0x3001 + 0x100 * p) 2 [0]).settleStop p

/-- PARTITION_RESET_DONE (R383). -/
def execPartitionResetDone (p : Nat) (s : State) : Host.Outcome State Fault Refusal :=
  settled s (if (s.part p).state = 4 then s.endReset p else s)

/-! ### Retirement (R112 to R114, R284) -/

/-- The mesh hops between two slots (R113). -/
def hops (a b : Nat) : Nat :=
  let d := fun (x y : Nat) => (x - y) + (y - x)
  d (a / 9) (b / 9) + d (a % 9) (b % 9)

/-- The nearest of some slots, the lowest on a tie. -/
def nearest (n : Nat) (l : List Nat) : Option Nat := l.foldl (fun b k => match b with
  | none => some k
  | some m => if hops n k < hops n m then some k else some m) none

/-- The replacement of a slot (R113): from STANDBY, else from the free pool. -/
def State.replacementOf (s : State) (n : Nat) (pool : Bool) : Option Nat :=
  match nearest n ((List.range 72).filter fun k => (s.slot k).state == 2) with
  | some k => some k
  | none => if pool then nearest n (s.freePool.filter (· != n)) else none

/-- The prefetchers that deliver to a core that is retired fail their submissions, which name the PREFETCH (R293). -/
def State.failPrefetchers (p core : Nat) (s : State) : State :=
  (List.range 72).foldl (fun s n => ((s.slot n).prefetchers.zipIdx).foldl (fun s e => match e.1 with
    | none => s
    | some f => match (s.ctx f.part f.ctx).pattern with
      | none => s
      | some pat =>
        if f.part = p ∧ (dCores f.desc pat f.core).contains core then
          (s.modSlot n fun x => { x with prefetchers := x.prefetchers.set e.2 none }).stopFlight p f.ctx 0x0107 f.core f.stroke
        else s) s) s

/-- A running stroke of a partition fails because of the retirement of a slot. A MCAST of another core is delivered to the members that are left
(R339); any other result is old or new, line by line (R155). -/
def State.failStroke (p core n : Nat) (r : Running) (s : State) : State :=
  let s := s.modPart p fun x => { x with running := x.running.erase r }
  let s := if r.word0 % 256 = 0x0A ∧ r.core ≠ core then (s.land p (r.writes.filter fun w => w.place != n)).tearAll (r.writes.filter fun w => w.place == n)
    else s.tearAll r.writes
  s.stopFlight p r.ctx 0x0107 r.core r.stroke

/-- Whether the step in progress of a submission needs a core that is retired: strokes of it are still to run there or, in a stream pattern,
have run there, since R284 fails every step during which a core is retired. -/
def State.needsCore (s : State) (p c core : Nat) (f : Flight) : Bool := match f.run? core, (s.ctx p c).pattern with
  | some r, some l => !r.ended || (l.isStream && f.started)
  | _, _ => false

/-- The strokes that run on a slot, and the transfers to or from it, fail with CORE_RETIRED (R114). Where the slot is replaced, so does every
submission whose step needs the core, since the replacement starts empty; where it is not, those end with CORE_LOST (R113). -/
def State.failOn (p core n : Nat) (replaced : Bool) (s : State) : State :=
  let hit := (s.part p).running.filter fun r => r.core == core || r.writes.any (fun w => w.place == n && w.space != 3) || s.readsCore p core r
  let s := (hit.foldl (fun s r => s.failStroke p core n r) s).failPrefetchers p core
  if !replaced then s
  else (List.range 16).foldl (fun s c => match (s.ctx p c).flight with
    | some f => if s.needsCore p c core f then s.stopFlight p c 0x0107 core (((f.run? core).bind fun r => r.todo.head?).getD 0xFFFFFFFF) else s
    | none => s) s

/-- The slots that the steps of a partition that have failed had written (R284). -/
def State.failedSlots (s : State) (p : Nat) : List Nat := (s.part p).ctxs.flatMap fun c => match c.flight with
  | some f => if f.stop.isSome then f.slotsWritten else []
  | none => []

/-- The partition loses a logical core for which no slot is left (R113, R360). -/
def State.loseCore (p core : Nat) (s : State) : State :=
  let s := s.modPart p fun x => { x with map := x.map.set core none, mapGen := x.mapGen + 1, state := if x.state = 2 ∨ x.state = 5 then 3 else x.state,
                                         earlier := if x.earlier = 2 ∨ x.earlier = 5 then 3 else x.earlier }
  let s := (List.range 16).foldl (fun s c => s.stopFlight p c 0x0108 core 0xFFFFFFFF) s
  let mine := (s.openSlots p).filter fun id => (s.streamSlot id).home == core
  (mine.foldl (fun s id => s.loseSlot p id) s).dispatchPart p

/-- A slot is retired (R112): its work fails, its replacement is chosen, and the error log records it. -/
def State.retireSlot (n reason : Nat) (s : State) : State :=
  let before_ := s.replacing.find? fun r => r.slot == n
  let x := match before_ with
    | some r => { s.slot n with logical := r.logical }
    | none => s.slot n
  if x.state ≠ 1 then s
  else
    let s := { s with replacing := s.replacing.filter fun r => r.slot != n }
    let choice := s.replacementOf n (x.part != 0xFF)
    let s := if x.part = 0xFF then s else s.failOn x.part x.logical n choice.isSome
    let written := if x.part = 0xFF then [] else s.failedSlots x.part
    let s := (s.modSlot n fun y =>
      { y.scrub with state := 3, reason := reason, part := 0xFF, logical := 0xFF, whenNs := s.nowNs, whenValid := s.timeValid }).mapChanged
    let s := ({ s with ras := { s.ras with counts := bump s.ras.counts 0 } }.logError 0x0107 0xFF 0 [byteOf n, byteOf (choice.getD 0xFF), byteOf reason]).traceSlot n
    let s := match choice with
      | some k => (s.modSlot k fun y => { y with state := 1, part := x.part, logical := 0xFF, whenNs := s.nowNs, whenValid := s.timeValid }).mapChanged.traceSlot k
      | none => s
    if x.part = 0xFF then s.recoveryCopy (b01 choice.isSome)
    else
      let p := x.part
      let lostBuddy := (s.openSlots p).filter fun id => decide (2 ≤ s.cores p) && (s.streamSlot id).home == (x.logical + s.cores p - 1) % s.cores p
      let s := lostBuddy.foldl (fun s id => s.modStream id fun e => { e with buddyValid := false }) s
      match choice with
      | some k => { s with replacing := s.replacing ++ [{ part := p, logical := x.logical, retired := (before_.map (·.retired)).getD n, slot := k,
                                                                    written := written ++ (before_.map (·.written)).getD [] }] }
      | none => (lostBuddy.filter written.contains).foldl (fun s id =>
          ((s.resetSlot p id).modStream id fun e => { e with lastCode := 0x0505 }).countStream p 7 1) (s.loseCore p x.logical)

/-- SRAM_UNCORRECTABLE (R112): an uncorrectable error in a slot's scratchpad, or, with `acc`, its accumulator. -/
def execSramUncorrectable (slot : Nat) (acc : Bool) (bank line : Nat) (s : State) : Host.Outcome State Fault Refusal :=
  settled s (if (s.slot slot).state = 1 then
      (s.logError (if acc then 0x010A else 0x0109) 0xFF 0 ([byteOf slot, byteOf bank] ++ be 2 line)).retireSlot slot (if acc then 3 else 2)
    else s)

/-- LOGIC_SELF_CHECK_MISMATCH (R112). -/
def execLogicSelfCheckMismatch (slot : Nat) (s : State) : Host.Outcome State Fault Refusal := settled s (s.retireSlot slot 4)

/-- UNIT_TIMEOUT (R112): a unit of a powered slot has not completed a tile in four times its time. -/
def execUnitTimeout (slot : Nat) (s : State) : Host.Outcome State Fault Refusal := settled s (s.retireSlot slot 5)

/-- CORE_REPLACEMENT_DONE (R114, R284): the logical map switches, and the stream slots of the core return. -/
def execCoreReplacementDone (p logical : Nat) (s : State) : Host.Outcome State Fault Refusal :=
  settled s (match s.replacing.find? fun r => r.part == p && r.logical == logical with
    | none => s
    | some r => s.replaceDone r)

/-- A corrected error in a core memory (R99, R112): counted, and a row with 16 within 24 h is marked for repair. -/
def State.sramCorrected (n bank line bit : Nat) (s : State) : State :=
  let now := s.nowNs
  let row := bank * 65536 + line
  let s := s.modSlot n fun x =>
    let l := recent now 86400000000000 row x.errors
    { x with ceCount := x.ceCount + 1, counts := bump x.counts 5, errors := l,
             marked := if 16 ≤ (l.filter fun e => e.1 == row).length ∧ !x.marked.contains row then row :: x.marked else x.marked }
  let s := if (s.slot n).part = 0xFF then s else s.countPart (s.slot n).part 7 1
  s.logError 0x010B 0xFF 0 ([byteOf n, byteOf bank] ++ be 2 line ++ [byteOf bit])

/-- SCRATCHPAD_PATROL (R99): the patrol reads a line, and corrects the error that it finds there, if any. -/
def execScratchpadPatrol (slot bank line : Nat) (bit : Option Nat) (s : State) : Host.Outcome State Fault Refusal :=
  settled s (match bit with
    | some b => if s.powered slot then s.sramCorrected slot bank line b else s
    | none => s)

end Sys2Proof.Machine
end

