-- ==== Sys2Proof/Machine/Modes.lean ====
section
/-! DEFINITION. The power modes: what may refuse a descent, how descents and wakes begin, the supply and thermal
events, and the caps (R10, R14, R28, R29, R495 to R500, R507 to R525). -/

namespace Sys2Proof.Machine

/-! ### The floor and the refusers (R28, R29, R509) -/

/-- The effective floor: MODE_FLOOR, and ACTIVE for a hub or a constellation member (R28). -/
def State.effectiveFloor (s : State) : Nat :=
  if (s.cfg 0x1310 2).testBit 1 ∨ (s.cfg 0x1310 2).testBit 2 then 5 else s.cfg 0x1310 3

/-- Whether the cores run at half rate (R10, R516, R523). -/
def State.halfRate (s : State) : Bool := decide (s.mode < 5) || s.power.braced || s.power.emergency

/-- The contexts of the part. -/
def allCtx : List (Nat × Nat) := (List.range 8).flatMap fun p => (List.range 16).map fun c => (p, c)

/-- The submissions of a context, in flight and queued. -/
def Context.subs (x : Context) : List Submission := (match x.flight with
  | some f => [f.sub]
  | none => []) ++ x.queue

/-- Whether a context's bucket uses a slot that a descent from the present mode switches off: every slot but the Chime slots
from ACTIVE, and the Chime slots as well for a target below ATTEND. -/
def State.losesSlot (s : State) (p target bucket : Nat) (l : Loaded) : Bool :=
  if s.fitsAttend p l bucket then decide (target < 4) else s.mode == 5

/-- The first context with work on a slot that the descent switches off. -/
def State.workLost (s : State) (target : Nat) : Option (Nat × Nat) := allCtx.find? fun e =>
  match (s.ctx e.1 e.2).pattern with
  | some l => (s.ctx e.1 e.2).subs.any fun q => s.losesSlot e.1 target q.bucket l
  | none => false

/-- The first enabled real-time context of a RUNNING partition whose pattern uses such a slot. -/
def State.realtimeLost (s : State) (target : Nat) : Option (Nat × Nat) := allCtx.find? fun e =>
  s.running e.1 && s.ctxClass e.1 e.2 == 2 && (match (s.ctx e.1 e.2).pattern with
    | some l => (List.range l.bucketCount).any fun b => s.losesSlot e.1 target b l
    | none => false)

/-- The context of a Bell chunk, or of other cascade work beyond the Chime cores, that is in flight. -/
def State.bellContext (s : State) : Option Nat := (List.range 16).find? fun c =>
  match (s.ctx s.cascadePart c).pattern, (s.ctx s.cascadePart c).flight with
  | some l, some f => !s.fitsAttend s.cascadePart l f.sub.bucket
  | _, _ => false

/-- A partition with an answering request queued or running. -/
def State.answering (s : State) : Option Nat := (List.range 8).find? fun p =>
  !(s.cascade.answers.getD p []).isEmpty || (s.cascade.serving.getD p none).isSome

/-- Whether a SAVED write, a seal or a readoption is in progress. -/
def State.saveBusy (s : State) : Bool := !s.svc.saving.isEmpty || s.objects.any fun o => o.state == 2 || (o.state == 5 && s.hasKey o.owner && s.readoptTurn o)

/-- A refuser: its code, the partition whose work refuses or 0xFF, the context or slot concerned or 0xFFFF, and SOURCE. -/
structure Refuser where
  code : Nat
  scope : Nat := 0xFF
  what : Nat := 0xFFFF
  source : Nat := 0

/-- The first refuser of R509 that holds against a descent to a target. -/
def State.refuser (s : State) (target : Nat) (requested : Bool) : Option Refuser :=
  if s.afe.held.isSome then some { code := 0x0701, source := 0x50 }
  else if s.mode = 5 ∧ s.bellContext.isSome then some { code := 0x0B01, scope := s.cascadePart, what := s.bellContext.getD 0xFFFF }
  else match s.workLost target with
  | some e => some { code := 0x0B04, scope := e.1, what := e.2 }
  | none =>
    match s.answering with
    | some p => some { code := 0x0B04, scope := p }
    | none =>
      match s.streams.find? fun e => e.2.opened with
      | some e => some { code := 0x0B02, scope := s.streamOwner e.1, what := e.1 }
      | none =>
        match s.realtimeLost target with
        | some e => some { code := 0x0B03, scope := e.1, what := e.2 }
        | none =>
          if target < s.effectiveFloor then some { code := 0x0B05 }
          else if target < 4 ∧ s.net.pcieUp ∧ s.net.busMaster then some { code := 0x0905 }
          else if target < 4 ∧ s.saveBusy then some { code := 0x0B06 }
          else if requested ∧ s.power.braced then some { code := 0x0B07 }
          else none

/-- A refused descent is recorded (R511). -/
def State.recordRefusal (r : Refuser) (target origin : Nat) (s : State) : State :=
  (s.logRefusal r.code r.scope r.source ([byteOf s.mode, byteOf target, byteOf origin, 0] ++ be 2 r.what)).countPower 6 |>.traceMode s.mode target 0 1

/-- A descent is accepted; from ATTEND, its first step closes the dictionary (R506, R69). -/
def State.startDescent (target origin : Nat) (s : State) : State :=
  let s := s.modPower fun x => { x with down := some (target, origin), refused := none, wanted := none, since := s.nowTicks }
  if s.mode = 4 then s.closeService else s

/-! ### Idle descents (R29, R32, R510) -/

/-- Whether nothing keeps a part in ACTIVE busy (R29). -/
def State.activeIdle (s : State) : Bool :=
  s.mode == 5 && s.power.down.isNone && !s.ascend && s.bellContext.isNone && s.answering.isNone && !(s.streams.any fun e => e.2.opened && e.2.gate == 2) &&
  !((s.cfg 0x1310 2).testBit 1 || (s.cfg 0x1310 2).testBit 2)

/-- Whether a part in ATTEND has no candidate held and no Chime work (R29). -/
def State.attendIdle (s : State) : Bool :=
  s.mode == 4 && s.power.down.isNone && !s.ascend && s.afe.held.isNone && (s.ctx s.cascadePart (s.cfg 0x2230 9)).subs.isEmpty

/-- An idle descent: while braced it waits without a record, a refuser is recorded once. -/
def State.idleDescent (target : Nat) (s : State) : State :=
  if s.power.braced then s.modPower fun x => { x with refused := some (0x0B07, target) }
  else match s.refuser target false with
  | none => s.startDescent target 1
  | some r => (if s.power.refused = some (r.code, target) then s else s.recordRefusal r target 1).modPower fun x => { x with refused := some (r.code, target) }

/-- ACTIVE_IDLE_HOLD_EXPIRY (R29). -/
def execActiveIdleHoldExpiry (s : State) : Host.Outcome State Fault Refusal := settled s (if s.activeIdle then s.idleDescent 4 else s)

/-- The descent of an idle part in ATTEND to its floor. -/
def State.attendDescent (s : State) : State := if s.attendIdle ∧ s.effectiveFloor < 4 then s.idleDescent s.effectiveFloor else s

/-- An idle descent that a refuser stopped is tried again once that refuser has cleared (R510). -/
def State.retryDescent (s : State) : State :=
  match s.power.refused with
  | none => s
  | some (code, target) =>
    if s.power.braced ∨ ((s.refuser target false).map (·.code)) = some code then s
    else if (target = 4 ∧ s.activeIdle) ∨ (target < 4 ∧ s.attendIdle) then s.idleDescent target
    else s

/-! ### POWER_REQUEST (R496) -/

/-- The checks of POWER_REQUEST. A descent request that meets an ascent waits for its end (R507). -/
def checkPowerRequest : Check := fun _ _ v s =>
  let n := ofBE v
  if n < s.effectiveFloor then (0x0E0A, s)
  else if s.mode ≤ n ∨ s.ascend then (0, s)
  else match s.refuser n true with
    | some r => (0x0E15, s.recordRefusal r n 2)
    | none => (0, s)

/-- POWER_REQUEST starts the ascent, or the descent without its idle hold. -/
def commitPowerRequest : Commit := fun _ _ v s =>
  let n := ofBE v
  if n < s.mode then (if s.ascend then s.modPower fun x => { x with wanted := some n } else s.startDescent n 2)
  else if n = 5 then s.ascendFor 7
  else s

/-- A requested descent that an ascent held back is tested once the ascent has completed. -/
def State.settleWanted (s : State) : State :=
  match s.power.wanted with
  | none => s
  | some n =>
    let s := s.modPower fun x => { x with wanted := none }
    if s.mode ≤ n then s else match s.refuser n true with
    | some r => s.recordRefusal r n 2
    | none => s.startDescent n 2

/-! ### Wakes (R500, R507, R512) -/

/-- A wake source: below ATTEND the part wakes to the target, and a descent from ATTEND is reversed. -/
def State.wake (target reason : Nat) (s : State) : State :=
  if 4 ≤ s.mode then s.abortDescent reason (reason == 1)
  else if s.mode = 0 ∨ ((s.mode = 2 ∨ s.mode = 3) ∧ target < 4) then s
  else (if s.power.up.isSome then s else s.setObj 0 0x1400 4 [byteOf reason]).modPower fun x =>
    { x with up := some (max target (x.up.getD 0)), since := if x.up.isNone then s.nowTicks else x.since, shortHold := if x.up.isNone ∧ reason = 1 then 1 else if reason = 1 then x.shortHold else 0 }

/-- WAKE_PIN (R500): WAKE_N has been low for 1 ms. -/
def execWakePin (s : State) : Host.Outcome State Fault Refusal := settled s (s.wake (s.cfg 0x1400 5) 2)

/-- POWER_ALARM (R500): SECNS reaches WHEN. -/
def execPowerAlarm (s : State) : Host.Outcome State Fault Refusal :=
  settled s (
    let v := s.obj 0 0x1400 3
    if ofBE (v.take 1) = 0 then s
    else
      let at_ := (ofTime96 (slice v 1 12)).getD 0
      (((s.reach (at_ * 2 ^ 32)).setObj 0 0x1400 3 (0 :: v.drop 1)).wake (ofBE (v.drop 13)) 3))

/-- An event of the Tchirix die: logged, or, while the compute die is off, kept in the store of 16 records. -/
def State.logAon (log code scope source : Nat) (detail : Bytes) (s : State) : State :=
  if 4 ≤ s.mode then (if log = 1 then s.logRefusal code scope source detail else s.logError code scope source detail)
  else
    let r := s.record code scope source detail
    s.modPower fun x =>
      { x with store := (if x.store.length < 16 then x.store else x.store.drop 1) ++ [(log, r)],
               storeLost := if x.store.length < 16 then x.storeLost else bump x.storeLost ((x.store.head?.map (·.1)).getD 0) }

/-- The store's records move into their logs at an entry to ATTEND (R512). -/
def State.emptyStore (s : State) : State :=
  let s := s.power.store.foldl (fun s e => if e.1 = 1 then s.refusalEntry e.2 else s.errorEntry e.2) s
  let lost := s.power.storeLost
  { s with errorLog := { s.errorLog with lost := bumpBy s.errorLog.lost 8 (lost.getD 0 0) },
           refusalLog := { s.refusalLog with lost := bumpBy s.refusalLog.lost 8 (lost.getD 1 0) } }.modPower fun x => { x with store := [], storeLost := [0, 0] }

/-! ### Supply and temperature (R513 to R517, R523, R524) -/

/-- REGULATOR_LIMIT_REACHED (R513). -/
def execRegulatorLimitReached (s : State) : Host.Outcome State Fault Refusal := settled s (s.countPower 11)

/-- BRACE_START (R516). -/
def execBraceStart (s : State) : Host.Outcome State Fault Refusal :=
  settled s (if s.power.braced then s
    else (((s.countPower 9).logAon 0 0x0B09 0xFF 0 []).modPower fun x => { x with braced := true, slowed := true }).modSvc fun x =>
      { x with saving := x.saving.map fun e => { e with braced := true } })

/-- Completes the record of the brace that ends: the lowest VAON in mV and the duration in µs. -/
def withDetail (d : Bytes) : List LogRec → List LogRec
  | [] => []
  | r :: l => if r.code = 0x0B09 then { r with detail := d } :: l else r :: withDetail d l

/-- BRACE_END (R517): VAON has stayed at or above 1.67 V for 100 µs. -/
def execBraceEnd (lowestMv durationUs : Nat) (s : State) : Host.Outcome State Fault Refusal :=
  settled s (if !s.power.braced then s
    else
      let d := be 2 lowestMv ++ be 4 durationUs
      let inStore := s.power.store.any fun e => e.2.code == 0x0B09
      let s := if inStore then s else { s with errorLog := { s.errorLog with recs := withDetail d s.errorLog.recs } }
      s.modPower fun x =>
        { x with braced := false, store := x.store.map fun e => if e.2.code = 0x0B09 ∧ e.2.detail = [] then (e.1, { e.2 with detail := d }) else e })

/-- EMERGENCY_START (R523): a sensor and its temperature in units of 0.1 °C, or none where PWR_ALERT_N is asserted. -/
def execEmergencyStart (sensor : Option (Nat × Int)) (s : State) : Host.Outcome State Fault Refusal :=
  settled s (
    let hot := match sensor with
      | some e => decide (1020 ≤ e.2)
      | none => true
    if s.power.emergency ∨ !hot ∨ s.mode < 4 then s
    else
      let s := (s.countPower 10).modPower fun x => { x with emergency := true, slowed := true, emergencyAtNs := s.nowNs }
      match sensor with
      | some e => s.logError 0x0B0B 0xFF 0 (byteOf e.1 :: be 2 (unsigned 16 e.2))
      | none => s.logError 0x0B0C 0xFF 0 [])

/-- EMERGENCY_END (R523): the end of a whole second, which began after the emergency did, in which no sensor read above 97 °C and
PWR_ALERT_N stayed high. -/
def execEmergencyEnd (second : Nat) (s : State) : Host.Outcome State Fault Refusal :=
  settled s (if !s.power.emergency ∨ second * 1000000000 < s.power.emergencyAtNs + 1000000000 then s
    else (s.reach (second * 1000000000 * 2 ^ 32)).modPower fun x => { x with emergency := false })

/-- SLOWED_SECOND (R524). -/
def execSlowedSecond (s : State) : Host.Outcome State Fault Refusal :=
  settled s (if !s.power.slowed then s
    else s.modPower fun x => { x with slowed := x.braced || x.emergency, view := x.view.map fun v => bump v 2 })

/-! ### Caps (R520 to R522) -/

/-- The caps in force, in mW; 0 for a partition not RUNNING. -/
def State.capShares (s : State) : List Nat :=
  let run := (List.range 8).filter fun p => s.running p
  let fixed := (run.map fun p => s.area p 0 6).sum
  let shared := (run.filter fun p => s.area p 0 6 == 0).length
  (List.range 8).map fun p =>
    if !s.running p then 0 else if s.area p 0 6 ≠ 0 then s.area p 0 6 else (s.cfg 0x1440 1 - 25000 - fixed) / shared

/-- POWER_DUTY_UPDATE (R521): the mean estimate of each partition over the last 1 ms, in mW. -/
def execPowerDutyUpdate (means : List Nat) (s : State) : Host.Outcome State Fault Refusal :=
  settled s (
    let caps := s.capShares
    let clocks := if s.halfRate then 81920 else 163840
    s.modPower fun x =>
      let duty := x.duty.zipIdx.map fun e =>
        let m := means.getD e.2 0
        let cap := caps.getD e.2 0
        if !s.running e.2 then 16 else if cap < m then max 4 (e.1 - 1) else if 10 * m < 9 * cap then min 16 (e.1 + 1) else e.1
      { x with duty := duty, view := x.view.zipIdx.map fun e =>
          let d := x.duty.getD e.2 16
          if d < 16 then bumpBy (bump e.1 0) 1 (clocks * (16 - d) / 16) else e.1 })

end Sys2Proof.Machine
end

