-- ==== Sys2Proof/Machine/Acoustic.lean ====
section
/-! DEFINITION. Microphones, beams, features, feeds and the Tchirix die (R386 to R423), and the chunks of stream contexts
that the part submits itself (R287, R289). Samples are FP32 codes, +0 where nothing is written. -/

namespace Sys2Proof.Machine

/-! ### Samples and filters (R391, R396, R397) -/

/-- The sample at an index, where it is kept. -/
def Track.at? (t : Track) (i : Int) : Option Nat :=
  if i < 0 ∨ (t.next : Int) ≤ i then none else t.words[t.next - 1 - i.toNat]?

/-- The sample at an index; +0 where none is kept. -/
def Track.read (t : Track) (i : Int) : Nat := (t.at? i).getD 0

/-- The index of the oldest sample kept. -/
def Track.oldest (t : Track) : Nat := t.next - t.words.length

/-- Adds a sample, keeping the newest `cap`. -/
def Track.push (cap w : Nat) (t : Track) : Track := { next := t.next + 1, words := (w :: t.words).take cap }

/-- The AUDCLK ticks per sample at a rate code: 0 8 kHz, 1 16 kHz, 2 24 kHz, 3 32 kHz, 4 48 kHz (R387). -/
def ticksPer : Nat → Nat
  | 0 => 3072 | 1 => 1536 | 2 => 1024 | 3 => 768 | _ => 512

/-- The CIC ratio Q of a chain with T ticks per bit at D ticks per sample (R391). -/
def cicRatio (T D : Nat) : Nat := D / T / 4
/-- The group delay G of a chain in AUDCLK ticks (R391). -/
def groupDelay (T D : Nat) : Nat := 5 * (cicRatio T D - 1) * T / 2 + 109 * D / 4
/-- The bits that one output of a chain of CIC ratio q uses. -/
def chainSpan (q : Nat) : Nat := 5 * (q - 1) + 218 * q + 1
/-- The first valid output of a chain that uses bits from tick S (R392). -/
def firstValid (S T D : Nat) : Nat := (S + groupDelay T D + D - 1) / D

/-- The bits from S on that lie before the first that output V uses, V's instant being its centre (R387, R392). -/
def firstSkip (S T D : Nat) : Nat := (firstValid S T D * D - groupDelay T D - S) / T

/-- The sums of q neighbours. -/
def boxSum (q : Nat) (l : List Int) : List Int := (List.range (l.length + 1 - q)).map fun i => ((l.drop i).take q).sum
/-- Every n-th of a list. -/
def every (n : Nat) (l : List Nat) : List Nat := (List.range ((l.length + n - 1) / n)).map fun i => l.getD (i * n) 0
/-- A FIR: one fused multiply-add per tap, taps in ascending order (R391). -/
def fir (filter taps : Nat) (x : List Nat) : List Nat :=
  (List.range (x.length + 1 - taps)).map fun i => (List.range taps).foldl (fun a k => fpFma 0 (Config.firTap filter k % 2 ^ 32) (x.getD (i + k) 0) a) 0

/-- The outputs of a chain on a run of bits (R391): the CIC in integers, then the three FIRs. -/
def chainOutputs (q : Nat) (b : List Nat) : List Nat :=
  let c := (List.range 5).foldl (fun l _ => boxSum q l) (b.map fun x => if x = 0 then (-1 : Int) else 1)
  let x := (List.range ((c.length + q - 1) / q)).map fun i => fpMul 0 (Config.firTap (16 + q) 0 % 2 ^ 32) (toFp32 0 (ofInt (c.getD (i * q) 0)))
  fir 2 33 (every 2 (fir 1 31 (every 2 (fir 0 31 x))))

/-- Takes new bits into a chain: the outputs of every input, and the chain after them. -/
def Chain.take_ (T D inputs : Nat) (new : List (List Nat)) (c : Chain) : List (List Nat) × Chain :=
  if !c.running ∨ !c.settled then ([], c)
  else
    let q := cicRatio T D
    let all := (List.range inputs).map fun k => c.bits.getD k [] ++ (new.getD k []).drop c.skip
    let len := (all.map (·.length)).foldl min ((all.headD []).length)
    let n := if len < chainSpan q then 0 else (len - chainSpan q) / (4 * q) + 1
    (all.map fun b => if n = 0 then [] else chainOutputs q (b.take (chainSpan q + (n - 1) * (4 * q))),
     { c with bits := all.map (·.drop (n * (4 * q))), next := c.next + n, skip := c.skip - (new.headD []).length })

/-! ### Clocks (R386, R390) -/

/-- The ticks per bit of the array clock. -/
def State.arrayDiv (s : State) : Nat := s.cfg 0x2200 4
/-- The ticks per bit of the Tchirix clock. -/
def State.tcxDiv (s : State) : Nat := s.cfg 0x2230 5
/-- S of a chain (R390): the first bit after its settle time. -/
def settleTick (s0 us T : Nat) : Nat := s0 + ((us * 24576 + 999) / 1000 + T - 1) / T * T

/-- The array clock starts: both of its chains begin to settle. -/
def State.startArray (s : State) : State :=
  if s.cfg 0x2200 1 = 0 ∨ s.afe.array.running then s
  else
    let c : Chain := { s0 := s.afe.atc }
    s.modAfe fun x => { x with array := c, arrayOwn := c, lines := List.replicate 32 {}, arrayRows := List.replicate 32 {}, beams48 := List.replicate 16 {} }

/-- The array clock stops. -/
def State.stopArray (s : State) : State := s.modAfe fun x => { x with array := { x.array with running := false }, arrayOwn := { x.arrayOwn with running := false } }

/-- V48, the first valid 48 kHz index of the array chains; none while the array does not run at 3.072 MHz. -/
def State.v48 (s : State) : Option Nat :=
  if s.afe.array.running ∧ s.arrayDiv = 8 then some (firstValid (settleTick s.afe.array.s0 (s.cfg 0x2200 5) 8) 8 512) else none

/-! ### The beam table (R396, R398, R399) -/

/-- An entry of a beam table: INT, FRAC and WEIGHT. -/
def beamEntry (t : Bytes) (b c : Nat) : Nat × Nat × Nat :=
  let e := ofBE (slice t (8 + 8 * (64 * b + c)) 8)
  (bits e 11 0, bits e 17 12, bits e 63 32)

/-- Whether an FP32 code is a zero. -/
def fpIsZero (c : Nat) : Bool := c % 2 ^ 31 == 0

/-- τ in ticks (R399). -/
def tauOf (t : Bytes) : Nat :=
  512 * (((List.range 1024).map fun k => let e := beamEntry t (k / 64) (k % 64); if fpIsZero e.2.2 then 0 else e.1).foldl max 0 + 1)

/-- B, the first valid beam index at D ticks per sample (R399). -/
def State.beamValid (s : State) (D : Nat) : Option Nat := s.v48.map fun v =>
  (v * 512 + (if D = 512 then 0 else 8 * D) + tauOf s.afe.table + 8192 + D - 1) / D

/-- The checks of BEAM_TABLE (R398). -/
def checkBeamTable : Check := fun _ _ v s =>
  let bad := (List.range 1024).any fun k =>
    let e := ofBE (slice v (8 + 8 * k) 8)
    bits e 31 18 != 0 || !finiteFp32 (bits e 63 32) || (decide (32 ≤ k % 64) && !fpIsZero (bits e 63 32) && s.field 0 0x2210 4 (k % 64 - 32) == 0xFFFF)
  (if v.length ≠ 8200 ∨ bad then 0x0E0A else 0, s)

/-- A table takes effect for every beam together. -/
def State.applyTable (index : Nat) (t : Bytes) (s : State) : State :=
  s.modAfe fun x => { x with table := t, waiting := none, tableGen := x.tableGen + 1, applied := max index ((x.beams48.headD {}).next) }

/-- BEAM_TABLE commits, replacing one that waits. -/
def commitBeamTable : Commit := fun _ t v s =>
  let s := s.setObj t.part t.index t.sub v
  let i := ofBE (v.take 8)
  if i ≤ (s.afe.beams48.headD {}).next then s.applyTable i v else s.modAfe fun x => { x with waiting := some (i, v) }

/-- BEAM_TABLE (R398). -/
def execBeamTable (rq : Request) (s : State) : Host.Outcome State Fault Refusal :=
  settled s (s.ownWrite "BEAM_TABLE" checkBeamTable commitBeamTable true rq)

/-- BEAM_TABLE_APPLY (R398). -/
def execBeamTableApply (s : State) : Host.Outcome State Fault Refusal :=
  settled s (match s.afe.waiting with
    | some (i, t) => s.applyTable i t
    | none => s)

/-! ### Beams (R395 to R397, R400) -/

/-- The state of a receive channel. -/
def State.rxChan (s : State) (ch : Nat) : RxChannel := (kvGet s.net.rx ch).getD {}

/-- A fractional read at delay i + f/64 before position n (R396). -/
def interpolate (x : Int → Nat) (n : Int) (f : Nat) : Nat :=
  (List.range 32).foldl (fun v k => fpFma 0 (Config.interpTap f k % 2 ^ 32) (x (n - 16 + (k : Nat))) v) 0

/-- The position in a channel's 48 kHz stream, in 1/64 sample, of 48 kHz index n (R400). -/
def State.netPosition (s : State) (n : Nat) : Int := match s.afe.map with
  | some (atc0, ns0, _) =>
    let ns : Rat := (ns0 : Rat) / 4294967296 + (((n * 512 : Nat) : Int) - (atc0 : Int) : Int) * ((s.afe.ratio : Rat) / 72057594037927936)
    roundEven (ns * 48 / 1000000 * 64)
  | none => 0

/-- One beam at 48 kHz index n (R396): its sum, and how many network samples had not arrived. -/
def State.beamAt (s : State) (b n : Nat) : Nat × Nat :=
  (List.range 64).foldl (fun a c =>
    let e := beamEntry s.afe.table b c
    if c < 32 then (fpFma 0 e.2.2 (interpolate ((s.afe.lines.getD c {}).read) ((n : Int) - (e.1 : Int)) e.2.1) a.1, a.2)
    else
      let ch := s.field 0 0x2210 4 (c - 32)
      if ch = 0xFFFF ∨ s.afe.rateRange ∨ s.afe.map.isNone then (fpFma 0 e.2.2 0 a.1, a.2)
      else
        let t := (s.rxChan ch).released
        let pos := s.netPosition n - 64 * (e.1 : Int) - (e.2.1 : Int)
        let m := -(((-pos) / 64 : Int))
        let f := (m * 64 - pos).toNat
        let late := ((List.range 32).filter fun k => (t.at? (m - 16 + (k : Nat))).isNone).length
        (fpFma 0 e.2.2 (interpolate t.read m f) a.1, if fpIsZero e.2.2 then a.2 else a.2 + late)) (0, 0)

/-- Beam b sampled by the rate filter at 16 kHz index j (R397). -/
def beam16 (t : Track) (j : Nat) : Nat :=
  (List.range 49).foldl (fun v k => fpFma 0 (Config.firTap 9 k % 2 ^ 32) (t.read (3 * (j : Int) - 24 + (k : Nat))) v) 0

/-- Computes the beams of the next 48 kHz index, and the 16 kHz sample that it completes. -/
def State.beamStep (s : State) : State :=
  let n := (s.afe.beams48.headD {}).next
  let r := (List.range 16).map fun b => if (s.cfg 0x2210 1).testBit b then s.beamAt b n else (0, 0)
  let late := (r.map (·.2)).sum
  let s := s.modAfe fun x =>
    { x with beams48 := x.beams48.zipIdx.map fun e => e.1.push 4096 ((r.getD e.2 (0, 0)).1),
             netLate := x.netLate + late, counts := bumpBy x.counts 4 late, lateAt := if late = 0 then x.lateAt else (n :: x.lateAt).take 4096 }
  let j := ((s.afe.history.getD 1 {}).next)
  if s.cfg 0x2210 2 = 1 ∧ 3 * j + 25 ≤ n + 1 then
    s.modAfe fun x => { x with history := x.history.zipIdx.map fun e => if e.2 = 0 then e.1 else e.1.push 61440 (beam16 (x.beams48.getD (e.2 - 1) {}) j) }
  else s

/-- Computes the beams that the delay lines allow: none mixes two tables. -/
def State.beamLoop : Nat → State → State
  | 0, s => s
  | k + 1, s =>
    let n : Nat := (s.afe.beams48.headD {}).next
    let blocked : Bool := match s.afe.waiting with
      | some (i, _) => decide (i ≤ n)
      | none => false
    if blocked ∨ (s.afe.lines.headD {}).next < n + 16 then s else s.beamStep.beamLoop k

/-- Before the first beam the tracks begin at the first valid index (R399). -/
def State.beginBeams (s : State) : State :=
  match s.beamValid 512, s.beamValid 1536 with
  | some b48, some b16 =>
    if (s.afe.beams48.headD {}).next = 0 then
      s.modAfe fun x => { x with beams48 := List.replicate 16 { next := b48 },
                                 history := x.history.zipIdx.map fun e => if e.2 = 0 ∨ b16 ≤ e.1.next then e.1 else { next := b16 } }
    else s
  | _, _ => s

/-! ### What arrives -/

/-- An FP32 sample as INT16: × 32,768, RNE, clamped (R406). -/
def int16Of (c : Nat) : Int := (toIntRange 0 (-32768) 32767 ((ofFp32 c).scale 15)).1
/-- The FP32 code of an INT16 sample. -/
def ofInt16 (i : Int) : Nat := toFp32 0 ((ofInt i).scale (-15))

/-- Row 0 of the history takes what the ring holds beyond it (R414, R517); while braced, and below ATTEND, it waits. An
index that the ring no longer holds is +0 and flagged GAP. -/
def State.forwardLive (s : State) : State :=
  if s.mode < 4 ∨ s.power.braced then s
  else
    s.modAfe fun x =>
      let row := x.history.headD {}
      let n := x.preroll.next - row.next
      let lost := x.preroll.oldest - row.next
      let row' := (List.range n).foldl (fun t i => t.push 61440 (x.preroll.read ((row.next + i : Nat) : Int))) row
      { x with history := x.history.set 0 row', gaps := if 0 < lost then ((row.next, x.preroll.oldest) :: x.gaps).take 16 else x.gaps }

/-- What the inputs have given passes the chains: the listening samples into the pre-roll ring, the array into its delay lines
and the beams. A failed or masked array input, and a failed listening input, contributes +0 (R393). -/
def State.hear (i : Sound) (s : State) : State :=
  if s.mode < 2 then s
  else
    let x := s.afe
    let t := x.tcx.take_ s.tcxDiv 1536 1 [i.tchirix]
    let dead := x.micFailed.contains (if x.spare then 33 else 32)
    let heard := ((t.1.headD []).map fun c => ofInt16 (if dead then 0 else int16Of c))
    let s := s.modAfe fun x => { x with tcx := t.2, preroll := heard.foldl (fun r c => r.push 32768 c) x.preroll }
    let s := s.forwardLive
    if s.mode < 4 then s
    else
      let live := fun (k : Nat) => (s.cfg 0x2200 2).testBit k && !x.micFailed.contains k
      let T := s.arrayDiv
      let D := ticksPer (s.cfg 0x2200 3)
      let a := if T = 8 then x.array.take_ 8 512 32 i.array else ([], x.array)
      let o := x.arrayOwn.take_ T D 32 i.array
      let put := fun (cap : Nat) (rows : List Track) (outs : List (List Nat)) =>
        rows.zipIdx.map fun e => (outs.getD e.2 []).foldl (fun (r : Track) c => r.push cap (if live e.2 then c else 0)) e.1
      let s := s.modAfe fun x => { x with array := a.2, arrayOwn := o.2, lines := put 8192 x.lines a.1, arrayRows := put 61440 x.arrayRows o.1 }
      let s := if s.afe.array.settled ∧ T = 8 then s.beginBeams else s
      if (s.afe.beams48.headD {}).next = 0 then s else s.beamLoop ((a.1.headD []).length + 4096)

/-- CHAIN_SETTLE_END (R390, R392, R394): a chain begins to use bits; indices of the ring before its first output are +0. -/
def execChainSettleEnd (tchirix : Bool) (s : State) : Host.Outcome State Fault Refusal :=
  settled s (if tchirix then
      if s.afe.tcx.settled ∨ !s.afe.tcx.running ∨ s.mode < 2 then s
      else
        let S := settleTick s.afe.tcx.s0 (s.cfg 0x2230 11) s.tcxDiv
        let V := firstValid S s.tcxDiv 1536
        (s.modAfe fun x =>
          let from_ := x.preroll.next
          let ring : Track := if from_ = 0 then { next := V } else (List.range (V - from_)).foldl (fun r _ => r.push 32768 0) x.preroll
          { x with atc := max x.atc S, tcx := { x.tcx with settled := true, s := S, next := V, skip := firstSkip S s.tcxDiv 1536 }, preroll := ring,
                   history := if from_ = 0 ∧ 4 ≤ s.mode then x.history.set 0 { next := V } else x.history,
                   gaps := if from_ ≠ 0 ∧ from_ < V then ((from_, V) :: x.gaps).take 16 else x.gaps }).forwardLive
    else
      if s.afe.array.settled ∨ !s.afe.array.running ∨ s.mode < 4 then s
      else
        let T := s.arrayDiv
        let S := settleTick s.afe.array.s0 (s.cfg 0x2200 5) T
        let v48 := firstValid S 8 512
        let own := firstValid S T (ticksPer (s.cfg 0x2200 3))
        s.modAfe fun x =>
          { x with atc := max x.atc S, array := { x.array with settled := true, s := S, next := v48, skip := firstSkip S 8 512 },
                   arrayOwn := { x.arrayOwn with settled := true, s := S, next := own, skip := firstSkip S T (ticksPer (s.cfg 0x2200 3)) },
                   lines := List.replicate 32 { next := if T = 8 then v48 else 0 }, arrayRows := List.replicate 32 { next := own } })

/-! ### Inputs that fail (R393, R394) -/

/-- MIC_INPUT_FAILED: array inputs 0 to 31, 32 the listening input, 33 the spare. -/
def execMicInputFailed (input : Nat) (s : State) : Host.Outcome State Fault Refusal :=
  settled s (if 33 < input ∨ s.afe.micFailed.contains input then s
    else
      let src := if input < 32 then 0 else 0x50
      let s := (s.modAfe fun x => { x with micFailed := input :: x.micFailed, counts := bump x.counts 1 }).logAon 0 0x0702 0xFF src [byteOf input]
      if input = 32 ∧ !s.afe.spare then
        ((s.modAfe fun x => { x with spare := true, tcx := { s0 := x.atc }, counts := bump x.counts 2 }).logAon 0 0x0703 0xFF src [byteOf 32])
      else s)

/-- The inputs that pass their retest at an entry to ATTEND return to service. -/
def State.retestMics (pass : List Nat) (s : State) : State :=
  s.modAfe fun x => { x with micFailed := x.micFailed.filter fun k => !(decide (k < 32) && pass.contains k) }

/-! ### ATC against NS112 (R388, R400) -/

/-- NS_PER_TICK's nominal value, 15,625/384 ns, in units of 2⁻⁵⁶ ns. -/
def nominalRatio : Nat := 15625 * 2 ^ 56 / 384

/-- ATC_MAP_SAMPLE: a coinciding reading of ATC and of NS112 (in 2⁻³² ns). -/
def execAtcMapSample (atc ticks : Nat) (s : State) : Host.Outcome State Fault Refusal :=
  settled s (if s.mode < 4 then s
    else
      let s := (s.reach ticks).modAfe fun x => { x with atc := max x.atc atc }
      let measured := match s.afe.map with
        | some (a0, n0, _) => if atc ≤ a0 then nominalRatio else (ticks - n0) * 2 ^ 24 / (atc - a0)
        | none => nominalRatio
      let lo := nominalRatio - nominalRatio / 5000
      let hi := nominalRatio + nominalRatio / 5000
      let out := decide (measured < lo) || decide (hi < measured)
      let s' := s.modAfe fun x => { x with map := some (atc, ticks, b01 s.timeValid), ratio := min hi (max lo measured), rateRange := out }
      if out ∧ !s.afe.rateRange then s'.logError 0x0706 0xFF 0 [] else s')

/-! ### Features (R401, R402) -/

/-- A 16 kHz sample of a receive channel: the 49-tap filter on its 48 kHz stream (R392). -/
def rx16 (t : Track) (j : Nat) : Nat :=
  (List.range 49).foldl (fun v k => fpFma 0 (Config.firTap 4 k % 2 ^ 32) (t.read (3 * (j : Int) - 24 + (k : Nat))) v) 0

/-- The 400 samples of a feature frame of a source, once its last sample has arrived: receive channels 0 to 1,023, 1,024 the
single microphone, 1,025 + b beam b. -/
def State.frameInput (s : State) (source f : Nat) : Option (List Nat) :=
  if source < 1024 then
    let t := (s.rxChan source).released
    if t.next < 3 * (160 * f + 399) + 25 then none else some ((List.range 400).map fun i => rx16 t (160 * f + i))
  else
    let t := s.afe.history.getD (source - 1024) {}
    if 16 < source - 1024 ∨ t.next < 160 * f + 400 then none else some ((List.range 400).map fun i => t.read ((160 * f + i : Nat) : Int))

/-- A feature frame (R401): window, transform, power, mel filters, logarithm, as BF16. -/
def melFrame (bands : Nat) (x : List Nat) : Bytes :=
  let w := (x.zipIdx.map fun e => ((fpMul 0 e.1 (Config.hannWindow e.2 % 2 ^ 32), 0) : Cpx)) ++ List.replicate 112 (0, 0)
  let p := ((fft false 9 w).take 257).map fun v => toFp32 0 (Num.add false ((ofFp32 v.1).mul (ofFp32 v.1)) ((ofFp32 v.2).mul (ofFp32 v.2)))
  (List.range bands).flatMap fun b =>
    let e := p.zipIdx.foldl (fun a y => fpFma 0 (Config.melWeight bands b y.2 % 2 ^ 32) y.1 a) 0
    le 2 (encodeFmt 1 3 0 false (ofFp32 (Config.lnResult (fpMax e 0x30800000) % 2 ^ 32))).1

/-- FEATURE_FRAME (R401): a frame of a source, once its last sample has arrived. -/
def execFeatureFrame (source frame : Nat) (x : Sound) (s : State) : Host.Outcome State Fault Refusal :=
  settled s (
    let s := s.hear x
    if s.mode < 4 then s
    else match s.frameInput source frame with
      | none => s
      | some l => s.modAfe fun y =>
        { y with counts := bump y.counts 6,
                 features := kvSet y.features source (some (((frame, melFrame (s.cfg 0x2220 1) l) :: (kvGet y.features source).getD []).take 32)) })

/-- FEATURE_LATENCY of a receive channel in ns (R402). -/
def State.rxLatency (s : State) (ch : Nat) : Nat :=
  1000 * (16500 + s.field 0 (0x5000 + ch) 2 11) + (if s.field 0 (0x5000 + ch) 2 7 = 1 then 156250 else 0)

/-! ### Candidates (R411 to R417, R421, R31 to R33) -/

/-- Changes a wake record. -/
def State.modWake (seq : Nat) (f : WakeRec → WakeRec) (s : State) : State := s.modAfe fun x => { x with wakes := x.wakes.map fun w => if w.seq = seq then f w else w }

/-- A member of a feed's configuration: ENABLE, SOURCE, START, CONTEXT, CORE, RING_OFFSET, BLOCK_SAMPLES, RING_BLOCKS, FORMAT,
DELIVER_TOKEN, CREDIT_TOKEN, DOORBELL_EN, FEED_BUCKET. -/
def State.feedCfg (s : State) (k m : Nat) : Nat := s.field s.cascadePart 0x2240 (k + 1) m

/-- W (R415): the first block boundary of the CANDIDATE feed, counted from CHIME_START, at or after B and F. -/
def State.switchIndex (s : State) (chime valid : Nat) : Nat :=
  let block := match (List.range 16).find? fun k => s.feedCfg k 0 == 1 && s.feedCfg k 2 == 1 with
    | some k => max 1 (s.feedCfg k 6)
    | none => 1
  chime + (valid - chime + block - 1) / block * block

/-- The array's indices in the record of the candidate held (R415, R421). -/
def State.noteArray (seq : Nat) (s : State) : State :=
  match s.v48, s.beamValid 1536 with
  | some v, some b => s.modWake seq fun w => { w with arrayValid := v, beamValid := b, switch := s.switchIndex w.chime (max b w.forward) }
  | _, _ => s

/-- The feeds that begin at a candidate (R405). -/
def State.startFeeds (start index seq : Nat) (s : State) : State :=
  let begin_ := fun (e : Feed × Nat) =>
    if s.feedCfg e.2 0 = 1 ∧ s.feedCfg e.2 2 = start ∧ !(start == 2 && e.1.confirmed) then
      ({ on := true, index := index, cand := seq, fresh := true, confirmed := start == 2 } : Feed)
    else e.1
  s.modAfe fun x => { x with feeds := x.feeds.zipIdx.map begin_ }

/-- Counts in WAKE_COUNTS. -/
def State.countWake (i : Nat) (s : State) : State := s.modCascade fun x => { x with wakeCounts := bump x.wakeCounts i }

/-- Tick raises a candidate (R411, R413, R31). -/
def State.raiseCandidate (frame score length : Nat) (s : State) : State :=
  let stop := 160 * frame + 399
  let start := stop + 1 - 160 * length
  let N := s.afe.preroll.next - 1
  let lead := start - s.cfg 0x2230 3
  let chime := max lead (N - 30720)
  let seq := s.afe.wakeSeq + 1
  let all1 := 2 ^ 64 - 1
  let w : WakeRec :=
    { seq := seq, epoch := s.afe.epoch, mode := s.mode, flags := b01 (decide (lead < N - 30720)) + 2 * b01 s.afe.spare, score := score, start := start, stop := stop,
      chime := chime, forward := N + 1, arrayValid := all1, beamValid := all1, switch := all1, atNs := s.nowNs, valid := s.timeValid }
  let s := (s.modAfe fun x => { x with wakeSeq := seq, held := some seq, wakes := (w :: x.wakes).take 16 }).countWake 0
  let s := (s.startFeeds 1 chime seq).streamAppend s.cascadePart 0x2230 8 []
  let s := if 4 ≤ s.mode then (s.noteArray seq).modPower fun x => { x with shortHold := 0 } else s
  s.wake 4 1

/-- TICK_FRAME (R411): a frame of the listening input; a phrase that is found while a candidate is held counts as held back. -/
def execTickFrame (frame score length : Nat) (x : Sound) (s : State) : Host.Outcome State Fault Refusal :=
  settled s (
    let s := s.hear x
    if s.mode < 2 ∨ s.afe.preroll.next < 160 * frame + 400 ∨ score < s.cfg 0x2230 2 ∨ 255 < score ∨ length = 0 ∨ 200 < length then s
    else if s.afe.held.isSome then s.countWake 3
    else s.raiseCandidate frame score length)

/-- The NS112 stamp of a 16 kHz index through ATC_MAP (R388), in ns. -/
def State.stampOf (s : State) (n : Nat) : Option Nat := match s.afe.map with
  | some (a0, n0, 1) =>
    let d : Int := ((n * 1536 : Nat) : Int) - (a0 : Int)
    some (((n0 / 4294967296 : Nat) : Int) + d * (s.afe.ratio : Int) / (2 ^ 56 : Nat)).toNat
  | _ => none

/-- The held candidate ends: 1 confirmed, 2 rejected, 3 expired. -/
def State.endCandidate (outcome beam : Nat) (s : State) : State :=
  match s.afe.held with
  | none => s
  | some seq =>
    let row := (s.afe.history.headD {}).next
    let s := s.modWake seq fun w =>
      let early := decide (row ≤ w.switch)
      { w with outcome := outcome, beam := beam, flags := w.flags + (if early then 4 else 0), switch := if early then 2 ^ 64 - 1 else w.switch,
               switchNs := if early then none else s.stampOf w.switch }
    s.modAfe fun x => { x with held := none }

/-- CANDIDATE_EXPIRED (R412). -/
def execCandidateExpired (s : State) : Host.Outcome State Fault Refusal :=
  settled s (if s.afe.held.isNone then s
    else (((s.endCandidate 3 0xFF).modAfe fun x => { x with counts := bump x.counts 0 }).logAon 0 0x0705 0xFF 0x50 []).modPower fun x => { x with shortHold := 0 })

/-- Chime's decision in USER_VALUE of a completion of CHIME_CONTEXT (R417, R32). -/
def State.chimeDecision (user : Nat) (s : State) : State :=
  match s.afe.held with
  | none => s
  | some seq =>
    let stop := ((s.afe.wakes.find? fun w => w.seq == seq).map (·.stop)).getD 0
    if user % 4 = 1 then ((((s.endCandidate 1 (bits user 15 8)).countWake 1).startFeeds 2 stop seq).modCascade fun x => { x with gongAsked := x.gongAsked || s.cfg 0x1310 10 == 1 }).ascendFor 5
    else if user % 4 = 2 then ((s.endCandidate 2 (bits user 15 8)).countWake 2).modPower fun x => { x with shortHold := if x.shortHold = 1 then 2 else x.shortHold }
    else s

/-- The checks of TICK_MODEL (R410). -/
def checkTickModel : Check := fun _ _ v s =>
  (if 196608 < v.length ∨ 1000000 < (Config.tickCost v).1 ∨ 32768 < (Config.tickCost v).2 then 0x0E0A else 0, s)

/-- TICK_MODEL (R410). -/
def execTickModel (rq : Request) (s : State) : Host.Outcome State Fault Refusal :=
  settled s (s.ownWrite "TICK_MODEL" checkTickModel (fun _ t v s => s.setObj t.part t.index t.sub v) true rq)

/-! ### Feeds (R404 to R408, R415) -/

/-- A sample in FORMAT (R406). -/
def feedSample (format c : Nat) : Bytes := match format with
  | 0 => le 2 (unsigned 16 (int16Of c))
  | 1 => le 4 (unsigned 32 (toIntRange 0 (-8388608) 8388607 ((ofFp32 c).scale 23)).1)
  | 2 => le 2 (encodeFmt 1 3 0 false (ofFp32 c)).1
  | _ => le 4 c

/-- A row padded to 64 bytes. -/
def padLine (b : Bytes) : Bytes := b ++ List.replicate ((64 - b.length % 64) % 64) 0

/-- The bytes of a block of a feed. -/
def State.blockBytes (s : State) (k : Nat) : Nat :=
  let rows := match s.feedCfg k 1 with
    | 0 => 17 | 1 => 1 | _ => 32
  64 + rows * ((s.feedCfg k 6 * (if s.feedCfg k 8 = 0 ∨ s.feedCfg k 8 = 2 then 2 else 4) + 63) / 64 * 64)

/-- The first index whose beam rows a feed delivers: W for a candidate, else the first valid beam sample. -/
def State.beamFrom (s : State) (f : Feed) : Nat :=
  if f.cand = 0 then (let t := s.afe.history.getD 1 {}; if t.words = [] then 2 ^ 64 - 1 else t.oldest)
  else ((s.afe.wakes.find? fun w => w.seq == f.cand).map (·.switch)).getD (2 ^ 64 - 1)

/-- The block that a feed delivers next, as its header and rows (R406). -/
def State.feedBlock (s : State) (k : Nat) (f : Feed) : Bytes :=
  let B := s.feedCfg k 6
  let fmt := s.feedCfg k 8
  let rowBytes := fun (t : Track) (from_ : Nat) => padLine ((List.range B).flatMap fun i => feedSample fmt (if f.index + i < from_ then 0 else t.read ((f.index + i : Nat) : Int)))
  let bf := s.beamFrom f
  let gap := f.gap || (s.feedCfg k 1 != 2 && s.afe.gaps.any fun g => decide (g.1 < f.index + B) && decide (f.index < g.2))
  let late := s.afe.lateAt.any fun n => decide (f.index ≤ n / 3) && decide (n / 3 < f.index + B)
  let clamped := s.afe.wakes.any fun w => w.seq == f.cand && w.flags.testBit 0
  let flags := b01 f.fresh + 2 * b01 gap + 4 * b01 (late && s.feedCfg k 1 == 0) + 8 * b01 clamped
  let header := le 8 f.index ++ le 4 s.afe.epoch ++ le 4 f.block ++ le 2 (if s.feedCfg k 1 = 0 then min B (bf - f.index) else B) ++ le 2 flags ++ le 4 f.cand ++ List.replicate 40 0
  header ++ (match s.feedCfg k 1 with
    | 0 => rowBytes (s.afe.history.headD {}) 0 ++ (List.range 16).flatMap fun b => rowBytes (s.afe.history.getD (b + 1) {}) bf
    | 1 => rowBytes (s.afe.history.headD {}) 0
    | _ => s.afe.arrayRows.flatMap fun t => rowBytes t 0)

/-- Whether every row of a feed's next block has its last sample. -/
def State.feedReady (s : State) (k : Nat) (f : Feed) : Bool :=
  let stop := f.index + s.feedCfg k 6
  match s.feedCfg k 1 with
  | 2 => decide (stop ≤ (s.afe.arrayRows.headD {}).next)
  | 1 => decide (stop ≤ (s.afe.history.headD {}).next)
  | _ => decide (stop ≤ (s.afe.history.headD {}).next) && (decide (stop ≤ (s.afe.history.getD 1 {}).next) || decide (stop ≤ s.beamFrom f))

/-- A feed that has fallen out of the history goes on at its oldest sample (R408). -/
def State.feedOverrun (k : Nat) (f : Feed) (s : State) : Feed × State :=
  let row := if s.feedCfg k 1 = 2 then s.afe.arrayRows.headD {} else s.afe.history.headD {}
  if row.next ≤ f.index + 61440 then (f, s)
  else
    let f := { f with index := row.oldest, gap := true }
    (f, (s.modAfe fun x => { x with counts := bump x.counts 3 }).logViolation 0x0704 s.cascadePart 0 (byteOf k :: be 8 f.index))

/-- A submission entry of the part's own (R407, R287): SEQ and BUCKET. -/
def ownEntry (seq bucket : Nat) : Bytes := le 4 seq ++ le 2 bucket ++ List.replicate 58 0

/-- Writes an entry of the part's own and rings the doorbell; the code says why nothing was submitted. -/
def State.selfSubmit (p c seq bucket : Nat) (s : State) : Nat × State :=
  let i := s.postedTo p c
  let code := s.doorbellCode p c ((i + 1) % 2 ^ 32)
  if code ≠ 0 then (code, s)
  else match s.ring? p c 1 with
    | none => (0x0E15, s)
    | some o => (s.modObj o.owner o.index fun x => { x with content := memWrite x.content (64 * (i % s.ringEntries p c)) (ownEntry seq bucket) }).autoDoorbell p c

/-- FEED_BLOCK_DELIVER (R407): the block, its token, and the submission that it asks for; without credit, ring room or a
context that accepts it, it waits. -/
def execFeedBlockDeliver (feed : Nat) (x : Sound) (s : State) : Host.Outcome State Fault Refusal :=
  settled s (
    let s := s.hear x
    let p := s.cascadePart
    let c := s.feedCfg feed 3
    let core := s.feedCfg feed 4
    match s.afe.feeds[feed]?, s.slotOf p core with
    | some f, some slot =>
      let r := s.feedOverrun feed f
      let f := r.1
      let s' := r.2
      let rb := max 1 (s.feedCfg feed 7)
      let ct := s.feedCfg feed 10
      let need := decide (rb ≤ f.block)
      if s.mode < 4 ∨ s.feedCfg feed 0 = 0 ∨ !f.on ∨ !s'.feedReady feed f ∨ !s.powered slot ∨ (need ∧ (s.slot slot).token c ct = 0) ∨
          s.ctxCfg p c 0 4 * 64 < s.feedCfg feed 5 * 64 + rb * s.blockBytes feed then s
      else
        let bell := decide (s.feedCfg feed 11 = 1)
        if bell ∧ (s'.selfSubmit p c (f.block % 2 ^ 32) (s.feedCfg feed 12)).1 ≠ 0 then s
        else
          let at_ := s.ctxCfg p c 0 3 * 64 + s.feedCfg feed 5 * 64 + f.block % rb * s.blockBytes feed
          let s := s'.modSlot slot fun y =>
            { y with spad := memWrite y.spad at_ (s'.feedBlock feed f), tokens := if need then y.tokens.modify (8 * c + ct) (· - 1) else y.tokens }
          let s := s.addToken p slot c (s.feedCfg feed 9 % 8) none
          let f' := { f with block := f.block + 1, index := f.index + s.feedCfg feed 6, fresh := false, gap := false,
                             on := !(s.feedCfg feed 2 == 1 && s.afe.held != some f.cand) }
          let s := s.modAfe fun y => { y with feeds := y.feeds.set feed f' }
          if bell then (s.selfSubmit p c (f.block % 2 ^ 32) (s.feedCfg feed 12)).2 else s
    | _, _ => s)

/-! ### Playback (R423) -/

/-- A member of a playback buffer: CORE, RING_OFFSET, BLOCK_SAMPLES, RING_BLOCKS, FORMAT, FILL_TOKEN, CONTEXT. -/
def State.playCfg (s : State) (p k m : Nat) : Nat := s.field p 0x2251 (k + 1) m

/-- Block i of a playback ring of a partition, where its FILL_TOKEN allows it. -/
def State.ringBlock (p k i : Nat) (s : State) : Option (Bytes × State) :=
  let c := s.playCfg p k 6
  let t := s.playCfg p k 5 % 8
  match s.slotOf p (s.playCfg p k 0) with
  | none => none
  | some slot =>
    if (s.slot slot).token c t = 0 ∨ !s.powered slot then none
    else
      let n := (s.playCfg p k 2 * (if s.playCfg p k 4 = 0 ∨ s.playCfg p k 4 = 2 then 2 else 4) + 63) / 64 * 64
      let at_ := s.ctxCfg p c 0 3 * 64 + s.playCfg p k 1 * 64 + i % max 1 (s.playCfg p k 3) * n
      some (memRead (s.slot slot).spad at_ n, s.modSlot slot fun x => { x with tokens := x.tokens.modify (8 * c + t) (· - 1) })

/-- PLAYBACK_BLOCK_READ (R423): the block, or zeros and an underrun. -/
def execPlaybackBlockRead (buffer : Nat) (s : State) : Host.Outcome State Fault Refusal :=
  settled s (if s.mode < 4 ∨ 16 ≤ buffer then s
    else match s.ringBlock s.cascadePart buffer (s.afe.played.getD buffer 0) with
      | some r => (r.2.modAfe fun x => { x with played := bump x.played buffer }).send (.audio buffer r.1)
      | none => ((s.modAfe fun x => { x with counts := bump x.counts 5, played := bump x.played buffer }).send (.audio buffer [])))

/-! ### Chunks of the part's own (R287, R289, R403) -/

/-- The open slots of a partition that have a receive channel, with the channel. -/
def State.fedSlots (s : State) (p : Nat) : List (Nat × Nat) :=
  ((s.openSlots p).map fun i => (i, s.cfg (0x4000 + i) 6)).filter fun e => e.2 != 0xFFFF

/-- A member of STREAM_CHUNK_CFG. -/
def State.chunkCfg (s : State) (p c m : Nat) : Nat := s.field p 0x2420 (c + 1) m

/-- The largest feature latency among the channels of the open slots, in ns: what a release recomputed now has (R287). -/
def State.chunkLatency (s : State) (p : Nat) : Nat :=
  let lat := (s.fedSlots p).map fun e => s.rxLatency e.2
  if lat = [] then 1000 * (16500 + 375) else lat.foldl max 0

/-- The release of chunk k of a context in ns (R287): with the latency that was in force when the chunk before it was released, since a release
that is recomputed applies from the next chunk. -/
def State.chunkRelease (s : State) (p c k : Nat) : Nat :=
  (k + 1) * s.chunkCfg p c 0 * 10000000 + (s.ctx p c).latency.getD (s.chunkLatency p)

/-- Writes the features of a chunk into its half of the object (R403). -/
def State.writeFeatures (p k frames : Nat) (o : Obj) (s : State) : State :=
  let rowBytes := (2 * s.cfg 0x2220 1 + 63) / 64 * 64
  let half := 64 + frames * 2049 * rowBytes
  let at_ := k % 2 * half
  let fed := s.fedSlots p
  let header := le 8 k ++ [byteOf frames] ++ List.replicate 55 0
  let planes := (List.range frames).flatMap fun i => (List.range 2049).map fun r =>
    match fed.find? fun e => e.1 == r with
    | none => (i, r, List.replicate rowBytes (0 : Byte))
    | some e => (i, r, slice ((((kvGet s.afe.features e.2).getD []).find? fun (x : Nat × Bytes) => x.1 == k * frames + i).map Prod.snd |>.getD []) 0 rowBytes)
  s.modObj o.owner o.index fun x =>
    { x with content := planes.foldl (fun m e => memWrite m (at_ + 64 + (e.1 * 2049 + e.2.1) * rowBytes) e.2.2) (memWrite x.content at_ header) }

/-- Writes a chunk manifest: its rows, slot and marks, under the offsets that the host gave (R278, R287). -/
def State.writeManifest (steps frames : Nat) (rows : List (Nat × Nat)) (o : Obj) (s : State) : State :=
  let rows := if rows = [] then [(0xFFFF, 0)] else rows
  let entry := fun (e : Nat × Nat) => le 2 e.1 ++ le 2 (s.streamSlot e.1).gen ++ le 2 e.2 ++ [0, 0]
  s.modObj o.owner o.index fun x =>
    { x with content := memWrite (memWrite x.content 0 (le 4 rows.length ++ le 4 steps ++ [byteOf frames, 0, 0, 0])) 64 ((List.replicate steps (rows.flatMap entry)).flatten) }

/-- The smallest bucket for the rows of the fullest core, or the last one (R289). -/
def State.chunkBucket (s : State) (p : Nat) (l : Loaded) (slots : List Nat) : Nat :=
  let most := ((List.range (s.cores p)).map fun k => (slots.filter fun i => (s.streamSlot i).home == k).length).foldl max 0
  let fit := (List.range l.bucketCount).filter fun b => decide (most ≤ l.bucketSize b)
  (fit.foldl (fun (m : Option Nat) b => match m with
    | none => some b
    | some a => if l.bucketSize b < l.bucketSize a then some b else some a) none).getD (l.bucketCount - 1)

/-- A chunk that cannot be submitted completes with a code. -/
def State.failChunk (p c k code : Nat) (s : State) : State :=
  if (s.ring? p c 2).isNone then s else s.refuseSub p c code { index := 0, seq := k % 2 ^ 32, bucket := 0, flags := 0, tag := 0, releaseNs := 0 }

/-- Submits a chunk in a context with the slots given and their marks. Without a pattern, or without an object for the manifest, it completes with the
code that its dispatch would give (R279, R367). -/
def State.submitChunk (p c k : Nat) (rows : List (Nat × Nat)) (s : State) : State :=
  match (s.ctx p c).pattern, s.boundIn (s.ctx p c).binds 65533 with
  | some l, some o => ((s.writeManifest l.steps (s.chunkCfg p c 0) rows o).selfSubmit p c (k % 2 ^ 32) (s.chunkBucket p l (rows.map (·.1)))).2
  | none, _ => s.failChunk p c k 0x0404
  | some _, none => s.failChunk p c k 0x0125

/-- Submits a chunk that counts from its release (R287, R288); so does one that follows its gate, which shares its deadline (R289). -/
def State.releaseChunk (p c k : Nat) (rows : List (Nat × Nat)) (s : State) : State :=
  let early := fun (q : Submission) => { q with released := q.released.map (min (s.ctx p c).lastRelease) }
  (s.submitChunk p c k rows).modCtx p c fun x =>
    { x with queue := x.queue.map early,
             flight := x.flight.map fun f => if f.sub.seq = k % 2 ^ 32 then { f with sub := early f.sub } else f }

/-- Submits the gate of a chunk of a context: its manifest lists every open slot with a receive channel, with no marks (R289). -/
def State.submitGate (p c g k : Nat) (s : State) : State :=
  let rows := (s.fedSlots p).map fun e => (e.1, 0)
  match (s.ctx p g).pattern, s.boundIn (s.ctx p g).binds 65533 with
  | some l, some m =>
    let s := s.modCtx p c fun x => { x with gating := some (k, none) }
    let r := (s.writeManifest l.steps (s.chunkCfg p c 0) rows m).selfSubmit p g (k % 2 ^ 32) (s.chunkBucket p l (rows.map (·.1)))
    if r.1 = 0 then r.2 else r.2.modCtx p c fun x => { x with gating := some (k, some r.1) }
  | _, _ => s.modCtx p c fun x => { x with gating := some (k, some 0x0404) }

/-- AUTO_CHUNK_RELEASE (R287): chunk k of a context with AUTO set; with a gate context its gate submission goes first. The chunk that is next is
released also where its release has already passed. -/
def execAutoChunkRelease (p c k : Nat) (s : State) : Host.Outcome State Fault Refusal :=
  settled s (
    let x := s.ctx p c
    let rel := s.chunkRelease p c k
    if !s.autoChunks p c ∨ k < x.chunkIndex ∨ s.mode < 4 ∨ (s.part p).state ≠ 2 ∨ (rel < s.ns ∧ !(x.latency.isSome ∧ k = x.chunkIndex)) then s
    else
      let s := (s.reach (rel * 2 ^ 32)).modCtx p c fun x => { x with chunkIndex := k + 1, latency := some (s.chunkLatency p), lastRelease := rel }
      let frames := s.chunkCfg p c 0
      match s.boundIn x.binds 65529 with
      | none => s.failChunk p c k 0x0125
      | some o =>
        if o.size < 2 * (64 + frames * 2049 * ((2 * s.cfg 0x2220 1 + 63) / 64 * 64)) then s.failChunk p c k 0x0125
        else
          let s := s.writeFeatures p k frames o
          match s.gateContext p c with
          | none => s.releaseChunk p c k ((s.fedSlots p).map fun e => (e.1, 0))
          | some g => s.submitGate p c g k)

/-- The gate of a slot after a score (R289), and whether it carries RESET. The chunk in which a gate closes runs without the slot, and is the
first of its closed chunks. -/
def gateStep (openAt closeAt hang resetAfter score : Nat) (e : StreamSlot) : StreamSlot × Bool :=
  let nan := ofFp32 score == .nan
  let opens := !nan && !(ofFp32 score).lt (ofFp32 openAt)
  let below := nan || (ofFp32 score).lt (ofFp32 closeAt)
  if e.gate = 2 then
    if !below then ({ e with low := 0 }, false)
    else if hang ≤ e.low + 1 then ({ e with gate := 1, low := 0, closedFor := 1 }, false) else ({ e with low := e.low + 1 }, false)
  else if opens then ({ e with gate := 2, low := 0, closedFor := 0 }, resetAfter != 0 && decide (resetAfter ≤ e.closedFor))
  else ({ e with gate := 1, closedFor := e.closedFor + 1 }, false)

/-- The gates of a chunk's fed slots, moved by the scores of a gate submission that completed with a code: the rows to submit, each with
its mark. Where the gate failed, every slot is fed and the failure is counted and logged (R289). -/
def State.moveGates (p c code : Nat) (s : State) : List (Nat × Nat) × State :=
  let fed := (s.fedSlots p).map (·.1)
  let scores := s.boundIn (s.ctx p (s.chunkCfg p c 2)).binds 65532
  let failed := decide (code ≠ 0 ∧ code ≠ 0x0160 ∧ code ≠ 0x0161 ∧ code ≠ 0x0501 ∧ code ≠ 0x050A) || scores.isNone
  if failed then (fed.map fun i => (i, 0), (s.countStream p 11 1).logError 0x050B p 0 (be 2 code))
  else fed.foldl (fun (a : List (Nat × Nat) × State) i =>
    let old := a.2.streamSlot i
    let v := match scores with
      | some o => o.u (4 * i) 4
      | none => 0
    let st := gateStep (s.chunkCfg p c 3) (s.chunkCfg p c 4) (s.chunkCfg p c 5) (s.chunkCfg p c 6) v old
    let s := a.2.modStream i fun _ => st.1
    let s := if st.1.gate = 2 ∧ old.gate ≠ 2 then s.countStream p 10 1 else s
    (if st.1.gate = 2 then a.1 ++ [(i, b01 st.2)] else a.1, s)) ([], s)

/-- The manifest of a chunk of the host's, with the open slots only: the row of a slot whose gate is closed becomes empty, and that of a slot whose
gate opens after enough closed chunks carries RESET on frame 0 (R289). A slot without a receive channel has no gate. -/
def State.maskManifest (fed : List Nat) (rows : List (Nat × Nat)) (o : Obj) (s : State) : State :=
  let n := o.u 0 4
  let rowAt := fun (m : List (Nat × Byte)) (i : Nat) =>
    let slot := ofLE (memRead m (64 + 8 * i) 2)
    if !fed.contains slot then m
    else match rows.find? fun e => e.1 == slot with
      | none => memWrite m (64 + 8 * i) (le 2 0xFFFF)
      | some e => if e.2 = 1 ∧ i < n ∧ ofLE (memRead m (64 + 8 * i + 4) 2) % 4 = 0 then memWrite m (64 + 8 * i + 4) (le 2 (ofLE (memRead m (64 + 8 * i + 4) 2) + 1)) else m
  s.modObj o.owner o.index fun x => { x with content := (List.range (min n 2048 * min (o.u 4 4) 65535)).foldl rowAt x.content }

/-- The host's chunk at the front of a context goes on with the slots whose gates are open, in the smallest bucket that holds them (R289). -/
def State.submitMasked (p c : Nat) (rows : List (Nat × Nat)) (s : State) : State :=
  match (s.ctx p c).queue, (s.ctx p c).pattern with
  | sub :: rest, some l =>
    let fed := (s.fedSlots p).map fun (e : Nat × Nat) => e.1
    let m : Option Obj := s.boundIn (overlay (s.ctx p c).binds sub.overrides) 65533
    let slots : List Nat := match m with
      | some o => ((chunkRows o 0).map fun (r : Nat × Nat × Nat × Nat) => r.1).filter fun i => decide (i < 2048) && (!fed.contains i || rows.any fun e => e.1 == i)
      | none => []
    let s := match m with
      | some o => s.maskManifest fed rows o
      | none => s
    (s.modCtx p c fun x => { x with queue := { sub with gated := true, bucket := s.chunkBucket p l slots } :: rest }).dispatchAll p c
  | _, _ => s

/-- STREAM_GATE_UPDATE (R289): the gate submission has completed; each fed slot's gate moves, and the chunk is submitted. For a chunk that the host
submits, with AUTO FALSE, the command first submits the gate of the chunk that waits (assumption 67). -/
def execStreamGateUpdate (p c : Nat) (s : State) : Host.Outcome State Fault Refusal :=
  settled s (match (s.ctx p c).gating, s.gateContext p c, (s.ctx p c).queue with
    | some (k, some code), _, _ =>
      let r := (s.modCtx p c fun x => { x with gating := none }).moveGates p c code
      if s.autoChunks p c then r.2.releaseChunk p c k r.1 else r.2.submitMasked p c r.1
    | none, some g, sub :: _ => if (s.ctx p c).flight.isNone ∧ sub.released.isSome ∧ s.awaitsGate p c sub then s.submitGate p c g sub.seq else s
    | _, _, _ => s)

end Sys2Proof.Machine
end

