-- ==== Sys2Proof/Machine/Cascade.lean ====
section
/-! DEFINITION. The cascade: its models and their promotions, answering requests, and the part as a Gong client (R26 to R42,
R70). -/

namespace Sys2Proof.Machine

/-! ### The models (R37) -/

/-- CASCADE_MODELS's own checks (R37): each handle names a SEALED object that the partition owns or holds. The limit of 4 MiB that R30 gives a
Chime model has no check and no code there, and an object of any size is taken (assumption 49). -/
def checkCascadeModels : Check := fun _ t v s =>
  let mem := [5, 2, 5, 2, 5, 2]
  let bad := (List.range 3).any fun k =>
    let h := memberAt mem v (2 * k)
    let l := memberAt mem v (2 * k + 1)
    decide (2 < l) || (h != 0 && (l == 0 || (match s.objOf h with
      | some o => o.kind != 1 || decide (o.state < 3) || !(o.owner == t.part || (o.claim? t.part).isSome)
      | none => true)))
  (if bad then 0x0E0A else 0, s)

/-- CASCADE_MODELS (R37). -/
def execCascadeModels (rq : Request) (s : State) : Host.Outcome State Fault Refusal :=
  settled s (s.ownWrite "CASCADE_MODELS" checkCascadeModels (fun _ t v s => s.setObj t.part t.index t.sub v) false rq)

/-! ### The wake plan's loads (R420) -/

/-- A context's pattern is loaded again, once its object's claim has completed; a load that fails leaves the context with none. -/
def State.reloadContext (p c : Nat) (s : State) : State :=
  match (s.ctx p c).reload with
  | none => s
  | some h =>
    let fail := fun (code : Nat) (s : State) =>
      (((s.modCtx p c fun x => { x with reload := none, lastCode := code }).logError 0x0707 p 0 ([byteOf p, byteOf c] ++ be 2 code)).dispatchAll p c)
    if !s.hasKey p then s
    else match s.objOf h with
      | none => fail 0x0201 s
      | some o =>
        if o.kind ≠ 1 then fail 0x0202 s
        else if (o.claim? p).isSome ∧ !o.claimed p 1 then s
        else
          let r := s.loadCode p c h
          let s := { r.2 with svc := { r.2.svc with detail := [] } }
          if r.1 ≠ 0 then fail r.1 s
          else (s.installPattern p c { handle := h, bytes := memRead o.content 0 o.size }).dispatchAll p c

/-- Every load that the plan still owes a partition is tried. -/
def State.reloadPart (p : Nat) (s : State) : State := (List.range 16).foldl (fun s c => s.reloadContext p c) s

/-- CLAIM_COMPLETE (R36, R323): the claim of a partition on an object completes, with what waits for it: the next promotion, and the loads of
the wake plan. -/
def execClaimComplete (p handle : Nat) (s : State) : Host.Outcome State Fault Refusal :=
  settled s (match s.objOf handle with
    | none => s.settlePromotion
    | some o => ((s.completeClaim p o).settlePromotion).reloadPart p)

/-! ### Answering requests (R34, R40 to R42) -/

/-- The next request queued for a partition is served. -/
def State.serveNext (p : Nat) (s : State) : State :=
  match s.cascade.answers.getD p [], s.cascade.serving.getD p none with
  | q :: rest, none => if s.mode = 5 then s.modCascade fun x => { x with answers := x.answers.set p rest, serving := x.serving.set p (some q) } else s
  | _, _ => s

/-- A request joins the queue of a serving partition. -/
def State.enqueueAnswer (p : Nat) (own : Bool) (v : Bytes) (s : State) : State :=
  ((s.modCascade fun x => { x with answers := x.answers.modify p (· ++ [(own, v)]) }).serveNext p).ascendFor 6

/-- Whether a serving partition's queue is full. -/
def State.answersFull (s : State) (p : Nat) : Bool := decide (s.cfg 0x1310 12 ≤ (s.cascade.answers.getD p []).length)

/-- Whether the part accepts answering requests: a member of the constellation in force does where it is the lead member (R42). -/
def State.leads (s : State) : Bool := s.peer.members == 0 || s.peer.id == 0 || s.peer.index == s.peer.lead

/-- ANSWER_REQUEST's own checks (R40 to R42). -/
def checkAnswerRequest : Check := fun _ t _ s =>
  (if !s.leads then 0x0012 else if s.answersFull t.part then 0x0011 else 0, s)

/-- ANSWER_REQUEST (R40). -/
def execAnswerRequest (rq : Request) (s : State) : Host.Outcome State Fault Refusal :=
  settled s (s.ownWrite "ANSWER_REQUEST" checkAnswerRequest (fun _ t v s => s.enqueueAnswer t.part false v) true rq)

/-- Answer tokens reach the subscribers of a partition's ANSWER_TOKENS. -/
def State.answerTokens (p : Nat) (b : Bytes) (s : State) : State := s.streamAppend p 0x1311 2 b

/-- Gong's tokens: to the subscribers of its partition, and, for the part's own request, to those of CASCADE_PARTITION; the last
ones end the request. -/
def State.gongSays (p : Nat) (b : Bytes) (last : Bool) (s : State) : State :=
  match s.cascade.serving.getD p none with
  | none => s
  | some (own, _) =>
    let s := s.answerTokens p b
    let s := if own ∧ p ≠ s.cascadePart then s.answerTokens s.cascadePart b else s
    if last then (s.modCascade fun x => { x with serving := x.serving.set p none }).serveNext p else s

/-- A request of Bell's completes with a code, which the violation log records (R41). -/
def State.bellEnds (code source : Nat) (s : State) : State :=
  let s := s.modCascade fun x => { x with bellDone := (code :: x.bellDone).take 64 }
  if code = 0 then s else s.logViolation code s.cascadePart source []

/-! ### The part as a Gong client (R35, R70) -/

/-- A frame of the part as an Onnum client, in the session it holds, with its tag there (R63). -/
def State.clientFrame (s : State) (f : Frame) : Frame := match s.cascade.session with
  | none => { f with seq := s.svc.nextClient }
  | some id =>
    let f := { f with seq := s.svc.nextClient, session := id, flags := f.flags + 4 }
    { f with tag := tagOf s.cascade.sessionKey f }

/-- A frame goes to the server, at the address and port of GONG_SERVER_ADDR (R35). -/
def State.toServer (f : Frame) (s : State) : State := s.send (.client (s.cfg 0x1310 5) (s.obj 0 0x1310 13) f)

/-- Sends a request as an Onnum client. -/
def State.sendClient (purpose : ClientPurpose) (value : Bytes) (f : Frame) (s : State) : State :=
  let id := s.svc.nextClient
  let f := s.clientFrame f
  (s.modSvc fun x => { x with nextClient := id + 1, clients := x.clients ++ [{ id := id, part := s.cascadePart, purpose := purpose, frame := f, value := value }] }
    ).toServer f

/-- Sends segments of an answering request from an offset: as many as the window still allows (R71). -/
def State.askSegments (r : ClientReq) : Nat → Nat → State → Nat × State
  | 0, off, s => (off, s)
  | n + 1, off, s =>
    if r.value.length ≤ off then (off, s)
    else
      let f := s.clientFrame { op := 8, flags := if r.value.length ≤ off + r.segSize then 2 else 0, typ := 14, index := 0x1311, sub := 1,
                               payload := be 4 off ++ (r.value.drop off).take r.segSize }
      State.askSegments r n (min r.value.length (off + r.segSize))
        ((s.modSvc fun x => { x with nextClient := x.nextClient + 1 }).toServer f)

/-- An answering request goes on: its first response gives the window, and a SEGMENT_ACK the first byte that the server has not received
(R71). -/
def State.moveAnswer (r : ClientReq) (payload : Bytes) (s : State) : State :=
  let off := if r.sentTo.isSome then min r.value.length (ofBE payload) else 0
  let r' := if r.sentTo.isSome then r
            else { r with window := max 1 (ofBE (payload.take 2)), segSize := max 1 (min 1024 (ofBE ((payload.drop 2).take 2))) }
  let q := s.askSegments r' r'.window off
  q.2.modSvc fun x => { x with clients := x.clients ++ [{ r' with sentTo := some q.1 }] }

/-- Whether a client request of a purpose is outstanding. -/
def State.asking (s : State) (k : ClientPurpose) : Bool := s.svc.clients.any fun e => e.purpose == k

/-- The requests that wait go as far as the server's identity and the session allow. -/
def State.clientStep (s : State) : State :=
  if !s.hasKey s.cascadePart then
    s.cascade.waiting.foldl (fun s _ => s.bellEnds 0x0013 0) (s.modCascade fun x => { x with waiting := [] })
  else if !s.cascade.contacted then
    if s.asking .readNode then s else s.sendClient .readNode [] { op := 1, index := 0x1000, sub := 7 }
  else if s.cascade.session.isNone then
    if s.cascade.waiting = [] ∨ s.asking .openSession then s
    else
      let r := s.drawScalar
      let head := [1, byteOf (s.cfg 0x1310 6), 0, 0] ++ be 4 (ofBE (s.obj s.cascadePart 0x1311 4)) ++ publicBytes r.1
      let sig := r.2.signWith ((s.cascade.clientKey.getD s.cascadePart none).getD 0) head
      (sig.2.modCascade fun x => { x with ephemeral := r.1 }).sendClient .openSession [] { op := 0x10, payload := head ++ sig.1 }
  else
    s.cascade.waiting.foldl (fun s v => s.sendClient .answer v { op := 4, typ := 14, index := 0x1311, sub := 1, payload := be 4 v.length ++ be 4 (crc32 v) })
      (s.modCascade fun x => { x with waiting := [] })

/-- The first contact after an entry to ATTEND; an open session stays open (R35). -/
def State.contactServer (s : State) : State :=
  let s := s.modCascade fun x => { x with contacted := false }
  if s.cfg 0x1310 5 = 0 ∨ !s.hasKey s.cascadePart then s else s.clientStep

/-- Bell issues an answering request (R34, R35, R36). -/
def State.bellAsks (v : Bytes) (s : State) : State :=
  let s := (s.modCascade fun x => { x with gongAsked := true }).promoteAll
  let g := s.cfg 0x1310 6
  if s.cfg 0x1310 5 = 0 then
    if !s.leads then s.bellEnds 0x0012 0
    else if s.answersFull g then s.bellEnds 0x0011 0 else (s.enqueueAnswer g true v).bellEnds 0 0
  else (s.modCascade fun x => { x with waiting := x.waiting ++ [v] }).clientStep

/-- The requests that wait all complete with a code. -/
def State.failWaiting (code : Nat) (s : State) : State :=
  s.cascade.waiting.foldl (fun s _ => s.bellEnds code 0xFE) (s.modCascade fun x => { x with waiting := [] })

/-- ONNUM_CLIENT_RESPONSE (R35, R41, R70, R71): the response to the client request `id`, with its status and payload. An answering request ends
with the final response, which has no payload, or with a refusal; where the session has closed, it waits for a new one. -/
def execOnnumClientResponse (id status : Nat) (payload : Bytes) (s : State) : Host.Outcome State Fault Refusal :=
  settled s (match s.svc.clients.find? fun e => e.id == id with
    | none => s
    | some r =>
      if s.mode < 4 then s
      else
        let s := s.modSvc fun x => { x with clients := x.clients.filter fun e => e.id != id }
        match r.purpose with
        | .readNode =>
          if status ≠ 0 ∨ ofBE payload ≠ s.cfg 0x1310 5 then s.failWaiting 0x0010
          else (s.modCascade fun x => { x with contacted := true }).clientStep
        | .openSession =>
          if status ≠ 0 ∨ payload.length < 4 then s.failWaiting 0x0013
          else
            let key := sessionKey s.cascade.ephemeral (slice payload 4 97) (publicBytes s.cascade.ephemeral) (slice payload 4 97)
            let s := s.modCascade fun x => { x with session := some (ofBE (payload.take 4)), sessionKey := key, tokenSeqs := [] }
            (s.sendClient .subscribeTokens [] { op := 5, index := 0x1311, sub := 2, payload := [3, 0, 0, 0] ++ be 4 0 }).clientStep
        | .subscribeTokens => s
        | .answer =>
          if status = 0x0E0D then (s.modCascade fun x => { x with session := none, waiting := r.value :: x.waiting }).clientStep
          else if status = 0 ∧ payload ≠ [] then s.moveAnswer r payload
          else s.bellEnds status 0xFE)

/-- CLIENT_RETRY_TIMER (R70): the second and the third attempt of a request with no response. -/
def execClientRetryTimer (id : Nat) (s : State) : Host.Outcome State Fault Refusal :=
  settled s (match s.svc.clients.find? fun e => e.id == id with
    | none => s
    | some r =>
      if 3 ≤ r.attempts ∨ s.mode < 4 ∨ r.sentTo.isSome then s
      else (s.modSvc fun x => { x with clients := x.clients.map fun e => if e.id = id then { e with attempts := e.attempts + 1 } else e }).toServer r.frame)

/-- PEER_UNREACHABLE_TIMEOUT (R70, R41): 50 ms after the first attempt, with no response. -/
def execPeerUnreachableTimeout (id : Nat) (s : State) : Host.Outcome State Fault Refusal :=
  settled s (match s.svc.clients.find? fun e => e.id == id with
    | none => s
    | some r =>
      if r.sentTo.isSome then s
      else
        let s := s.modSvc fun x => { x with clients := x.clients.filter fun e => e.id != id }
        match r.purpose with
        | .answer => s.bellEnds 0x0010 0xFE
        | .subscribeTokens => s
        | _ => s.failWaiting 0x0010)

/-- ANSWER_TOKENS_RELAY (R34, R35, R76): a NOTIFY of the server is answered with its SEQ, and relayed in order; one that has come before is
answered again. -/
def execAnswerTokensRelay (n : TokenNotify) (s : State) : Host.Outcome State Fault Refusal :=
  settled s (match s.cascade.session with
    | none => s
    | some id =>
      if s.mode < 4 then s
      else
        let f : Frame := { op := 6, response := true, flags := 4, session := id, seq := n.seq, index := 0x1311, sub := 2 }
        let s := if s.cascade.tokenSeqs.contains n.seq then s
          else (s.answerTokens s.cascadePart n.tokens).modCascade fun x => { x with tokenSeqs := (n.seq :: x.tokenSeqs).take 64 }
        s.toServer { f with tag := tagOf s.cascade.sessionKey f })

/-! ### Completion -/

/-- SUBMISSION_COMPLETE (R157, R371), with what the cascade takes from it: Chime's decision (R32, R417), a request that Bell issues
with it (R34) and the tokens that Gong gives with it, with whether they are the last. -/
def execSubmissionComplete (p c : Nat) (asks : Option Bytes) (tokens : Option (Bytes × Bool)) (s : State) : Host.Outcome State Fault Refusal :=
  settled s (match (s.ctx p c).flight with
    | none => s
    | some f =>
      let s' := s.submissionComplete p c
      if (s'.ctx p c).flight.map (·.sub.index) = some f.sub.index then s'
      else
        let chime := decide (p = s.cascadePart ∧ c = s.cfg 0x2230 9)
        let s' := if chime then s'.chimeDecision f.userValue else s'
        let s' := match asks with
          | some v => if p = s.cascadePart ∧ !chime then s'.bellAsks v else s'
          | none => s'
        let s' := match tokens with
          | some (b, last) => s'.gongSays p b last
          | none => s'
        s'.promoteAll)

end Sys2Proof.Machine
end

