-- ==== Sys2Proof/Machine/Image.lean ====
section
/-! DEFINITION. Cameras and the image pipeline (R425 to R445): what arrives on the CSI-2 links, the sharing of the pipeline,
the image processing and the tensor outputs, the statistics, and the settings on the control bus. -/

namespace Sys2Proof.Machine

/-! ### Cameras -/

/-- A camera. -/
def State.cam (s : State) (k : Nat) : Camera := s.image.cams.getD k {}
/-- Changes a camera. -/
def State.modCam (k : Nat) (f : Camera → Camera) (s : State) : State := { s with image := { s.image with cams := s.image.cams.modify k f } }
/-- A number of a camera's first index. -/
def State.camCfg (s : State) (k sub : Nat) : Nat := s.cfg (0x6000 + 0x20 * k) sub
/-- The owner of a camera, or 0xFF. -/
def State.camOwner (s : State) (k : Nat) : Nat := s.camCfg k 1
/-- Whether a camera runs in the mode in force (R444). -/
def State.camRuns (s : State) (k : Nat) : Bool := s.camCfg k 2 == 1 && (s.mode == 5 || (s.mode == 4 && s.cfg 0x2300 5 == k))
/-- Counts in CAM_COUNTS: published; drops for OVERLOAD, FIFO, NO_BUFFER and MODE; headers corrected; lines replaced; CRC
lines; short and long lines; short, long, unended and late frames; unknown packets. -/
def State.countCam (k i : Nat) (s : State) : State := s.modCam k fun x => { x with counts := bump x.counts i }
/-- The enabled camera of a port on a virtual channel (R426). -/
def State.camOn (s : State) (port vc : Nat) : Option Nat := [2 * port, 2 * port + 1].find? fun k => s.camCfg k 2 == 1 && s.camCfg k 3 == vc
/-- The lines of a camera's FIFO (R426). -/
def State.fifoLines (s : State) (k : Nat) : Nat := if s.camCfg (k ^^^ 1) 2 = 1 then 16 else 32
/-- The scope a camera's violations are logged under. -/
def State.camScope (s : State) (k : Nat) : Nat := if s.camOwner k < 8 then s.camOwner k else 0xFF
/-- Logs a violation of a camera's port. -/
def State.camViolation (k code : Nat) (detail : Bytes) (s : State) : State := s.logViolation code (s.camScope k) (0x40 + k / 2) detail
/-- Changes a frame of a camera. -/
def State.modFrame (k seq : Nat) (f : CamFrame → CamFrame) (s : State) : State := s.modCam k fun x => { x with frames := x.frames.map fun e => if e.seq = seq then f e else e }
/-- The frame that a camera is receiving. -/
def Camera.current? (x : Camera) : Option CamFrame := x.recving.bind fun q => x.frames.find? fun e => e.seq == q

/-! ### The acceptance test (R430) -/

/-- The cycles of a camera's line. -/
def State.lineCycles (s : State) (k : Nat) : Nat := s.camCfg k 5 / 2 + 8
/-- LOAD_PPM of a camera. -/
def State.loadPpm (s : State) (k : Nat) : Nat := let d := s.camCfg k 7 * 8192; (s.lineCycles k * 10000000000 + d - 1) / d
/-- Whether camera a has a higher priority than camera b. -/
def State.outranksCam (s : State) (a b : Nat) : Bool := decide (s.camCfg a 8 < s.camCfg b 8) || (s.camCfg a 8 == s.camCfg b 8 && decide (a < b))
/-- The test of R430. -/
def State.acceptsFrame (s : State) (c : Nat) : Bool :=
  let A := (List.range 8).filter fun k => k == c || (s.camCfg k 2 == 1 && (s.outranksCam k c || (s.cam k).frames.any fun f => !f.dropped))
  decide ((A.map s.loadPpm).sum ≤ 1000000) &&
    A.all fun a => decide (((A.filter (· != a)).map s.lineCycles).sum * 10000 ≤ (s.fifoLines a - 1) * s.camCfg a 7 * 8192)

/-! ### Outputs (R433, R435, R437) -/

/-- The member list of OUT_CFG. -/
def outMem : List Nat := rowMem 0x6004 1
/-- A member of an OUT_CFG: ENABLE, OUT_OBJECT, OUT_OFFSET, SLOT_BYTES, FRAME_SLOTS, CROP_X, Y, W, H, OUT_W, OUT_H, CHANNELS, FORMAT,
LAYOUT, MEAN × 3, INV_STD × 3, CONTEXT, CORE, DELIVER_TOKEN, CREDIT_TOKEN, DOORBELL_EN, FEED_BUCKET. -/
def outField (v : Bytes) (m : Nat) : Nat := memberAt outMem v m
/-- The channels of an output. -/
def outChannels (v : Bytes) : Nat := if outField v 11 = 2 then 1 else 3
/-- The bytes of an element. -/
def outElem (v : Bytes) : Nat := if outField v 12 = 2 then 2 else 1
/-- The bytes of a tensor (R434). -/
def tensorBytes (v : Bytes) : Nat :=
  let w := outField v 9
  let h := outField v 10
  let c := outChannels v
  if outField v 13 = 0 then c * h * ((w * outElem v + 63) / 64 * 64) else h * ((w * c * outElem v + 63) / 64 * 64)

/-- The token slot of an output's core and context. -/
def State.outCore (s : State) (k : Nat) (v : Bytes) : Option Nat := if s.camOwner k < 8 then s.slotOf (s.camOwner k) (outField v 21) else none

/-- Takes the credits a frame needs (R437): the ring slots, or none where an output lacks a credit. -/
def State.takeCredits (k : Nat) (outs : List Bytes) (s : State) : Option (List (Option Nat) × State) :=
  let ahead := fun (o : Nat) => ((s.cam k).frames.filter fun f => !f.dropped && (f.slots.getD o none).isSome).length
  outs.zipIdx.foldl (fun a e => match a with
    | none => none
    | some (l, s) =>
      if outField e.1 0 = 0 then some (l ++ [none], s)
      else
        let i := (s.cam k).outIdx.getD e.2 0 + ahead e.2
        if i < outField e.1 4 then some (l ++ [some i], s)
        else match s.outCore k e.1 with
          | none => none
          | some slot =>
            let at_ := 8 * outField e.1 20 + outField e.1 23 % 8
            if (s.slot slot).tokens.getD at_ 0 = 0 then none
            else some (l ++ [some i], s.modSlot slot fun x => { x with tokens := x.tokens.modify at_ (· - 1) })) (some ([], s))

/-- Returns the credits of a frame that is dropped. -/
def State.returnCredits (k : Nat) (f : CamFrame) (s : State) : State :=
  (f.slots.zip (f.ctl.drop 8)).foldl (fun s e => match e.1, s.outCore k e.2 with
    | some i, some slot => if i < outField e.2 4 then s else s.modSlot slot fun x => { x with tokens := bump x.tokens (8 * outField e.2 20 + outField e.2 23 % 8) }
    | _, _ => s) s

/-- A frame is dropped whole: 1 OVERLOAD, 2 FIFO, 3 NO_BUFFER, 4 MODE (R428). -/
def State.dropFrame (k seq why : Nat) (s : State) : State :=
  let s := match (s.cam k).frames.find? fun f => f.seq == seq with
    | some f => s.returnCredits k f
    | none => s
  (s.modCam k fun x =>
    { x with frames := x.frames.map (fun f => if f.seq = seq then { f with dropped := true, slots := [], lines := [] } else f), fifo := x.fifo.filter (fun e => e.1 != seq),
             drops := (seq, 0x0800 + why) :: x.drops, lastCode := 0x0800 + why }).countCam k why

/-! ### Frames open and close (R427, R441) -/

/-- The settings a frame takes at its FS: CFA, BLACK_LEVEL, DPC_THRESHOLD, DPC_LIST, WB_GAINS, CCM, GAMMA_LUT, STATS_GRID, the
outputs, and after them the active width and lines and the data type. -/
def State.camControls (s : State) (k : Nat) : List Bytes :=
  let b := 0x6000 + 0x20 * k
  ((List.range 7).map fun i => s.obj 0 (b + 2) (i + 1)) ++ [s.obj 0 (b + 3) 1] ++ ((List.range 4).map fun o => s.obj 0 (b + 4 + o) 1) ++ [s.obj 0 b 5, s.obj 0 b 6, s.obj 0 b 4]

/-- A black line: every sample at the black level of its colour phase (R427). -/
def blackLine (bl : Bytes) (width y : Nat) : List Nat := (List.range width).map fun x => ofBE (slice bl (2 * (2 * (y % 2) + x % 2)) 2)

/-- A line joins a frame as it arrives: into the FIFO, or the frame is dropped (R428). -/
def State.pushLine (k seq : Nat) (l : CamLine) (s : State) : State :=
  match (s.cam k).frames.find? fun f => f.seq == seq with
  | none => s
  | some f =>
    let s := s.modFrame k seq fun f => { f with arrived := f.arrived + 1 }
    if f.dropped then s
    else if s.fifoLines k ≤ (s.cam k).fifo.length then s.dropFrame k seq 2
    else s.modCam k fun x => { x with fifo := x.fifo ++ [(seq, l)] }

/-- The line that stands for one whose packet was lost: the nearest earlier line of its colour phase, or black (R427). -/
def State.standIn (s : State) (k : Nat) (f : CamFrame) : List Nat :=
  let mine := f.lines ++ (((s.cam k).fifo.filter fun e => e.1 == f.seq).map (·.2))
  if f.arrived < 2 then blackLine (f.ctl.getD 1 []) (ofBE (f.ctl.getD 12 [])) f.arrived else (mine.getD (f.arrived - 2) { samples := [] }).samples

/-- A frame closes (R427): the lines that are missing are black. -/
def State.closeFrame (k : Nat) (ended : Bool) (s : State) : State :=
  match (s.cam k).current? with
  | none => s
  | some f =>
    let lines := ofBE (f.ctl.getD 13 [])
    let missing := lines - f.arrived
    let s := s.modCam k fun x => { x with recving := none }
    if f.dropped then s.modCam k fun x => { x with frames := x.frames.filter fun e => e.seq != f.seq }
    else
      let s := if 0 < missing then s.countCam k 10 else s
      let s := if ended then s else s.countCam k 12
      let black := (List.range missing).map fun i => (f.seq, ({ samples := blackLine (f.ctl.getD 1 []) (ofBE (f.ctl.getD 12 [])) (f.arrived + i), real := false } : CamLine))
      (s.modCam k fun x => { x with fifo := x.fifo ++ black }).modFrame k f.seq fun f =>
        { f with closed := true, feNs := s.nowNs, replaced := f.replaced + missing, arrived := lines, flags := f.flags ||| (if 0 < missing then 1 else 0) ||| (if ended then 0 else 4) }

/-- The setting in effect for a frame: of those that have begun the one that began last, and of equals the one sent last. -/
def inEffect (l : List (Nat × CamSetting)) (seq : Nat) : CamSetting := match l.filter fun e => decide (e.1 ≤ seq) with
  | [] => { gen := 0, value := 0 }
  | a :: r => (r.foldl (fun b e => if b.1 < e.1 then e else b) a).2

/-- A slot opens at the FS of frame n: it takes what waits, else what the slot before it has not sent, and after a restart what is in
effect (R441, R444). -/
def State.openSlot (k n : Nat) (s : State) : State :=
  s.modCam k fun x =>
    let again := fun (w sl : Option CamSetting) (eff : List (Nat × CamSetting)) =>
      match w, sl with
      | some v, _ => some v
      | none, some v => some v
      | none, none => if x.rewrite ∧ eff ≠ [] then some { inEffect eff n with failed := 0 } else none
    { x with slotSeq := n, slotE := again x.waitE x.slotE x.effE, slotG := again x.waitG x.slotG x.effG, waitE := none, waitG := none, rewrite := false }

/-- CSI_FRAME_START (R427, R430, R437, R441): stamped at `ticks`. -/
def execCsiFrameStart (port vc number ticks : Nat) (corrected : Bool) (s : State) : Host.Outcome State Fault Refusal :=
  settled s (match s.camOn port vc with
    | none => s
    | some k =>
      if !s.camRuns k then s
      else
        let s := (s.reach ticks).closeFrame k false
        let n := (s.cam k).seq
        let u := s.camCfg k 10
        let trig := if u < 16 then (s.time.triggers.getD u {}).lastFired else none
        let late := match trig with
          | some t => decide (t / 4294967296 + 1000 * s.camCfg k 11 < s.nowNs)
          | none => false
        let ctl := s.camControls k
        let f : CamFrame := { seq := n, csi := number, flags := (if late then 8 else 0) + (if corrected then 256 else 0), fsNs := s.nowNs, valid := s.timeValid,
                              triggerNs := trig.map (· / 4294967296), ctl := ctl }
        let ok := s.acceptsFrame k
        let s := if late then s.countCam k 13 else s
        let s := if corrected then s.countCam k 5 else s
        let credits := if ok then s.takeCredits k ((ctl.drop 8).take 4) else none
        let s := match credits with
          | some r => r.2
          | none => s
        let s := (s.modCam k fun x =>
          { x with state := 2, seq := n + 1, recving := some n, frames := x.frames ++ [{ f with slots := (credits.map (·.1)).getD [] }],
                   periodNs := if x.lastFsNs = 0 then 0 else s.nowNs - x.lastFsNs, lastFsNs := s.nowNs }).openSlot k n
        if !ok then s.dropFrame k n 1 else if credits.isNone then s.dropFrame k n 3 else s)

/-- The left shift to 14 bits of a data type (R432); none where the type is none of R425's. -/
def inputShift : Nat → Option Nat
  | 0x2A => some 6 | 0x2B => some 4 | 0x2C => some 2 | 0x2D => some 0 | 0x1E => some 6 | _ => none

/-- CSI_LONG_PACKET (R427, R428): `ecc` 0 where the header is good, 1 corrected, 2 uncorrectable. A packet that is discarded past the last active
line has no line to replace; its header is logged all the same (R83). -/
def execCsiLongPacket (port vc dataType ecc : Nat) (crcOk : Bool) (samples : List Nat) (s : State) : Host.Outcome State Fault Refusal :=
  settled s (match s.camOn port vc with
    | none => s
    | some k =>
      if !s.camRuns k ∨ dataType ≠ s.camCfg k 4 then s
      else match (s.cam k).current? with
        | none => s.camViolation k (if ecc = 2 then 0x0805 else 0x0807) ([byteOf port, byteOf vc] ++ if ecc = 2 then [0, 0] else [])
        | some f =>
          let width := ofBE (f.ctl.getD 12 [])
          let past := decide (ofBE (f.ctl.getD 13 []) ≤ f.arrived)
          if ecc = 2 ∧ past then s.camViolation k 0x0805 ([byteOf port, byteOf vc] ++ be 2 f.arrived)
          else if past then
            if f.flags.testBit 1 then s else (s.countCam k 11).modFrame k f.seq fun f => { f with flags := f.flags ||| 2 }
          else if ecc = 2 then
            let s := (s.camViolation k 0x0805 ([byteOf port, byteOf vc] ++ be 2 f.arrived)).countCam k 6
            (s.modFrame k f.seq fun f => { f with flags := f.flags ||| 64, replaced := f.replaced + 1 }).pushLine k f.seq { samples := s.standIn k f, real := false }
          else
            let raw := (if dataType = 0x1E then 2 * width else width)
            let sh := 2 ^ (inputShift dataType).getD 0
            let black := blackLine (f.ctl.getD 1 []) raw f.arrived
            let line := (List.range raw).map fun i => if i < samples.length then samples.getD i 0 * sh % 16384 else black.getD i 0
            let add := fun (b : Bool) (flag count : Nat) (s : State) => if b then (s.countCam k count).modFrame k f.seq fun f => { f with flags := f.flags ||| flag } else s
            let s := add (ecc == 1) 256 5 s
            let s := add (!crcOk) 128 7 s
            let s := add (decide (samples.length < raw)) 16 8 s
            let s := add (decide (raw < samples.length)) 32 9 s
            let s := if crcOk then s else s.modFrame k f.seq fun f => { f with crcLines := f.crcLines + 1 }
            s.pushLine k f.seq { samples := line })

/-- CSI_FRAME_END (R427). -/
def execCsiFrameEnd (port vc ticks : Nat) (corrected : Bool) (s : State) : Host.Outcome State Fault Refusal :=
  settled s (match s.camOn port vc with
    | none => s
    | some k =>
      if !s.camRuns k then s
      else match (s.cam k).current? with
        | none => s.camViolation k 0x0807 [byteOf port, byteOf vc]
        | some f =>
          let s := s.reach ticks
          let s := if corrected then (s.countCam k 5).modFrame k f.seq fun f => { f with flags := f.flags ||| 256 } else s
          s.closeFrame k true)

/-- CSI_UNKNOWN_PACKET (R427): a packet of an unconfigured virtual channel or data type. -/
def execCsiUnknownPacket (port vc dataType : Nat) (s : State) : Host.Outcome State Fault Refusal :=
  settled s (
    let k := (s.camOn port vc).getD (2 * port)
    if s.mode < 4 ∨ ((s.camOn port vc).isSome ∧ dataType = s.camCfg k 4) then s
    else (s.countCam k 14).camViolation k 0x0806 [byteOf port, byteOf vc, byteOf dataType])

/-- FRAME_TIMEOUT (R427): FRAME_TIMEOUT_US has passed with no packet. -/
def execFrameTimeout (camera : Nat) (s : State) : Host.Outcome State Fault Refusal := settled s (if s.camRuns camera then s.closeFrame camera false else s)

/-- PIPE_LINE_SERVICE (R429): one line of the next camera whose FIFO holds one; `full` are the cameras whose writer staging has
no room. -/
def execPipeLineService (full : List Nat) (s : State) : Host.Outcome State Fault Refusal :=
  settled s (match ((List.range 8).map fun i => (s.image.served + 1 + i) % 8).find? fun k => !(s.cam k).fifo.isEmpty && !full.contains k with
    | none => s
    | some k =>
      let s := { s with image := { s.image with served := k } }
      match (s.cam k).fifo with
      | [] => s
      | (seq, l) :: rest => (s.modCam k fun x => { x with fifo := rest }).modFrame k seq fun f => { f with lines := f.lines ++ [l] })

/-! ### Image processing (R432) -/

/-- A plane of samples by row and column. -/
abbrev Plane := List (List Nat)
/-- An index mirrored at the edges of 0 to n − 1. -/
def mirror (n : Nat) (i : Int) : Nat := let j := if i < 0 then -i else if (n : Int) ≤ i then 2 * ((n : Int) - 1) - i else i; j.toNat
/-- A sample, with the edges mirrored. -/
def Plane.at_ (p : Plane) (x y : Int) : Nat := let r := p.getD (mirror p.length y) []; r.getD (mirror r.length x) 0
/-- A plane from a function of column and row. -/
def planeOf (w h : Nat) (f : Nat → Nat → Nat) : Plane := (List.range h).map fun y => (List.range w).map fun x => f x y
/-- The colour of a pixel: 0 R, 1 G, 2 B, by the CFA and the phase of its column and row (0 RGGB, 1 GRBG, 2 GBRG, 3 BGGR). -/
def cfaColour (cfa x y : Nat) : Nat :=
  let i := 2 * (y % 2) + x % 2
  (match cfa with
   | 0 => [0, 1, 1, 2] | 1 => [1, 0, 2, 1] | 2 => [1, 2, 0, 1] | _ => [2, 1, 1, 0]).getD i 1
/-- The median of four, the middle two averaged and rounded down. -/
def median4 (l : List Nat) : Nat := let q := l.mergeSort (fun a b => decide (a ≤ b)); (q.getD 1 0 + q.getD 2 0) / 2
/-- Black level. -/
def blackLevel (bl : Bytes) (p : Plane) : Plane := p.zipIdx.map fun r => r.1.zipIdx.map fun e => e.1 - ofBE (slice bl (2 * (2 * (r.2 % 2) + e.2 % 2)) 2)
/-- Defect pixels. -/
def defects (thr : Nat) (list : Bytes) (w : Nat) (p : Plane) : Plane :=
  let fixed := (List.range (list.length / 4)).map fun i => (ofBE (slice list (4 * i) 2), ofBE (slice list (4 * i + 2) 2))
  planeOf w p.length fun x y =>
    let v := p.at_ x y
    let n := [p.at_ ((x : Int) - 2) y, p.at_ ((x : Int) + 2) y, p.at_ x ((y : Int) - 2), p.at_ x ((y : Int) + 2)]
    if fixed.contains (x, y) ∨ (thr ≠ 0 ∧ n.all fun m => decide (thr < (v - m) + (m - v))) then median4 n else v
/-- One colour of a pixel: its own sample, or the demosaic filter's. -/
def demosaicAt (cfa c : Nat) (p : Plane) (x y : Nat) : Nat :=
  if cfa = 4 ∨ cfaColour cfa x y = c then p.at_ x y
  else min 16383 (Config.demosaic (cfa * 4 + 2 * (y % 2) + x % 2) c ((List.range 25).map fun i => p.at_ ((x : Int) + (i % 5 : Nat) - 2) ((y : Int) + (i / 5 : Nat) - 2)))
/-- Three planes. -/
abbrev Colour := List Plane
/-- White balance. -/
def whiteBalance (g : Bytes) (c : Colour) : Colour := c.zipIdx.map fun e => e.1.map fun r => r.map fun v => min 16383 ((2 * v * ofBE (slice g (2 * e.2) 2) + 4096) / 8192)
/-- The colour matrix: rows in ascending column order, rounded half up and clamped. -/
def colourMatrix (w : Nat) (m : Bytes) (c : Colour) : Colour :=
  let k := fun (i : Nat) => signed 16 (ofBE (slice m (2 * i) 2))
  (List.range 3).map fun r => planeOf w ((c.headD []).length) fun x y =>
    let v := fun (j : Nat) => (((c.getD j []).at_ x y : Nat) : Int)
    (clampInt 0 16383 ((k (3 * r) * v 0 + k (3 * r + 1) * v 1 + k (3 * r + 2) * v 2 + 2048) / 4096 + k (9 + r))).toNat
/-- Gamma: 14 bits to 12. -/
def gamma (lut : Bytes) (v : Nat) : Nat :=
  let e := fun (i : Nat) => ofBE (slice lut (2 * i) 2)
  (e (v / 16) * (16 - v % 16) + e (v / 16 + 1) * (v % 16) + 8) / 16

/-- The colour-matrix output of a frame, before gamma. -/
def CamFrame.colour (f : CamFrame) : Colour :=
  let w := ofBE (f.ctl.getD 12 [])
  let raw : Plane := f.lines.map (·.samples)
  if ofBE (f.ctl.getD 14 []) = 0x1E then
    let yuv : Colour := [planeOf w raw.length fun x y => raw.at_ ((2 * x + 1 : Nat) : Int) y, planeOf w raw.length fun x y => raw.at_ ((x / 2 * 4 : Nat) : Int) y,
      planeOf w raw.length fun x y => raw.at_ ((x / 2 * 4 + 2 : Nat) : Int) y]
    colourMatrix w (f.ctl.getD 5 []) yuv
  else
    let p := defects (ofBE (f.ctl.getD 2 [])) (f.ctl.getD 3 []) w (blackLevel (f.ctl.getD 1 []) raw)
    let cfa := ofBE (f.ctl.getD 0 [])
    colourMatrix w (f.ctl.getD 5 []) (whiteBalance (f.ctl.getD 4 []) ((List.range 3).map fun c => planeOf w p.length (demosaicAt cfa c p)))

/-- The 12-bit image of a frame: gamma, or for YUV422 the matrix output shifted right by 2. -/
def CamFrame.image (f : CamFrame) : Colour :=
  if ofBE (f.ctl.getD 14 []) = 0x1E then f.colour.map fun p => p.map fun r => r.map (· / 4) else f.colour.map fun p => p.map fun r => r.map (gamma (f.ctl.getD 6 []))

/-! ### Tensors (R433, R434) -/

/-- One pass of the scaler along a row: n samples to m, pixel centres aligned, rounded half up. -/
def scaleRow (n m : Nat) (r : Nat → Nat) (x : Nat) : Nat :=
  let num : Int := (((2 * x + 1) * n : Nat) : Int) - (m : Int)
  let i := num / ((2 * m : Nat) : Int)
  let f := num % ((2 * m : Nat) : Int)
  let a := r (clampInt 0 (n - 1) i).toNat
  let b := r (clampInt 0 (n - 1) (i + 1)).toNat
  (((((2 * m : Nat) : Int) - f) * (a : Int) + f * (b : Int) + (m : Int)) / ((2 * m : Nat) : Int)).toNat

/-- The crop of a plane, scaled along the rows and then down the columns. -/
def cropScale (v : Bytes) (p : Plane) : Plane :=
  let rows := planeOf (outField v 9) (outField v 8) fun x y => scaleRow (outField v 7) (outField v 9) (fun i => p.at_ ((outField v 5 + i : Nat) : Int) ((outField v 6 + y : Nat) : Int)) x
  planeOf (outField v 9) (outField v 10) fun x y => scaleRow (outField v 8) (outField v 10) (fun i => rows.at_ x i) y

/-- Y of R433. -/
def lumaOf (r g b : Nat) : Nat := (77 * r + 150 * g + 29 * b + 128) / 256

/-- An element of a tensor (R434): channel c of a 12-bit value. -/
def tensorElem (v : Bytes) (c x : Nat) : Bytes := match outField v 12 with
  | 0 => [byteOf ((x * 255 + 2047) / 4095)]
  | 1 => [byteOf ((x * 255 + 2047) / 4095 + 128)]
  | _ =>
    let a := fpMul 0 (toFp32 0 (ofInt x)) (fpInvNat 4095)
    le 2 (encodeFmt 1 3 0 false (ofFp32 (fpMul 0 (fpSub 0 a (outField v (14 + c))) (outField v (17 + c))))).1

/-- The tensor of an output. -/
def tensorOf (v : Bytes) (img : Colour) : Bytes :=
  let planes := match outField v 11 with
    | 0 => img.map (cropScale v)
    | 1 => img.reverse.map (cropScale v)
    | _ => [cropScale v (planeOf (((img.headD []).headD []).length) ((img.headD []).length) fun x y => lumaOf ((img.getD 0 []).at_ x y) ((img.getD 1 []).at_ x y) ((img.getD 2 []).at_ x y))]
  if outField v 13 = 0 then planes.zipIdx.flatMap fun e => e.1.flatMap fun r => padLine (r.flatMap (tensorElem v e.2))
  else (List.range (outField v 10)).flatMap fun y => padLine ((List.range (outField v 9)).flatMap fun x => planes.zipIdx.flatMap fun e => tensorElem v e.2 (e.1.at_ x y))

/-! ### Statistics (R438, R439) -/

/-- The 24-byte records of the windows of a frame. -/
def CamFrame.stats (f : CamFrame) : Bytes :=
  let g := fun (i : Nat) => memberAt [2, 2, 3, 3, 3, 3] (f.ctl.getD 7 []) i
  let w := ofBE (f.ctl.getD 12 [])
  let h := f.lines.length
  let c := f.colour
  let Y := fun (x y : Int) => ((lumaOf ((c.getD 0 []).at_ x y) ((c.getD 1 []).at_ x y) ((c.getD 2 []).at_ x y) / 4 : Nat) : Int)
  let real := fun (y : Int) => decide (0 ≤ y) && (f.lines.getD y.toNat { samples := [], real := false }).real
  let W := if g 4 = 0 then w - g 2 else g 4
  let H := if g 5 = 0 then h - g 3 else g 5
  (List.range (g 0 * g 1)).flatMap fun k =>
    let i := k % g 0
    let j := k / g 0
    let x0 := g 2 + i * W / g 0
    let x1 := g 2 + (i + 1) * W / g 0
    let y0 := g 3 + j * H / g 1
    let y1 := g 3 + (j + 1) * H / g 1
    let px := ((List.range (y1 - y0)).flatMap fun dy => (List.range (x1 - x0)).map fun dx => (((x0 + dx : Nat) : Int), ((y0 + dy : Nat) : Int))).filter fun e => real e.2
    let inner := px.filter fun e => decide (1 ≤ e.1) && decide (e.1 + 1 < (w : Int)) && decide (1 ≤ e.2) && decide (e.2 + 1 < (h : Int)) && real (e.2 - 1) && real (e.2 + 1)
    let sob := inner.map fun e =>
      let gx := Y (e.1 + 1) (e.2 - 1) + 2 * Y (e.1 + 1) e.2 + Y (e.1 + 1) (e.2 + 1) - Y (e.1 - 1) (e.2 - 1) - 2 * Y (e.1 - 1) e.2 - Y (e.1 - 1) (e.2 + 1)
      let gy := Y (e.1 - 1) (e.2 + 1) + 2 * Y e.1 (e.2 + 1) + Y (e.1 + 1) (e.2 + 1) - Y (e.1 - 1) (e.2 - 1) - 2 * Y e.1 (e.2 - 1) - Y (e.1 + 1) (e.2 - 1)
      (gx * gx + gy * gy).toNat
    let band := (px.filter fun e => decide (2 ≤ e.1) && decide (e.1 + 2 < (w : Int))).map fun e => (2 * Y e.1 e.2 - Y (e.1 - 2) e.2 - Y (e.1 + 2) e.2).natAbs
    let n := px.length
    let sum := (px.map fun e => (Y e.1 e.2).toNat).sum
    le 8 sob.sum ++ le 8 band.sum ++ le 2 (if n = 0 then 0 else (sum + n / 2) / n) ++ [0, 0] ++ le 4 n

/-! ### Publication (R435 to R437, R440) -/

/-- A TIME96 of a frame record, little-endian (R436). -/
def time96le (ns : Nat) (valid : Bool) : Bytes := le 8 (ns / 1000000000) ++ le 4 (if valid then ns % 1000000000 else 0xFFFFFFFF)

/-- The frame record of output o (R436). -/
def State.frameRecord (s : State) (k o : Nat) (f : CamFrame) (v : Bytes) : Bytes :=
  let x := s.cam k
  let e := inEffect x.effE f.seq
  let g := inEffect x.effG f.seq
  let st := f.ctl.getD 7 []
  let drops := x.drops.filter fun d => decide (d.1 < f.seq)
  le 4 (f.seq % 2 ^ 32) ++ le 2 f.csi ++ le 2 f.flags ++ le 2 e.gen ++ le 2 g.gen ++ le 4 e.value ++ le 4 g.value ++ le 2 f.replaced ++ le 2 f.crcLines ++
  time96le (f.triggerNs.getD 0) (f.valid && f.triggerNs.isSome) ++ time96le f.fsNs f.valid ++ time96le f.feNs f.valid ++
  [byteOf k, byteOf o] ++ (if o = 0 then slice st 0 2 else [0, 0]) ++ le 2 (outField v 9) ++ le 2 (outField v 10) ++ le 2 drops.length ++ le 2 ((drops.map (·.2)).headD 0) ++ List.replicate 184 0

/-- Writes one output of a frame: its tensor, for output 0 the statistics, and the record last. -/
def State.writeOutput (k o i : Nat) (f : CamFrame) (v : Bytes) (s : State) : State :=
  match s.objOf (outField v 1) with
  | none => s
  | some ob =>
    let at_ := outField v 2 + i % (max 1 (outField v 4)) * outField v 3
    let record := s.frameRecord k o f v
    s.modObj ob.owner ob.index fun x =>
      let m := memWrite x.content (at_ + if o = 0 then 20480 else 4096) (tensorOf v f.image)
      let m := if o = 0 then memWrite m (at_ + 256) f.stats else m
      { x with content := memWrite m at_ record }

/-- FRAME_PUBLISH (R437): a closed frame whose lines have all left the pipeline. -/
def execFramePublish (camera : Nat) (s : State) : Host.Outcome State Fault Refusal :=
  settled s (match (s.cam camera).frames.find? fun f => f.closed && !f.dropped && decide (f.lines.length = f.arrived) with
    | none => s
    | some f =>
      if s.mode < 4 ∨ 8 ≤ s.camOwner camera then s
      else
        let p := s.camOwner camera
        let outs := (f.slots.zip ((f.ctl.drop 8).take 4)).zipIdx
        let s := outs.foldl (fun s e => match e.1.1 with
          | some i => s.writeOutput camera e.2 i f e.1.2
          | none => s) s
        let s := outs.foldl (fun s e => match e.1.1, s.outCore camera e.1.2 with
          | some _, some slot => s.addToken p slot (outField e.1.2 20) (outField e.1.2 22 % 8) none
          | _, _ => s) s
        let v0 := f.ctl.getD 8 []
        let s := s.modCam camera fun x =>
          { x with frames := x.frames.filter (fun e => e.seq != f.seq), drops := x.drops.filter (fun d => decide (f.seq < d.1)), lastCode := 0,
                   outIdx := x.outIdx.zipIdx.map fun e => if ((f.slots.getD e.2 none)).isSome then e.1 + 1 else e.1 }
        let s := s.countCam camera 0
        if outField v0 0 = 1 ∧ outField v0 24 = 1 then (s.selfSubmit p (outField v0 20) (f.seq % 2 ^ 32) (outField v0 25)).2 else s)

/-! ### Settings (R441, R442) -/

/-- EXPOSURE_REQ: the request takes the next generation and waits for a slot, replacing what waited. -/
def commitExposureReq : Commit := fun _ t v s =>
  let mask := ofBE (v.take 1)
  s.modCam t.i fun x =>
    let gen := if x.lastGen = 65535 then 1 else x.lastGen + 1
    let e : CamSetting := { gen := gen, value := ofBE (slice v 1 4) }
    let g : CamSetting := { gen := gen, value := ofBE (slice v 5 4) }
    { x with lastGen := gen, waitE := if mask.testBit 0 then some e else x.waitE, waitG := if mask.testBit 1 then some g else x.waitG,
             replacedReqs := x.replacedReqs + b01 (mask.testBit 0 && x.waitE.isSome) + b01 (mask.testBit 1 && x.waitG.isSome) }

/-- EXPOSURE_REQ (R441). -/
def execExposureReq (rq : Request) (s : State) : Host.Outcome State Fault Refusal :=
  settled s (s.ownWrite "EXPOSURE_REQ" (fun _ _ v s => (if ofBE (v.take 1) = 0 ∨ 3 < ofBE (v.take 1) then 0x0E0A else 0, s)) commitExposureReq false rq)

/-- The register writes of a camera's slot, inside its group hold if one is named; a value goes most significant byte first (R441). -/
def State.slotWrites (s : State) (k : Nat) : List (Nat × Bytes) :=
  let m := s.field 0 (0x6001 + 0x20 * k) 2
  let hold := fun (b : Nat) => if m 4 = 0xFFFF then [] else [(m 4, [byteOf b])]
  let value := fun (v : Option CamSetting) (reg n : Nat) => match v with
    | some e => [(reg, be n e.value)]
    | none => []
  hold (m 5) ++ value (s.cam k).slotE (m 0) (m 1) ++ value (s.cam k).slotG (m 2) (m 3) ++ hold (m 6)

/-- CTRL_TRANSFER_DONE (R441, R442): the transfers of a camera's open slot have succeeded or failed. -/
def execCtrlTransferDone (camera : Nat) (ok : Bool) (s : State) : Host.Outcome State Fault Refusal :=
  settled s (
    let x := s.cam camera
    if (x.slotE.isNone ∧ x.slotG.isNone) ∨ s.mode < 4 then s
    else
      let n := x.slotSeq
      let gen := max ((x.slotE.map (·.gen)).getD 0) ((x.slotG.map (·.gen)).getD 0)
      if ok then
        (s.send (.bus (s.field 0 (0x6001 + 0x20 * camera) 1 0) (s.field 0 (0x6001 + 0x20 * camera) 1 1) (s.slotWrites camera))).modCam camera fun x =>
          { x with slotE := none, slotG := none, sentGen := gen,
                   effE := match x.slotE with
                     | some v => ((n + s.cfg (0x6001 + 0x20 * camera) 3, v) :: x.effE).take 32
                     | none => x.effE,
                   effG := match x.slotG with
                     | some v => ((n + s.cfg (0x6001 + 0x20 * camera) 4, v) :: x.effG).take 32
                     | none => x.effG }
      else
        let s := s.modFrame camera n fun f => { f with flags := f.flags ||| 512 }
        let third := (match x.slotE with
          | some v => decide (2 ≤ v.failed)
          | none => false) || (match x.slotG with
          | some v => decide (2 ≤ v.failed)
          | none => false)
        let back := fun (w sl : Option CamSetting) => match w, sl with
          | some a, _ => some a
          | none, some v => if 2 ≤ v.failed then none else some { v with failed := v.failed + 1 }
          | none, none => none
        let s := s.modCam camera fun x => { x with slotE := none, slotG := none, waitE := back x.waitE x.slotE, waitG := back x.waitG x.slotG }
        if third then (s.modCam camera fun x => { x with failedReqs := x.failedReqs + 1, ctrlCode := 0x0808 }).camViolation camera 0x0808 (byteOf camera :: be 2 gen) else s)

/-! ### Power modes (R444) -/

/-- A camera stops: its frame in progress is dropped whole. -/
def State.stopCam (k : Nat) (s : State) : State :=
  let s := (s.cam k).frames.foldl (fun s f => if f.dropped then s else s.dropFrame k f.seq 4) s
  s.modCam k fun x => { x with state := if x.state = 0 then 0 else 1, frames := [], fifo := [], recving := none, slotE := none, slotG := none, rewrite := true }

/-- The cameras but one stop. -/
def State.stopCams (except_ : Nat) (s : State) : State := (List.range 8).foldl (fun s k => if k = except_ then s else s.stopCam k) s

/-- Below ATTEND nothing runs, and waiting requests are lost. -/
def State.camsDown (s : State) : State := (List.range 8).foldl (fun s k => (s.stopCam k).modCam k fun x => { x with waitE := none, waitG := none }) s

/-- An enable or a disable of a camera. -/
def State.enableCam (k : Nat) (on : Bool) (s : State) : State :=
  s.modCam k fun x => if on then (if x.state = 0 then { state := 1, counts := x.counts } else x) else { x with state := 0, frames := [], fifo := [], recving := none }

end Sys2Proof.Machine
end

