-- ==== Sys2Proof/Machine/Network.lean ====
section
/-! DEFINITION. The bridge, AES67, the PCIe endpoint and the management port (R473 to R494, R600). -/

namespace Sys2Proof.Machine

/-! ### Ports and the bridge (R473 to R478) -/

/-- The bytes that the part's fuses hold for an object, which the spec does not print. -/
def fuseBytes (idx sub n : Nat) : Bytes := (List.range n).map (Config.fuseByte (idx * 256 + sub))

/-- The fused base address (R478). -/
def macBase : Nat := ofBE (fuseBytes 0x1800 7 6)

/-- A member of PORT_CFG: ENABLE, SPEED, RS_FEC, LPI, PVID, DEFAULT_PCP. -/
def State.portCfg (s : State) (port k : Nat) : Nat := s.field 0 0x1800 (port + 1) k

/-- Changes a 25G port. -/
def State.modLan (port : Nat) (f : NetPort → NetPort) (s : State) : State := s.modNet fun x => { x with ports := x.ports.modify port f }

/-- Counts in BRIDGE_COUNTS of a port: cut-through, stored and forwarded, dropped for VID, dropped oversize, delivered
internally, discarded by the part. -/
def State.countBridge (port k : Nat) (s : State) : State := s.modNet fun x => { x with counts := bump x.counts (6 * port + k) }

/-- The speed that a port trains at: the one it is set to, or the one that auto is trying (R473). -/
def State.trains (s : State) (port : Nat) : Nat := if s.portCfg port 1 = 0 then (s.net.ports.getD port {}).trying else s.portCfg port 1

/-- PORT_LINK_CHANGE (R473, R474): the partner completes training at the port's speed, or the link drops. -/
def execPortLinkChange (port : Nat) (up : Bool) (speed : Nat) (s : State) : Host.Outcome State Fault Refusal :=
  settled s (if s.mode < 4 ∨ 2 ≤ port then s
    else if !up then s.modLan port fun x => { x with link := false, speed := 0, fec := false }
    else if s.portCfg port 0 = 0 ∨ speed ≠ s.trains port then s
    else s.modLan port fun x => { x with link := true, speed := speed, fec := speed == 1 && s.portCfg port 2 == 1 })

/-- SPEED_AUTO_STEP (R473): 25G, 10G and 1G in turn. -/
def execSpeedAutoStep (port : Nat) (s : State) : Host.Outcome State Fault Refusal :=
  settled s (if s.mode < 4 ∨ s.portCfg port 0 = 0 ∨ s.portCfg port 1 ≠ 0 ∨ (s.net.ports.getD port {}).link then s
    else s.modLan port fun x => { x with trying := x.trying % 3 + 1 })

/-- The entry of VLAN_TABLE for a VID: MEMBER and UNTAG (R476). -/
def State.vlan (s : State) (vid : Nat) : Option (Nat × Nat) :=
  let t := s.obj 0 0x1800 5
  ((List.range (t.length / 4)).find? fun i => ofBE (slice t (4 * i) 2) == vid).map fun i => (ofBE (slice t (4 * i + 2) 1), ofBE (slice t (4 * i + 3) 1))

/-- The egress queue of a PCP (R476). -/
def queueOf (pcp : Nat) : Nat := pcp % 8 / 2

/-- The multicast addresses of PTP at layer 2. -/
def ptpGroups : List Nat := [0x011B19000000, 0x0180C200000E]

/-- A frame goes out of the other external port, if its link is up and it is a member (R475 to R477). -/
def State.forward (f : EtherFrame) (vid pcp : Nat) (e : Nat × Nat) (s : State) : State :=
  let out := 1 - f.port
  let o := s.net.ports.getD out {}
  if !o.link ∨ !e.1.testBit out then s
  else
    let cut := decide ((s.net.ports.getD f.port {}).speed ≤ o.speed)
    (s.countBridge f.port (if cut then 0 else 1)).send (.ether out (queueOf pcp) (if e.2.testBit out then none else some vid) f.bytes)

/-- BRIDGE_FRAME (R475 to R478). The time messages that cross the bridge have commands of their own (R463). -/
def execBridgeFrame (f : EtherFrame) (s : State) : Host.Outcome State Fault Refusal :=
  settled s (
    if s.mode < 4 ∨ 2 ≤ f.port ∨ !(s.net.ports.getD f.port {}).link ∨ f.kind = 6 ∨ f.length < 64 then s
    else if 1522 < f.length then s.countBridge f.port 3
    else
      let vid := match f.tag with
        | some (v, _) => if v = 0 then s.portCfg f.port 4 else v
        | none => s.portCfg f.port 4
      let pcp := match f.tag with
        | some (_, q) => q
        | none => s.portCfg f.port 5
      match s.vlan vid with
      | none => s.countBridge f.port 2
      | some e =>
        let known := s.net.macs.filter fun m => !(m.vid == vid && m.mac == f.src)
        let s := if known.length < 4096 then s.modNet fun x => { x with macs := { vid := vid, mac := f.src, port := f.port, atNs := s.nowNs } :: known } else s
        let own := f.dst == macBase || f.dst == macBase + 1
        let many := (f.dst / 2 ^ 40).testBit 0
        let joined := match f.group with
          | some g => s.net.groups.any fun e => e.1 == f.port && e.2.1 == g
          | none => false
        let inside := e.1.testBit 2 && (own || f.dst == 2 ^ 48 - 1 || ptpGroups.contains f.dst || (many && joined))
        let s := if inside then (if f.kind = 5 then s.countBridge f.port 5 else s.countBridge f.port 4) else s
        if own ∨ f.kind = 1 ∧ s.cfg 0x1610 7 ≠ 0 then s
        else match (if many then none else s.net.macs.find? fun m => m.vid == vid && m.mac == f.dst) with
          | some m => if m.port = f.port then s else s.forward f vid pcp e
          | none => s.forward f vid pcp e)

/-- MAC_AGE_OUT (R475). -/
def execMacAgeOut (vid mac : Nat) (s : State) : Host.Outcome State Fault Refusal :=
  settled s (s.modNet fun x => { x with macs := x.macs.filter fun m => !(m.vid == vid && m.mac == mac) })

/-- The part's IPv6 link-local address, from its base address (PRESUMED: the modified EUI-64 form, assumption 22). -/
def linkLocal : Nat := 0xFE80 * 2 ^ 112 + (((macBase / 2 ^ 24) ^^^ 0x020000) * 2 ^ 40 + 0xFFFE * 2 ^ 24 + macBase % 2 ^ 24)

/-- Whether an IP address is the part's own on a port, 2 being the management port (R478, R493). -/
def State.ownAddress (s : State) (port target : Nat) (v6 : Bool) : Bool :=
  let v := if port = 2 then s.obj 0 0x1900 2 else s.obj 0 0x1800 6
  if v6 then target == ofBE (slice v 9 16) || (port != 2 && target == linkLocal) else target == ofBE (v.take 4)

/-- ARP_NDP_ICMP (R478, R493): the address of the port, or the echo. -/
def execArpNdpIcmp (port target : Nat) (v6 echo : Bool) (payload : Bytes) (s : State) : Host.Outcome State Fault Refusal :=
  settled s (if s.mode < 4 ∨ 2 < port ∨ !s.ownAddress port target v6 then s
    else s.send (.ether port 0 none (if echo then payload else be 6 (macBase + port))))

/-! ### AES67 streams (R479 to R485) -/

/-- A member of RX_STREAM: ENABLE, PORT, DEST_ADDR, SOURCE_ADDR, UDP_PORT, PAYLOAD_TYPE, ENCODING, RATE, CHANNELS, CH_IN_STREAM,
PTIME_US, PLAYOUT_DELAY_US, MEDIA_OFFSET, VLAN. -/
def State.rxCfg (s : State) (ch m : Nat) : Nat := s.field 0 (0x5000 + ch) 2 m
/-- A member of TX_STREAM: as RX_STREAM, then PCP and TX_LEAD_US. -/
def State.txCfg (s : State) (ch m : Nat) : Nat := s.field 0 (0x5400 + ch) 2 m
/-- Changes a receive channel. -/
def State.modRx (ch : Nat) (f : RxChannel → RxChannel) (s : State) : State := s.modNet fun x => { x with rx := kvSet x.rx ch (some (f ((kvGet x.rx ch).getD {}))) }
/-- Changes a transmit channel. -/
def State.modTx (ch : Nat) (f : TxChannel → TxChannel) (s : State) : State := s.modNet fun x => { x with tx := kvSet x.tx ch (some (f ((kvGet x.tx ch).getD {}))) }

/-- The samples of one channel in a packet of a packet time at 48 kHz (R479). -/
def packetSamples : Nat → Nat
  | 125 => 6 | 250 => 12 | 333 => 16 | 1000 => 48 | 4000 => 192 | _ => 0

/-- The time of index m of a stream, in 2⁻³² ns: m × 62,500/3 ns, half of that at 96 kHz (R480). -/
def sampleTicks (fast : Bool) (m : Nat) : Nat := m * 62500 * 2 ^ 32 / (if fast then 6 else 3)

/-- The index congruent to `x` modulo 2³² nearest to the present (R480). -/
def State.nearestIndex (s : State) (fast : Bool) (x : Nat) : Nat :=
  let now : Int := (s.time.ns112 * (if fast then 6 else 3) / (62500 * 2 ^ 32) : Nat)
  ((x : Int) + (now - (x : Int) + 2 ^ 31) / 2 ^ 32 * 2 ^ 32).toNat

/-- The owner's scope of a receive channel. -/
def State.rxScope (s : State) (ch : Nat) : Nat := let p := s.cfg (0x5000 + ch) 1; if p < 8 then p else 0xFF

/-- The enabled receive channels that a packet is for (R479). -/
def State.rxFor (s : State) (k : RtpPacket) : List Nat :=
  (List.range 1024).filter fun ch => s.rxCfg ch 0 == 1 && s.rxCfg ch 1 == k.port && s.rxCfg ch 2 == k.dest && s.rxCfg ch 4 == k.udpPort &&
    (s.rxCfg ch 3 == 0 || s.rxCfg ch 3 == k.source)

/-- Counts of a receive channel: PACKETS, LATE, CONCEALED, DUPLICATES, MALFORMED, SSRC_CHANGES. -/
def State.countRx (ch i : Nat) (s : State) : State := s.modRx ch fun x => { x with counts := bump x.counts i }

/-- A packet reaches one channel of its stream (R480 to R482). -/
def State.rtpChannel (k : RtpPacket) (ch : Nat) (s : State) : State :=
  let s := s.countRx ch 0
  let fast := s.rxCfg ch 7 == 1
  let n := packetSamples (s.rxCfg ch 10) * (if fast then 2 else 1)
  let w := if s.rxCfg ch 6 = 1 then 3 else 2
  if k.version ≠ 2 ∨ k.payloadType ≠ s.rxCfg ch 5 ∨ k.payload.length ≠ n * s.rxCfg ch 8 * w then
    (s.countRx ch 4).logViolation 0x0902 (s.rxScope ch) 0x60 (be 2 ch ++ be 2 k.seq)
  else
    let x := s.rxChan ch
    let changed := x.ssrc.isSome && x.ssrc != some k.ssrc
    let s := if changed then s.countRx ch 5 else s
    let s := s.modRx ch fun x => { x with ssrc := some k.ssrc, seqs := if changed then [] else x.seqs }
    if (s.rxChan ch).seqs.contains k.seq then s.countRx ch 3
    else
      let s := s.modRx ch fun x => { x with seqs := (k.seq :: x.seqs).take 4096 }
      let m := s.nearestIndex fast ((k.timestamp + 2 ^ 32 - s.rxCfg ch 12 % 2 ^ 32) % 2 ^ 32)
      let released : Bool := match x.next with
        | some q => decide (m < q)
        | none => false
      if released ∨ sampleTicks fast m + s.rxCfg ch 11 * 1000 * 2 ^ 32 < s.time.ns112 then s.countRx ch 1
      else
        let code := fun (i : Nat) =>
          let v := ofBE (slice k.payload ((i * s.rxCfg ch 8 + s.rxCfg ch 9) * w) w)
          if w = 3 then v else v * 256
        let new := (List.range n).map fun i => (m + i, code i)
        s.modRx ch fun x => { x with got := (x.got.filter fun e => !(decide (m ≤ e.1) && decide (e.1 < m + n))) ++ new, concealing := false }

/-- AES67_PACKET (R480 to R482). -/
def execAes67Packet (k : RtpPacket) (s : State) : Host.Outcome State Fault Refusal :=
  settled s (if s.mode < 4 ∨ !(s.net.ports.getD k.port {}).link then s
    else let s := s.reach k.ticks
      (s.rxFor k).foldl (fun s ch => s.rtpChannel k ch) s)

/-- A released sample passes to the channel's stream at 48 kHz, through the half-band filter where it is at 96 kHz (R392). -/
def RxChannel.release (fast : Bool) (m code : Nat) (x : RxChannel) : RxChannel :=
  let v := toFp32 0 ((ofInt (signed 24 code)).scale (-23))
  if !fast then
    let t : Track := if x.next.isNone then { next := m } else x.released
    { x with released := t.push 8192 v, next := some (m + 1) }
  else
    let raw : Track := if x.next.isNone then { next := m } else x.raw
    let out : Track := if x.next.isNone then { next := (m - 14) / 2 } else x.released
    let raw := raw.push 64 v
    let y := (List.range 31).foldl (fun a k => fpFma 0 (Config.firTap 3 k % 2 ^ 32) (raw.read ((m : Int) - 30 + (k : Nat))) a) 0
    { x with raw := raw, released := if m % 2 = 1 then out.push 8192 y else out, next := some (m + 1) }

/-- AES67_SAMPLE_RELEASE (R481): the next index of a channel reaches its playout time. -/
def execAes67SampleRelease (channel index : Nat) (s : State) : Host.Outcome State Fault Refusal :=
  settled s (
    let x := s.rxChan channel
    let due := match x.next with
      | some q => index == q
      | none => true
    if s.mode < 4 ∨ 1024 ≤ channel ∨ s.rxCfg channel 0 = 0 ∨ !due then s
    else
      let fast := s.rxCfg channel 7 == 1
      let s := s.reach (sampleTicks fast index + s.rxCfg channel 11 * 1000 * 2 ^ 32)
      match x.got.find? fun e => e.1 == index with
      | some e => s.modRx channel fun x => { x.release fast index e.2 with got := x.got.filter fun e => decide (index < e.1) }
      | none =>
        ((s.countRx channel 2).modRx channel fun x => { x.release fast index 0 with got := x.got.filter fun e => decide (index < e.1), concealing := true }
          ).logViolation 0x0901 (s.rxScope channel) 0x60 (be 2 channel ++ be 8 index))

/-! ### Transmission (R485) -/

/-- Whether two transmit channels are of one stream (R479, R485). -/
def State.sameTx (s : State) (a b : Nat) : Bool := [1, 2, 4].all fun m => s.txCfg a m == s.txCfg b m

/-- The PCM24 code of sample i of a playback block in a FORMAT of R406. -/
def pcm24At (format : Nat) (b : Bytes) (i : Nat) : Nat :=
  let v := match format with
    | 0 => (ofInt (signed 16 (ofLE (slice b (2 * i) 2)))).scale (-15)
    | 1 => decodeFmt 17 (ofLE (slice b (4 * i) 4))
    | 2 => decodeFmt 3 (ofLE (slice b (2 * i) 2))
    | _ => ofFp32 (ofLE (slice b (4 * i) 4))
  (encodeFmt 1 17 0 true v).1 % 2 ^ 24

/-- The samples of a transmit channel for a packet, block by block: a block not filled is zeros, and is skipped and counted. -/
def State.txSamples (ch n : Nat) : Nat → State → List Nat × State
  | 0, s => (List.replicate n 0, s)
  | fuel + 1, s =>
    let x := (kvGet s.net.tx ch).getD {}
    if n ≤ x.rest.length then (x.rest.take n, s.modTx ch fun x => { x with rest := x.rest.drop n })
    else
      let p := s.cfg (0x5400 + ch) 1
      let k := s.field 0 (0x5400 + ch) 3 0 % 16
      let size := s.playCfg p k 2
      if size = 0 then (List.replicate n 0, s.modTx ch fun x => { x with counts := bump x.counts 1 })
      else match s.ringBlock p k x.block with
        | some (b, s) =>
          let new := (List.range size).map fun i => pcm24At (s.playCfg p k 4) b i
          State.txSamples ch n fuel (s.modTx ch fun x => { x with rest := x.rest ++ new, block := x.block + 1 })
        | none =>
          State.txSamples ch n fuel (s.modTx ch fun x => { x with rest := x.rest ++ List.replicate size 0, block := x.block + 1, counts := bump x.counts 1 })

/-- AES67_TX_PACKET (R485): the packet of a channel's stream that falls due, with every channel of the stream that has begun. -/
def execAes67TxPacket (channel : Nat) (s : State) : Host.Outcome State Fault Refusal :=
  settled s (match (kvGet s.net.tx channel).bind (·.m0) with
    | none => s
    | some m0 =>
      if s.mode < 4 ∨ s.txCfg channel 0 = 0 then s
      else
        let n := packetSamples (s.txCfg channel 10)
        let head := (kvGet s.net.tx channel).getD {}
        let m := m0 + head.sent
        let s := s.reach (sampleTicks false (m + n))
        let w := if s.txCfg channel 6 = 1 then 3 else 2
        let count := s.txCfg channel 8
        let mine := (List.range 64).filter fun ch => s.txCfg ch 0 == 1 && s.sameTx channel ch && (match kvGet s.net.tx ch with
          | some x => x.m0.map (· + x.sent) == some m
          | none => false)
        let r := mine.foldl (fun (a : List (Nat × List Nat) × State) ch =>
          let t := a.2.txSamples ch n (n + 1)
          (a.1 ++ [(a.2.txCfg ch 9, t.1)], t.2.modTx ch fun x => { x with sent := x.sent + n, rtpSeq := (x.rtpSeq + 1) % 65536, counts := bump x.counts 0 })) ([], s)
        let f := r.2.free
        let sample := fun (c i : Nat) => match r.1.find? (fun e => e.1 == c) with
          | some e => e.2.getD i 0
          | none => 0
        let body := (List.range n).flatMap fun i => (List.range count).flatMap fun c => be w (if w = 3 then sample c i else sample c i / 256)
        f.2.send (.ether (f.2.txCfg channel 1) (queueOf (f.2.txCfg channel 14)) (some (f.2.txCfg channel 13))
          ([0x80, byteOf (f.2.txCfg channel 5)] ++ be 2 head.rtpSeq ++ be 4 ((m + f.2.txCfg channel 12) % 2 ^ 32) ++ be 4 (f.1 % 2 ^ 32) ++ body)))

/-- Whether a destination is multicast: IPv6 FF00::/8, or an IPv4 group in the low 32 bits. -/
def isGroup (dest : Nat) : Bool := dest / 2 ^ 120 == 0xFF || (dest % 2 ^ 32 / 2 ^ 28 == 0xE && (dest / 2 ^ 32 == 0 || dest / 2 ^ 32 == 0xFFFF))

/-- The memberships that the enabled receive streams need: port, group, source (R483). -/
def State.memberships (s : State) : List (Nat × Nat × Nat) :=
  (((List.range 1024).filter fun ch => s.rxCfg ch 0 == 1 && isGroup (s.rxCfg ch 2)).map fun ch => (s.rxCfg ch 1, s.rxCfg ch 2, s.rxCfg ch 3)).eraseDups

/-- The part joins and leaves groups as its streams change (R483). -/
def State.joinGroups (s : State) : State := s.modNet fun x => { x with groups := s.memberships }

/-- IGMP_MLD_QUERY (R483): a general query (0), or one of a group, is answered for the part's own streams. -/
def execIgmpMldQuery (port group : Nat) (s : State) : Host.Outcome State Fault Refusal :=
  settled s (if s.mode < 4 then s
    else ((s.net.groups.filter fun e => e.1 == port && (group == 0 || e.2.1 == group)).foldl (fun s e => s.send (.ether port 0 none (be 16 e.2.1 ++ be 16 e.2.2))) s))

/-! ### PCIe (R486 to R492, R540, R600) -/

/-- The scope of a function: its partition's, or the device's. -/
def fnScope (fn : Nat) : Nat := if fn = 0 then 0xFF else fn - 1

/-- The SOURCE of a function (R80). -/
def fnSource (fn : Nat) : Nat := sourceCode (.pcie fn)

/-- Logs a refused aperture access or doorbell (R489, R540). -/
def State.apertureRefused (fn k offset : Nat) (s : State) : State := s.logViolation 0x0904 (fnScope fn) (fnSource fn) ([byteOf fn, byteOf k] ++ be 8 offset)

/-- PCIE_DOORBELL (R77, R488, R540). -/
def execPcieDoorbell (p c value : Nat) (s : State) : Host.Outcome State Fault Refusal :=
  settled s (if s.mode < 4 ∨ 8 ≤ p ∨ 16 ≤ c then s
    else if s.area p 0x50 1 = 1 then s.apertureRefused (p + 1) 0xFF (0x4000 + 4 * c)
    else
      let code := s.hostDoorbellCode p c value
      if code ≠ 0 then s.logViolation code p (0x10 + p) [] else s.ringDoorbell p c value)

/-- HANDLE and OFFSET of an aperture. -/
def State.aperture (s : State) (fn k : Nat) : Nat × Nat := match s.net.apertures.find? fun e => e.1 == fn * 4 + k with
  | some e => e.2
  | none => (0, 0)

/-- APERTURE_SELECT (R487, R489): OFFSET is a multiple of 64 KiB. -/
def execApertureSelect (fn k : Nat) (offset : Bool) (value : Nat) (s : State) : Host.Outcome State Fault Refusal :=
  settled s (if s.mode < 4 ∨ 8 < fn ∨ 4 ≤ k then s
    else
      let a := s.aperture fn k
      let v := value % 2 ^ 64
      s.modNet fun x => { x with apertures := (fn * 4 + k, if offset then (a.1, v / 65536 * 65536) else (v, a.2)) :: x.apertures.filter fun e => e.1 != fn * 4 + k })

/-- The object that an aperture shows a partition: one it owns or holds, neither damaged nor retained. -/
def State.apertureObj (s : State) (p handle : Nat) : Option Obj := match s.objOf handle with
  | some o => if (o.owner = p ∨ (o.claim? p).isSome) ∧ o.state ≤ 3 ∧ s.hasKey o.owner then some o else none
  | none => none

/-- APERTURE_ACCESS (R489): a read of `n` bytes, or a write, at an address of aperture k of virtual function p + 1. -/
def execApertureAccess (fn k addr n : Nat) (data : Option Bytes) (s : State) : Host.Outcome State Fault Refusal :=
  settled s (if s.mode < 4 ∨ fn = 0 ∨ 8 < fn ∨ 4 ≤ k ∨ 67108864 ≤ addr then s
    else
      let a := s.aperture fn k
      let at_ := a.2 + addr
      let refuse := fun (s : State) =>
        let s := s.apertureRefused fn k at_
        if data.isNone then s.send (.pcieRead fn (List.replicate n 255)) else s
      if s.area (fn - 1) 0x50 1 = 1 then refuse s
      else match s.apertureObj (fn - 1) a.1, data with
        | none, _ => refuse s
        | some o, none => if o.size < at_ + n then refuse s else s.send (.pcieRead fn (memRead o.content at_ n))
        | some o, some b =>
          if o.kind = 1 ∨ o.size < at_ + b.length then refuse s
          else match s.ptProtected o at_ b.length with
            | some copy => s.rejectPt o at_ copy
            | none => s.modObj o.owner o.index fun x => { x with content := memWrite x.content at_ b })

/-- A function's BAR0 registers are cleared, its pending request aborts, without an answer, and its notification ring is disabled (R491). -/
def State.clearFn (fn : Nat) (s : State) : State :=
  (s.modSvc fun x => { x with
    windows := x.windows.set fn {},
    queued := x.queued.filter fun e => e.1.source != .pcie fn,
    heldReqs := x.heldReqs.filter fun e => e.1.source != .pcie fn,
    saving := x.saving.filter fun e => e.request.source != .pcie fn }).modNet fun x => { x with apertures := x.apertures.filter fun e => e.1 / 4 != fn }

/-- Clearing VF Enable (R491). -/
def State.clearVfs (s : State) : State := ((List.range 8).foldl (fun s p => s.clearFn (p + 1)) s).modNet fun x => { x with vfs := 0 }

/-- PCIE_FLR (R491): of a function, or, with none, VF Enable is cleared. -/
def execPcieFlr (fn : Option Nat) (s : State) : Host.Outcome State Fault Refusal :=
  settled s (match fn with
    | none => s.clearVfs
    | some 0 => (s.clearFn 0).clearVfs.modNet fun x => { x with busMaster := false }
    | some n => s.clearFn n)

/-- PCIE_ERROR (R491): an error that AER reports; the data of a poisoned write is discarded. -/
def execPcieError (fn status : Nat) (correctable : Bool) (s : State) : Host.Outcome State Fault Refusal :=
  settled s (((s.modNet fun x => { x with aer := bump x.aer (if correctable then 0 else 1) }).logViolation 0x0903 (fnScope fn) (fnSource fn) ([byteOf fn] ++ be 4 status)
    ).send (.pcieError fn))

/-- PERST_N (R600, R486, R492): the endpoint alone is reset, and its link as it trains afterwards, where it does. -/
def execPerstN (up : Bool) (gts width vfs : Nat) (busMaster : Bool) (s : State) : Host.Outcome State Fault Refusal :=
  settled s (
    let s := (s.clearFn 0).clearVfs
    let live := up && decide (4 ≤ s.mode)
    s.modNet fun x => { x with pcieUp := live, busMaster := live && busMaster, gts := if live then gts else 0, width := if live then width else 0, aer := [0, 0], vfs := if live then min vfs 8 else 0 })

/-! ### The management port (R493, R541) -/

/-- The entries of a domain whose entries are each preceded by a U32 length. -/
def lengthPrefixed : Nat → Bytes → List Bytes
  | 0, _ => []
  | n + 1, b => if b.length < 4 then [] else (b.drop 4).take (ofBE (b.take 4)) :: lengthPrefixed n (b.drop (4 + ofBE (b.take 4)))

/-- MGMT_TLS_HANDSHAKE (R493, R541): whether a certificate is presented, and the anchor of MGMT_TRUST that it chains to. -/
def execMgmtTlsHandshake (conn : Nat) (cert : Bool) (anchor : Option Nat) (s : State) : Host.Outcome State Fault Refusal :=
  settled s (
    let anchors := (lengthPrefixed 4 (s.obj 0 0x1B10 1)).length
    let trusted := match anchor with
      | some a => decide (a < anchors)
      | none => false
    let refuse := fun (why : Nat) => { s with sec := { s.sec with counts := bump s.sec.counts 5 } }.logError 0x0C06 0xFF 0x20 [byteOf why]
    if (s.mode < 4 ∨ !s.serving) ∧ !s.ras.recovery then s
    else if anchors = 0 then refuse 3
    else if !cert then refuse 1
    else if !trusted then refuse 2
    else if s.svc.tls.contains conn ∨ 4 ≤ s.svc.tls.length then s
    else s.modSvc fun x => { x with tls := x.tls ++ [conn] })

end Sys2Proof.Machine
end

