-- ==== Sys2Proof/Machine/Time.lean ====
section
/-! DEFINITION. Meridian (15_meridian_time.md): the servo, the time states, time recoveries, the arming of
trigger units and the time messages. -/

namespace Sys2Proof.Machine

/-! ### Rates (R447 to R449, R459) -/

/-- The nominal INCREMENT: 625/256 ns (R448). -/
def nominalIncrement : Nat := 0x271000000

/-- 100 ppm. -/
def ppm100 : Rat := 1 / 10000

/-- A rational held between two bounds. -/
def clampRat (lo hi q : Rat) : Rat := if q < lo then lo else if hi < q then hi else q

/-- INCREMENT for a relative rate c (R459). -/
def incrementOf (c : Rat) : Nat := (roundEven ((nominalIncrement : Rat) * (1 + c))).toNat

/-- SECNS's 48-bit increment on the clock it counts, with F and, for the sleep clock, the calibration (R449). -/
def secIncrementOf (sleep : Bool) (f : Rat) (ppb : Int) : Nat :=
  if sleep then (roundEven ((0x773594000000 : Rat) * (1 + f) * (1 + (ppb : Rat) / 1000000000))).toNat
  else (roundEven ((0x0028B0AAAAAB : Rat) * (1 + f))).toNat

/-- Units of 2⁻³² ns as nanoseconds. -/
def nsOf (ticks : Int) : Rat := (ticks : Rat) / (2 ^ 32 : Nat)

/-- One TIMECLK tick, or one tick of SECNS's clock where SECNS is in force (R447, R449). -/
def State.tick (s : State) : State :=
  { s with time :=
    if s.time.nsInForce then { s.time with ns112 := (s.time.ns112 + s.time.increment) % 2 ^ 112 }
    else { s.time with secns := s.time.secns + s.time.secInc } }

/-- Changes the time unit. -/
def State.modTime (f : Meridian → Meridian) (s : State) : State := { s with time := f s.time }

/-! ### Trigger units (R466 to R469) -/

/-- The number a member of a trigger unit's configuration holds: TRIG_CFG of a partition's unit, or
TRIG_CFG_OPERATOR of an operator's. -/
def State.trig (s : State) (t k : Nat) : Nat :=
  s.field 0 (0x1700 + t) (if s.cfg (0x1700 + t) 1 = 0xFF then 3 else 2) k

/-- START of a unit, in units of 2⁻³² ns. -/
def State.trigStart (s : State) (t : Nat) : Nat :=
  (s.trig t 1 * 1000000000 + s.trig t 2) * 2 ^ 32 + s.trig t 3

/-- PERIOD of a unit, in units of 2⁻³² ns. -/
def State.trigPeriod (s : State) (t : Nat) : Nat := s.trig t 4 * 2 ^ 32 + s.trig t 5

/-- The smallest k for which start + k × period is at least `least`; 0 for a single-shot unit. -/
def firstK (start period least : Nat) : Nat :=
  if least ≤ start ∨ period = 0 then 0 else (least - start + period - 1) / period

/-- How many targets start + k × period lie after `lo` and before `hi`. -/
def targetsBetween (start period lo hi : Nat) : Nat :=
  if period = 0 then (if lo < start ∧ start < hi then 1 else 0)
  else
    let upto := fun (x : Nat) => if x < start then 0 else (x - start) / period + 1
    if hi = 0 then 0 else upto (hi - 1) - upto lo

/-- Arms a unit (R469). `enabling` says that its ENABLE has just become TRUE. -/
def State.armTrigger (enabling : Bool) (t : Nat) (s : State) : State :=
  let set := fun (f : Trigger → Trigger) => { s with time := { s.time with triggers := s.time.triggers.modify t f } }
  if s.trig t 0 = 0 then set fun u => { u with state := 0 }
  else if s.trig t 6 = 1 ∧ !s.timeValid then set fun u => { u with state := 2, enabledAt := if enabling then s.time.ns112 else u.enabledAt }
  else
    let start := s.trigStart t
    let period := s.trigPeriod t
    let least := s.time.ns112 + 1000 * 2 ^ 32
    let target := start + firstK start period least * period
    set fun u =>
      let since := if enabling then s.time.ns112 else u.enabledAt
      let u := if enabling then { u with firings := 0, skipped := 0, overruns := 0, lastFired := none, enabledAt := since } else u
      let from_ := max since (u.lastFired.getD 0)
      if u.state = 3 ∧ !enabling ∧ period = 0 then u
      else
        let u := { u with skipped := u.skipped + (if enabling then 0 else targetsBetween start period from_ (if target < least then least else target)) }
        if target < least then { u with state := 4, target := target } else { u with state := 1, target := target }

/-- Arms every unit (R469). -/
def State.armAll (s : State) : State := (List.range 16).foldl (fun s t => s.armTrigger false t) s

/-! ### Time recovery (R461, R462) -/

/-- A submission at a step of d ns: its deadline moves, and its release moves for what is measured from it. -/
def Submission.stepped (d : Int) (q : Submission) : Submission :=
  { q with deadline := q.deadline.map fun n => ((n : Int) + d).toNat, moved := if q.released.isSome then q.moved + d else q.moved }

/-- The first chunk whose release lies at or after a time, for a feature latency; the chunk grid continues from it. -/
def chunkFrom (period latency now : Nat) : Nat :=
  if period = 0 ∨ now ≤ period + latency then 0 else (now - latency + period - 1) / period - 1

/-- A context of a partition at a step of d ns: its submissions and its chunks keep their place. -/
def State.steppedCtx (s : State) (p : Nat) (d : Int) (c : Nat) (x : Context) : Context :=
  let f := fun (n : Nat) => ((n : Int) + d).toNat
  { x with
    queue := x.queue.map (Submission.stepped d),
    flight := x.flight.map fun g => { g with sub := g.sub.stepped d },
    lastAcceptNs := x.lastAcceptNs.map f,
    lastRelease := f x.lastRelease,
    chunkIndex := match x.latency with
      | some latency => chunkFrom (s.field p 0x2420 (c + 1) 0 * 10000000) latency (s.time.ns112 / 2 ^ 32)
      | none => 0 }

/-- A stroke that waits: with BASE 1 or 2 it keeps its remaining interval; with BASE 0 its deadline is compared with the new time. -/
def Running.stepped (d : Int) (now : Nat) (r : Running) : Running :=
  match r.untilNs with
  | none => r
  | some n =>
    if bits r.word0 9 8 ≠ 0 then { r with untilNs := some ((n : Int) + d).toNat }
    else if n ≤ now then { r with marks := r.marks ||| 2 }
    else r

/-- Work in flight keeps its place in real time: deadlines, chunks and waits move with the step, and so do the moments from which the part
measures a span (assumption 24). -/
def State.shiftWork (step : Int) (s : State) : State :=
  let d := step / 2 ^ 32
  let f := fun (n : Nat) => ((n : Int) + d).toNat
  let keyed := fun (l : List (Nat × Nat)) => l.map fun e => (e.1, f e.2)
  { s with
    svc := { s.svc with
      sessions := s.svc.sessions.map fun (e : Session) => { e with lastFrameNs := f e.lastFrameNs },
      saving := s.svc.saving.map fun (e : Saving) =>
        { e with beginNs := if s.nowNs < f e.beginNs then programStart s.nowNs else f e.beginNs } },
    parts := s.parts.mapIdx fun p (x : Partition) =>
      { x with ctxs := x.ctxs.mapIdx fun c y => s.steppedCtx p d c y, running := x.running.map (Running.stepped d (s.time.ns112 / 2 ^ 32)) },
    slots := s.slots.map fun (x : Slot) => { x with errors := keyed x.errors },
    time := { s.time with
      keptPtp := s.time.keptPtp.map fun (k : PtpKept) => { k with stamp := ((k.stamp : Int) + step).toNat },
      syncDelta := s.time.syncDelta.map (· + nsOf step),
      captures := s.time.captures.map fun (x : Capture) => { x with lastAt := x.lastAt.map fun n => ((n : Int) + step).toNat } },
    net := { s.net with macs := s.net.macs.map fun (e : MacEntry) => { e with atNs := f e.atNs } },
    tiers := { s.tiers with
      windowAtNs := f s.tiers.windowAtNs, erasing := s.tiers.erasing.map fun e => (e.1, e.2.1, f e.2.2),
      groups := s.tiers.groups.map fun (g : DramGroup) =>
        { g with patrol := g.patrol.map (fun e => (f e.1, e.2)), laneErrors := keyed g.laneErrors, rowErrors := keyed g.rowErrors } },
    power := { s.power with emergencyAtNs := f s.power.emergencyAtNs },
    ras := { s.ras with startNs := s.ras.startNs + d } }

/-- RATE_PPB (R459). -/
def State.ratePpb (s : State) : Int := roundEven (clampRat (-ppm100) ppm100 (s.time.freq + s.time.phase) * 1000000000)

/-- OFFSET_NS (R458), in the range of an I64. -/
def State.offsetNs (s : State) : Int := clampInt (-(2 ^ 63)) (2 ^ 63 - 1) (roundEven s.time.offset)

/-- A TIME record of the device's trace (R579): at each offset, and at each change of TIME_STATE (assumption 25). -/
def State.traceTime (s : State) : State :=
  s.capture 8 0x23 ([byteOf s.time.state, 0, 0, 0] ++ le 4 (unsigned 32 s.ratePpb) ++ le 8 (unsigned 64 s.offsetNs))

/-- A time recovery: SECNS is loaded and stepped, NS112 is loaded from it, and units re-arm (R462). Offsets measured before the step
take no part in a slope after it (DEDUCED, assumption 59). -/
def State.recover (step : Int) (case_ : Nat) (newState : Nat) (s : State) : State :=
  let moved := (((s.time.ns112 : Nat) : Int) + step).toNat % 2 ^ 112
  let ns := roundEven (nsOf step)
  let clamped := clampInt (-(2 ^ 63)) (2 ^ 63 - 1) ns
  let t := s.time
  let s := { s with time := { t with
    ns112 := moved, secns := moved, increment := incrementOf t.freq, phase := 0,
    generation := t.generation + 1, state := newState, counts := bump t.counts 11, thetas := [], insideRun := 0, beyond := 0,
    largeLogged := false } }
  let s := s.logError 0x0A02 0xFF 0xFF (be 8 (unsigned 64 clamped) ++ [byteOf case_, byteOf (b01 (clamped != ns))])
  (s.shiftWork step).armAll

/-! ### Following a master (R458 to R460) -/

/-- The least-squares slope of offsets over local time, newest first; none where it is not determined. -/
def slope (l : List (Rat × Nat)) : Option Rat :=
  let t0 : Nat := (l.head?.map (·.2)).getD 0
  let pts := l.map fun e => (e.1, nsOf ((e.2 : Int) - (t0 : Int)))
  let n : Rat := (l.length : Rat)
  let st := pts.foldl (fun a e => a + e.2) 0
  let sq := pts.foldl (fun a e => a + e.1) 0
  let stt := pts.foldl (fun a e => a + e.2 * e.2) 0
  let stq := pts.foldl (fun a e => a + e.2 * e.1) 0
  let d := n * stt - st * st
  if d = 0 then none else some ((n * stq - st * sq) / d)

/-- The servo at an offset (R459): F, P and INCREMENT. -/
def State.servo (theta : Rat) (s : State) : State :=
  let t := s.time
  let win := t.thetas.take (min t.thetas.length (s.cfg 0x1610 0x0B))
  let f := match (if t.thetas.length ≥ 2 then slope win else none) with
    | some m => clampRat (-ppm100) ppm100 (t.freq + (-m - t.freq) / 4)
    | none => t.freq
  let p := clampRat (-ppm100) ppm100 (-theta / ((s.cfg 0x1610 0x0A : Rat) * 1000000))
  let c := clampRat (-ppm100) ppm100 (f + p)
  { s with time := { t with freq := f, phase := p, increment := incrementOf c } }

/-- Enters LOCKED, logging TIME_LOCKED with the grandmaster's identity (R460). -/
def State.enterLocked (s : State) : State :=
  let gm := (s.time.parent.map fun m => m.data.grandmaster).getD 0
  { s with time := { s.time with state := 3 } }.logError 0x0A04 0xFF 0xFF (be 8 gm)

/-- The state that follows an offset (R453, R460), with the log of R461's last paragraph. -/
def State.followOffset (theta : Rat) (s : State) : State :=
  let inside := decide (-(s.cfg 0x1610 8 : Rat) ≤ theta) && decide (theta ≤ (s.cfg 0x1610 8 : Rat))
  let large := decide (theta < -(s.cfg 0x1610 9 : Rat)) || decide ((s.cfg 0x1610 9 : Rat) < theta)
  let w := if inside then s.time.insideRun + 1 else 0
  let s := { s with time := { s.time with insideRun := w, beyond := if large then s.time.beyond + 1 else 0 } }
  let s :=
    if inside ∧ w ≥ 16 then (if s.time.state = 3 then s else s.enterLocked)
    else if inside ∧ s.time.state = 3 then s
    else if s.time.state = 2 then s
    else { s with time := { s.time with state := 2, largeLogged := false } }
  if large ∧ s.time.state = 2 ∧ !s.time.largeLogged then
    { s with time := { s.time with largeLogged := true } }.logError 0x0A05 0xFF 0xFF (be 8 (unsigned 64 (roundEven theta)))
  else s

/-- An offset θ in ns, measured at a local time (R458 to R461). -/
def State.onOffset (theta : Rat) (at_ : Nat) (s : State) : State :=
  let large := decide (theta < -(s.cfg 0x1610 9 : Rat)) || decide ((s.cfg 0x1610 9 : Rat) < theta)
  let before := s.time.state
  let first := s.time.firstOffset
  let s := { s with time := { s.time with offset := theta, thetas := ((theta, at_) :: s.time.thetas).take 64, firstOffset := false } }
  let step : Int := roundEven (-theta * (2 ^ 32 : Nat))
  State.traceTime (if before = 0 then s.recover step 1 2
    else if first ∧ large then s.recover step 3 2
    else
      let s := if before = 1 then s else s.servo theta
      let s := s.followOffset theta
      if s.cfg 0x1610 0x0C = 1 ∧ s.time.state = 2 ∧ s.time.beyond ≥ 4 then s.recover step 4 2 else s)

/-- Enters HOLDOVER (R460): INCREMENT is nominal × (1 + F), P is dropped. -/
def State.holdover (why : Nat) (s : State) : State :=
  if s.time.state = 2 ∨ s.time.state = 3 then
    { s with time := { s.time with
      state := 4, phase := 0, increment := incrementOf s.time.freq, insideRun := 0, beyond := 0,
      counts := bump s.time.counts 10 } }.logError 0x0A03 0xFF 0xFF [byteOf why] |>.traceTime
  else s

/-! ### Time messages -/

/-- Counts in PTP_COUNTS (0x1630.02). -/
def State.countPtp (i : Nat) (s : State) : State := { s with time := { s.time with counts := bump s.time.counts i } }

/-- A message that fails R457 is discarded, counted and logged. -/
def State.malformedTime (m : PtpMsg) (s : State) : State :=
  (s.countPtp 5).logViolation 0x0A01 0xFF (m.port + 1) ([byteOf m.typ] ++ be 2 m.sequenceId)

/-- The tests of R457 that need no earlier message. -/
def PtpMsg_wellFormed (m : PtpMsg) : Bool :=
  m.lengthOk && m.version == 2 && ([0, 1, 2, 3, 8, 9, 10, 11, 12, 13].contains m.typ)

/-- Whether a message's interval lies in the profile's ranges (R455): `kind` 0 Sync, 1 Announce, 2 Delay_Resp. -/
def State.inProfile (s : State) (kind : Nat) (i : Int) : Bool :=
  match kind with
  | 0 => decide ((if s.cfg 0x1610 2 = 1 then -4 else -1) ≤ i) && decide (i ≤ 1)
  | 1 => decide (0 ≤ i) && decide (i ≤ 4)
  | _ => decide (-3 ≤ i) && decide (i ≤ 5)

/-- What every message meets first: R457, the bridge where it crosses (`tc`, which serves every domain and address), its domain and
its profile. The continuation handles the rest. -/
def State.timeMessage (m : PtpMsg) (count : Nat) (profile : Option Nat) (tc k : State → State) (s : State) : State :=
  let s := s.reach m.stamp
  if !PtpMsg_wellFormed m then s.malformedTime m
  else
    let s := tc (s.countPtp count)
    if m.domain ≠ s.cfg 0x1610 3 then s.countPtp 6
    else if !m.toUs then s
    else k (match profile with
      | some i => if s.inProfile i m.logInterval then s else s.countPtp 7
      | none => s)

/-- A correctionField in ns. -/
def corrNs (c : Int) : Rat := (c : Rat) / 65536

/-- The mean of a list of delays. -/
def meanOf (l : List Rat) : Rat := if l.length = 0 then 0 else l.foldl (· + ·) 0 / (l.length : Rat)

/-- ASYMMETRY_NS of a port (R456). -/
def State.asymmetry (s : State) (port : Nat) : Rat := ((signed 32 (s.field 0 0x1620 (port + 1) 0) : Int) : Rat)

/-- Whether the ordinary clock measures by peer delay: PTP_DELAY_MECH, or what TC_MODE asks for (R455, R463). -/
def State.peerDelay (s : State) : Bool := s.cfg 0x1610 7 == 2 || (s.cfg 0x1610 7 == 0 && s.cfg 0x1610 5 == 2)

/-- The delay that θ uses: the averaged path delay, or the port's link delay (R458); none before a
measurement. -/
def State.pathDelay (s : State) (port : Nat) : Option Rat :=
  if s.peerDelay then
    match s.time.ports[port]? with
    | some p => if p.delays = [] then none else some p.linkDelay
    | none => none
  else if s.time.paths = [] then none else some (meanOf s.time.paths)

/-- Whether a message comes from the master that the part follows. -/
def State.fromParent (s : State) (m : PtpMsg) : Bool := match s.time.parent with
  | some p => p.identity == m.source && p.port == m.port
  | none => false

/-- A Sync whose origin is known (R458): θ = t2 − t1 − delay − corrections. -/
def State.syncMeasured (port stamp origin : Nat) (correction : Int) (s : State) : State :=
  let d := nsOf stamp - (origin : Rat) - corrNs correction
  let s := { s with time := { s.time with syncDelta := some d } }
  match s.pathDelay port with
  | some path => s.onOffset (d - path - s.asymmetry port) stamp
  | none => s

/-- Whether the part's ordinary clock follows a master. -/
def State.following (s : State) : Bool := s.cfg 0x1610 1 == 1

/-- Residence time in units of 2⁻¹⁶ ns, rounded to nearest with ties to even (R464). -/
def residence (ingress egress : Nat) : Int := roundEven (((egress : Rat) - (ingress : Rat)) / 65536)

/-- A message crosses to the other port with an amount added to its correctionField (R463 to R465). -/
def State.cross (m : PtpMsg) (add : Int) (corrected : Bool) (s : State) : State :=
  let s := if corrected then s.countPtp 8 else s
  let s := if corrected ∧ m.checksum = 2 then s.countPtp 9 else s
  s.send (.ptp (1 - m.port) m.typ m.sequenceId (m.correction + add))

/-- A message that no correction concerns: it crosses as any frame, where it crosses and the mode forwards it (R463). -/
def State.crossPlain (m : PtpMsg) (forwards : Bool) (s : State) : State := if m.egress.isSome ∧ forwards then s.cross m 0 false else s

/-- Keeps a message for its companion. -/
def State.keepPtp (k : PtpKept) (s : State) : State := { s with time := { s.time with keptPtp := (k :: s.time.keptPtp).take 64 } }

/-- The kept message of a type with the identity and number given, no more than 1 s old (R457). -/
def State.keptFor (s : State) (typ : Nat) (source sequenceId : Nat) : Option PtpKept :=
  s.time.keptPtp.find? fun k => k.typ == typ && k.source == source && k.sequenceId == sequenceId &&
    decide (s.time.ns112 ≤ k.stamp + 1000000000 * 2 ^ 32)

/-- The transparent clock at a Sync (R463). -/
def State.tcSync (m : PtpMsg) (s : State) : State :=
  match m.egress with
  | none => s
  | some e =>
    let mode := s.cfg 0x1610 7
    if mode = 0 then s.cross m 0 false
    else
      let link : Int := if mode = 2 then roundEven (((s.time.ports.getD m.port {}).linkDelay) * 65536) else 0
      let r := residence m.stamp e + link
      if m.twoStep then (s.cross m 0 false).keepPtp { typ := 0x100, port := m.port, source := m.source, sequenceId := m.sequenceId, stamp := m.stamp, correction := r }
      else s.cross m r true

/-- PTP_SYNC (R456, R458, R463): stamped, corrected where it crosses, and, from the parent and one-step,
measured; a two-step Sync waits for its Follow_Up. -/
def execPtpSync (m : PtpMsg) (s : State) : Host.Outcome State Fault Refusal :=
  settled s (s.timeMessage m 0 (some 0) (State.tcSync m) fun s =>
    if m.twoStep then s.keepPtp { typ := 0, port := m.port, source := m.source, sequenceId := m.sequenceId, stamp := m.stamp, correction := m.correction }
    else if !s.following ∨ !s.fromParent m then s
    else s.syncMeasured m.port m.stamp m.origin m.correction)

/-- The transparent clock at a Follow_Up: it takes the residence of its Sync with it (R463). -/
def State.tcFollowUp (m : PtpMsg) (s : State) : State :=
  match m.egress with
  | none => s
  | some _ => match s.keptFor 0x100 m.source m.sequenceId with
    | some k => s.cross m k.correction true
    | none => s.cross m 0 false

/-- PTP_FOLLOW_UP (R457, R458, R463): completes a two-step Sync, and takes the Sync's residence with it. -/
def execPtpFollowUp (m : PtpMsg) (s : State) : Host.Outcome State Fault Refusal :=
  settled s (s.timeMessage m 1 none (State.tcFollowUp m) fun s =>
    match s.keptFor 0 m.source m.sequenceId with
    | some k => if s.following && s.fromParent m then s.syncMeasured k.port k.stamp m.origin (k.correction + m.correction) else s
    | none => s.malformedTime m)

/-- A measured delay enters the average over the last 8. -/
def last8 (d : Rat) (l : List Rat) : List Rat := (d :: l).take 8

/-- PTP_DELAY_RESP (R458, R463): the end-to-end path delay from the last Sync and this exchange. `receipt` is the
time at which the master received the Delay_Req. -/
def execPtpDelayResp (m : PtpMsg) (s : State) : Host.Outcome State Fault Refusal :=
  settled s (s.timeMessage m 2 (some 2) (fun s => s.crossPlain m (s.cfg 0x1610 7 != 2)) fun s =>
    match s.keptFor 1 0 m.sequenceId with
    | none => s.malformedTime m
    | some k =>
      match s.time.syncDelta with
      | none => s
      | some d =>
        let back := (m.receipt : Rat) - nsOf k.stamp - corrNs m.correction
        { s with time := { s.time with paths := last8 ((d + back) / 2) s.time.paths } })

/-- PTP_DELAY_REQ (R457, R463): one of another domain is counted; one that crosses the bridge has its residence added, or is dropped by TC_MODE. -/
def execPtpDelayReq (m : PtpMsg) (s : State) : Host.Outcome State Fault Refusal :=
  settled s (
    let s := s.reach m.stamp
    if !PtpMsg_wellFormed m then s.malformedTime m else
    let s := if m.domain ≠ s.cfg 0x1610 3 then s.countPtp 6 else s
    match m.egress with
    | none => s
    | some e =>
      if s.cfg 0x1610 7 = 0 then s.cross m 0 false
      else if s.cfg 0x1610 7 = 1 then s.cross m (residence m.stamp e) true
      else s)

/-- PTP_PDELAY_REQ (R463): answered on its port with the peer-to-peer mechanism and not forwarded. -/
def execPtpPdelayReq (m : PtpMsg) (s : State) : Host.Outcome State Fault Refusal :=
  settled s (s.timeMessage m 3 none (fun s => s.crossPlain m (s.cfg 0x1610 7 == 0)) fun s =>
    if s.peerDelay then s.send (.ptp m.port 3 m.sequenceId 0) else s)

/-- The link delay of a port from a finished Pdelay exchange (R458, R463). -/
def State.linkMeasured (port : Nat) (d : Rat) (s : State) : State :=
  { s with time := { s.time with ports := s.time.ports.modify port fun p =>
      { p with delays := last8 d p.delays, linkDelay := meanOf (last8 d p.delays) } } }

/-- PTP_PDELAY_RESP (R457, R458): a Pdelay_Resp (type 3) or Pdelay_Resp_Follow_Up (type 10). `receipt` is the
request's receipt at the peer and `origin` the response's departure. -/
def execPtpPdelayResp (m : PtpMsg) (s : State) : Host.Outcome State Fault Refusal :=
  settled s (s.timeMessage m 3 none (fun s => s.crossPlain m (s.cfg 0x1610 7 == 0)) fun s =>
    if m.typ = 10 then
      match s.keptFor 3 m.source m.sequenceId, s.keptFor 2 0 m.sequenceId with
      | some r, some q =>
        s.linkMeasured r.port (((nsOf r.stamp - nsOf q.stamp) - ((m.origin : Rat) - (r.origin : Rat)) - corrNs (r.correction + m.correction)) / 2)
      | _, _ => s.malformedTime m
    else
      match s.keptFor 2 0 m.sequenceId with
      | none => s
      | some q =>
        if m.twoStep then s.keepPtp { typ := 3, port := m.port, source := m.source, sequenceId := m.sequenceId, stamp := m.stamp, correction := m.correction, origin := m.receipt }
        else s.linkMeasured m.port (((nsOf m.stamp - nsOf q.stamp) - ((m.origin : Rat) - (m.receipt : Rat)) - corrNs m.correction) / 2))

/-- The order of the best master clock algorithm: less is better (PRESUMED from IEEE 1588, assumption 20). -/
def Master.rank (m : Master) : List Nat :=
  [m.data.priority1, m.data.gmClass, m.data.accuracy, m.data.variance, m.data.priority2, m.data.grandmaster, m.data.steps, m.identity, m.port]

/-- Lexicographic order. -/
def lexLt : List Nat → List Nat → Bool
  | [], _ => false
  | _ :: _, [] => false
  | a :: as, b :: bs => decide (a < b) || (a == b && lexLt as bs)

/-- The best of the masters heard of. -/
def bestMaster : List Master → Option Master
  | [] => none
  | m :: r => match bestMaster r with
    | none => some m
    | some b => if lexLt m.rank b.rank then some m else some b

/-- Chooses the parent. A new one starts the servo's series of offsets again (R459). -/
def State.choose (s : State) : State :=
  let b := bestMaster s.time.masters
  let same := (b.map fun m => (m.identity, m.port)) == (s.time.parent.map fun m => (m.identity, m.port))
  let ports := (List.range 2).map fun i =>
    let p := s.time.ports.getD i {}
    { p with state := if !s.following then 0 else match b with
      | some m => if m.port = i then 2 else if s.time.masters.any (fun x => x.port == i) then 3 else 1
      | none => 1 }
  let t := { s.time with parent := b, ports := ports }
  { s with time := if same then t else { t with thetas := [], paths := [], syncDelta := none, insideRun := 0, beyond := 0 } }

/-- PTP_ANNOUNCE (R455): an Announce enters the best master clock algorithm. -/
def execPtpAnnounce (m : PtpMsg) (a : Announce) (s : State) : Host.Outcome State Fault Refusal :=
  settled s (s.timeMessage m 4 (some 1) (fun s => s.crossPlain m true) fun s =>
    let e : Master := { port := m.port, identity := m.source, data := a }
    let rest := s.time.masters.filter fun x => !(x.port == m.port && x.identity == m.source)
    { s with time := { s.time with masters := e :: rest } }.choose)

/-- DELAY_REQ_TIMER (R455, R463): a Delay_Req is sent to the parent, or a Pdelay_Req on a port, stamped as it
leaves. -/
def execDelayReqTimer (port stamp : Nat) (s : State) : Host.Outcome State Fault Refusal :=
  settled s (
    let s := s.reach stamp
    let id := s.time.ptpSeq
    let peer := s.peerDelay
    if !peer ∧ (!s.following ∨ (s.time.parent.map (·.port)) ≠ some port) then s
    else
      let typ := if peer then 2 else 1
      let s := { s with time := { s.time with ptpSeq := (id + 1) % 65536 } }
      (s.keepPtp { typ := typ, port := port, source := 0, sequenceId := id, stamp := stamp }).send (.ptp port typ id 0))

/-- ANNOUNCE_TIMEOUT (R460): the parent is lost; the next best is chosen, and the part enters HOLDOVER. -/
def execAnnounceTimeout (s : State) : Host.Outcome State Fault Refusal :=
  settled s (
    let masters := match s.time.parent with
      | some p => s.time.masters.filter fun x => !(x.port == p.port && x.identity == p.identity)
      | none => s.time.masters
    ({ s with time := { s.time with masters := masters } }.holdover 1).choose)

/-- SYNC_TIMEOUT (R460): no Sync for three intervals. -/
def execSyncTimeout (s : State) : Host.Outcome State Fault Refusal := settled s (s.holdover 2)

/-- SLEEP_CALIBRATION (R449): over a window, `sleepTicks` ticks of the sleep crystal took `elapsed`
(2⁻³² ns) of NS112. -/
def execSleepCalibration (sleepTicks elapsed : Nat) (s : State) : Host.Outcome State Fault Refusal :=
  settled s (if sleepTicks = 0 ∨ !s.time.nsInForce then s else
    let nominal : Rat := (sleepTicks : Rat) * 0x773594000000
    { s with time := { s.time with sleepPpb := roundEven (((elapsed : Rat) / nominal - 1) * 1000000000) } })

/-! ### TIME_SET -/

/-- TIME_SET's own checks (R452, 0x1610.0D). -/
def checkTimeSet : Check := fun _ _ v s =>
  match ofTime96 v with
  | none => (0x0E0A, s)
  | some _ => if s.cfg 0x1610 1 = 1 then (0x0E15, s) else (0, s)

/-- TIME_SET steps the time by a time recovery (R461). -/
def commitTimeSet : Commit := fun _ _ v s =>
  match ofTime96 v with
  | some ns => (s.recover (((ns * 2 ^ 32 : Nat) : Int) - (s.time.ns112 : Nat)) 2 1).traceTime
  | none => s

/-- TIME_SET (R461). -/
def execTimeSet (rq : Request) (s : State) : Host.Outcome State Fault Refusal :=
  settled s (s.ownWrite "TIME_SET" checkTimeSet commitTimeSet false rq)

end Sys2Proof.Machine
end

