-- ==== Sys2Proof/Machine/Triggers.lean ====
section
/-! DEFINITION. Trigger units and capture units (R466 to R472). -/

namespace Sys2Proof.Machine

/-- Who owns a trigger unit: a partition, or 0xFF for the operator (R466). -/
def State.trigOwner (s : State) (t : Nat) : Nat := s.cfg (0x1700 + t) 1

/-- The cameras whose FSYNC_TRIGGER names a unit. -/
def State.fsyncCams (s : State) (t : Nat) : List Nat := (List.range 8).filter fun k => s.camCfg k 10 == t

/-- Whether PULSE_NS suits a unit that drives a pin (R468). -/
def pulseOk (periodNs pulse : Nat) : Bool := decide (10 ≤ pulse) && decide (pulse ≤ (if periodNs = 0 then 1000000000 else min (periodNs / 2) 1000000000))

/-- The members of a trigger configuration. -/
def trigMem : List Nat := [1, 5, 4, 4, 5, 4, 1, 2, 2, 4]

/-- The values that START and PERIOD may take. -/
def trigTimesOk (v : Bytes) : Bool :=
  let g := fun (k : Nat) => memberAt trigMem v k
  decide (g 2 ≤ 999999999) && decide (g 1 < 1208925819614629) &&
    ((g 4 == 0 && g 5 == 0) || (decide (1000 ≤ g 4) && decide (g 4 ≤ 86400000000000)))

/-- TRIG_CFG's own checks. -/
def checkTrigCfg : Check := fun _ t v s =>
  let g := fun (k : Nat) => memberAt trigMem v k
  let on := s.field 0 t.index 2 0 == 1
  (if !trigTimesOk v || g 8 != 0xFF || (decide (16 ≤ g 7) && g 7 != 0xFF) then 0x0E0A
   else if on && g 0 == 1 then 0x0E15 else 0, s)

/-- TRIG_CFG_OPERATOR's own checks. -/
def checkTrigCfgOperator : Check := fun _ t v s =>
  let g := fun (k : Nat) => memberAt trigMem v k
  let on := s.field 0 t.index 3 0 == 1
  let pinTaken := g 8 != 0xFF && (List.range 16).any fun u => u != t.i && s.trigOwner u == 0xFF && s.field 0 (0x1700 + u) 3 8 == g 8
  let drives := g 8 != 0xFF || !(s.fsyncCams t.i).isEmpty
  (if !trigTimesOk v || (decide (2 ≤ g 8) && g 8 != 0xFF) || g 7 != 0xFF || pinTaken || (drives && !pulseOk (g 4) (g 9)) then 0x0E0A
   else if s.trigOwner t.i != 0xFF || (on && g 0 == 1) then 0x0E15 else 0, s)

/-- A configuration takes effect; the unit is armed when its ENABLE becomes TRUE (R469). -/
def commitTrig : Commit := fun _ t v s =>
  let was := s.trig t.i 0
  let s := s.setObj 0 t.index t.sub v
  s.armTrigger (was == 0 && s.trig t.i 0 == 1) t.i

/-- TRIG_CFG (R466, R469). -/
def execTrigCfg (rq : Request) (s : State) : Host.Outcome State Fault Refusal :=
  settled s (s.ownWrite "TRIG_CFG" checkTrigCfg commitTrig false rq)

/-- TRIG_CFG_OPERATOR (R466, R468, R469). -/
def execTrigCfgOperator (rq : Request) (s : State) : Host.Outcome State Fault Refusal :=
  settled s (s.ownWrite "TRIG_CFG_OPERATOR" checkTrigCfgOperator commitTrig false rq)

/-- Changes a trigger unit. -/
def State.modTrig (t : Nat) (f : Trigger → Trigger) (s : State) : State := { s with time := { s.time with triggers := s.time.triggers.modify t f } }

/-- The doorbell of a unit's context (R468, R372, R378). -/
def State.trigDoorbell (t : Nat) (s : State) : State :=
  let p := s.trigOwner t
  let c := s.trig t 7
  if 8 ≤ p ∨ 16 ≤ c then s
  else
    let r := s.autoDoorbell p c
    if r.1 = 0x0E0A then (s.modTrig t fun u => { u with overruns := u.overruns + 1 }).logViolation 0x0A06 p 0 [byteOf t, byteOf c] else r.2

/-- The pins and the array start of an operator's unit (R468, R390). -/
def State.trigPins (t : Nat) (s : State) : State :=
  if s.trigOwner t ≠ 0xFF then s
  else
    let pulse := s.trig t 9
    let s := if s.trig t 8 < 2 then s.send (.pulse (if s.trig t 8 = 0 then "TIME_OUT0" else "TIME_OUT1") pulse) else s
    let outs := (((s.fsyncCams t).map fun k => s.camCfg k 9).filter fun o => decide (o < 4)).eraseDups
    let s := outs.foldl (fun s o => s.send (.pulse ((["FSYNC_OUT0", "FSYNC_OUT1", "FSYNC_OUT2", "FSYNC_OUT3"]).getD o "") pulse)) s
    if s.cfg 0x2200 6 = t then s.startArray else s

/-- TRIGGER_FIRE (R467, R468): NS112 reaches the target of an armed unit. -/
def execTriggerFire (unit : Nat) (s : State) : Host.Outcome State Fault Refusal :=
  settled s (
    let u := s.time.triggers.getD unit {}
    if 16 ≤ unit ∨ u.state ≠ 1 ∨ s.mode < 4 ∨ !s.time.nsInForce then s
    else
      let period := s.trigPeriod unit
      let s := s.reach u.target
      let s := s.modTrig unit fun x => { x with firings := x.firings + 1, lastFired := some u.target, state := if period = 0 then 3 else 1,
                                                target := if period = 0 then u.target else (u.target + period) % 2 ^ 112 }
      (s.trigPins unit).trigDoorbell unit)

/-! ### Captures (R470, R471) -/

/-- The partition whose view logs a capture unit's losses. -/
def State.captureScope (s : State) (u : Nat) : Nat := let p := s.cfg (0x1780 + u) 1; if p < 8 then p else 0xFF

/-- CAPTURE_EVENT (R470, R471): an event of a unit's SOURCE, stamped in 2⁻³² ns. -/
def execCaptureEvent (unit source : Nat) (falling : Bool) (ticks : Nat) (s : State) : Host.Outcome State Fault Refusal :=
  settled s (
    let cfg := fun (k : Nat) => s.field 0 (0x1780 + unit) 2 k
    let edge : Bool := if source < 4 then (if falling then cfg 2 == 2 || cfg 2 == 3 else cfg 2 == 1 || cfg 2 == 3) else !falling
    if 16 ≤ unit ∨ cfg 0 = 0 ∨ cfg 1 ≠ source ∨ !edge ∨ s.mode < 4 ∨ !s.time.nsInForce then s
    else
      let s := s.reach ticks
      let x := s.time.captures.getD unit {}
      let close : Bool := match x.lastAt with
        | some t => decide (ticks < t + 100 * 2 ^ 32)
        | none => false
      let set := fun (f : Capture → Capture) (s : State) => { s with time := { s.time with captures := s.time.captures.modify unit f } }
      let s := set (fun y => { y with seq := y.seq + 1, events := y.events + 1, lastAt := some ticks }) s
      if close ∨ 256 ≤ x.undelivered.length then
        (set (fun y => { y with lost := y.lost + 1, lostBefore := true }) s).logViolation 0x0A07 (s.captureScope unit) 0 ([byteOf unit] ++ be 4 (x.lost + 1))
      else
        let flags := b01 (decide (source < 4) && falling) + 2 * b01 x.lostBefore
        let r := time96 (ticks / 2 ^ 32) s.timeValid ++ le 4 (ticks % 2 ^ 32) ++ le 4 ((x.seq + 1) % 2 ^ 32) ++ le 2 (s.time.generation % 65536) ++ [byteOf source, byteOf flags]
        set (fun y => { y with undelivered := y.undelivered ++ [r], lostBefore := false }) s)

end Sys2Proof.Machine
end

