-- ==== Sys2Proof/Machine/Sequencer.lean ====
section
/-! DEFINITION. The mode sequencer: the transitions, and what each does to the state (R36, R38, R50, R327, R388, R414, R419, R420,
R444, R449 to R454, R474, R499 to R508, R512). A transition is one command, given when its last step is due. -/

namespace Sys2Proof.Machine

/-- A transition has taken its stated total (R501). ATC goes on through it, at its nominal 24.576 ticks in each µs (R11, R386, assumption 24). -/
def State.spend (us : Nat) (s : State) : State :=
  let t := s.reach (s.power.since + us * 1000 * 2 ^ 32)
  t.modAfe fun x => { x with atc := x.atc + (t.nowTicks - s.nowTicks) * 3072 / (125000 * 2 ^ 32) }

/-- The part enters a mode. -/
def State.enter (m : Nat) (s : State) : State := ({ s with mode := m }.countPower m).traceMode s.mode m 0 0

/-- The condition a board supplies is not met: the transition is undone and SUPPLY_LATE recorded. -/
def State.supplyLate (from_ to_ step : Nat) (s : State) : State :=
  ((s.countPower 8).logAon 0 0x0B0A 0xFF 0 [byteOf from_, byteOf to_, byteOf step]).traceMode from_ to_ step 2

/-- The slots but those given are switched off, and lose what they hold. -/
def State.slotsOff (keep : List Nat) (s : State) : State :=
  { s with slots := s.slots.zipIdx.map fun e => if keep.contains e.2 then e.1 else e.1.scrub }

/-- The slots of logical cores 0 and 1 of CASCADE_PARTITION. -/
def State.chimeSlots (s : State) : List Nat := (List.range 2).filterMap (s.slotOf s.cascadePart)

/-! ### Values lost below ATTEND (R50) -/

/-- The VOLATILE objects that hold what was written, with a value that a descent takes away: all but those held on the Tchirix die
(POWER_ALARM), and those that report what is in force (ROLE_ACTIVE, WAKE_REASON, CAP and mode objects). -/
def lostAtDescent (idx sub : Nat) : Bool := match findRow idx sub with
  | some r => r.per == .volatile && !(["POWER_ALARM", "ROLE_ACTIVE", "WAKE_REASON", "NODE_ID_ACTIVE", "FIRMWARE_VERSION"] : List String).contains r.name
  | none => false

/-- The VOLATILE values that neither count nor number events since the last cold start, and are not held on the Tchirix die, are lost, the logs
among them (R50, R81; R82's counts as well, assumption 51). -/
def State.loseVolatile (s : State) : State :=
  let ctx0 := fun (x : Context) => { x with counts := List.replicate 7 0, layerStats := [], shortage := [0, 0, 0, 0, 0], shortRows := [], lastCode := 0, lastDispatched := 0, lastCompleted := 0 }
  let part0 := fun (x : Partition) => { x with ctxs := x.ctxs.map ctx0, counts := List.replicate 13 0, kvCounts := List.replicate 9 0, streamCounts := List.replicate 12 0, stalls := List.replicate 8 (0, 0) }
  let s := { s with dict := s.dict.filter fun e => !lostAtDescent (e.1 / 256 % 65536) (e.1 % 256), parts := s.parts.map part0, tileCapRefusals := 0 }
  let s := s.modSvc fun x => { x with counts := List.replicate 8 0, latency := List.replicate 16 0, windows := List.replicate 9 {} }
  let s := s.modAfe fun x => { x with counts := List.replicate 7 0, netLate := 0 }
  let s := s.modNet fun x => { x with counts := List.replicate 12 0, aer := [0, 0], rx := [], tx := [] }
  let s := { s with image := { s.image with cams := s.image.cams.map fun (x : Camera) => { x with counts := List.replicate 15 0, lastCode := 0, lastFsNs := 0, periodNs := 0, replacedReqs := 0, failedReqs := 0, ctrlCode := 0 } } }
  let s := { s with time := { s.time with counts := List.replicate 12 0, captures := List.replicate 16 {} } }
  let s := { s with sec := { s.sec with counts := List.replicate 6 0, nonces := [] } }.modPeer fun x =>
    { x with counts := List.replicate 8 (List.replicate 7 0), meshErrors := [0, 0], recoveryCopies := 0, ports := x.ports.map fun (q : PeerPort) => { q with counts := List.replicate 10 0 } }
  let s := s.modTiers fun x => { x with disturbed := 0, rebuilt := 0, groups := x.groups.map fun (g : DramGroup) => { g with corrected := 0, uncorrectable := 0 } }
  let s := { s with slots := s.slots.map fun (x : Slot) => { x with counts := List.replicate 6 0 }, errorLog := {}, violationLog := {}, refusalLog := {} }
  s.modPower fun x => { x with view := List.replicate 8 [0, 0, 0] }

/-! ### Objects across a descent (R327, R419, R420, R444) -/

/-- The rings of the contexts that have them: partition, context, subindex, size, consumer index. -/
def State.ringPlan (s : State) : List (Nat × Nat × Nat × Nat × Nat) :=
  allCtx.flatMap fun e => [1, 2].filterMap fun sub => (s.ring? e.1 e.2 sub).map fun o => (e.1, e.2, sub, o.size, o.u 0 4)

/-- The output objects of CHIME_CAMERA. -/
def State.outPlan (s : State) : List (Nat × Nat × Nat × Bool) :=
  let k := s.cfg 0x2300 5
  if 8 ≤ k then [] else (List.range 4).filterMap fun o =>
    (s.objOf (outField (s.obj 0 (0x6004 + 0x20 * k + o) 1) 1)).map fun x => (k, o, x.size, x.pinnable)

/-- The wake plan is written: claims on SEALED objects, patterns, rings and output objects. -/
def State.writePlan (s : State) : State :=
  let claims := s.objects.flatMap fun o => if o.kind = 1 then o.claims.map fun c => (c.part, o.handle, c.level) else []
  let s := s.modPower fun x => { x with plan := claims, rings := s.ringPlan, outs := s.outPlan }
  { s with parts := s.parts.map fun x => { x with ctxs := x.ctxs.map fun y => { y with pattern := none, reload := match y.pattern with
      | some l => some l.handle
      | none => y.reload } } }

/-- Entry to LISTEN or HIBERNATE ends every claim, deletes WORKING and KV objects and returns SEALED ones to flash (R327). -/
def State.objectsDown (s : State) : State :=
  let gone := s.objects.filter fun o => o.kind != 1
  let s := gone.foldl (fun s o => s.objectEvent o.owner o.handle 8 0 0x0212) s
  { s with objects := (s.objects.filter fun o => o.kind == 1).map fun o => { o with claims := [], residence := if o.residence = 3 then 3 else 1 } }

/-- A ring is made again, with its size and its consumer index; an urgent context's is claimed at CACHE (R376), where the claim passes its tests
(R298, R604). -/
def State.remakeRing (e : Nat × Nat × Nat × Nat × Nat) (s : State) : State :=
  let (p, c, sub, size, consumer) := e
  let at_ := 0x3011 + 0x100 * p + 4 * c
  let old := s.cfg at_ sub
  let index := old % 8192
  let allocated := allocatedBytes false size
  if !s.hasKey p ∨ (s.objAt p index).isSome ∨ s.dramQuota p < s.dramCharge p + allocated then
    (s.setObj 0 at_ sub (be 8 0)).logError 0x0707 p 0 ([byteOf p, byteOf c] ++ be 2 0x0203)
  else
    let o : Obj := { owner := p, index := index, gen := 0, kind := 2, state := 3, size := size, allocated := allocated, residence := 2,
                     content := if sub = 2 then memWrite [] 0 (le 4 consumer ++ le 4 (s.ctx p c).cplProducer) else [] }
    let s := s.newObj o
    let h := o.index + 8192 * p + 65536 * (kvGet s.objGens (p * 8192 + index)).getD 0
    let s := s.setObj 0 at_ sub (be 8 h)
    if s.ctxClass p c = 3 then (match s.objOf h with
      | some x =>
        let code := s.claimCode p x 2
        if code = 0 then s.takeClaim p 2 x else s.objectRefused p h 2 code
      | none => s) else s

/-- The output objects of CHIME_CAMERA are made again; those of the other cameras that are gone read 0 and stay disabled (R444). -/
def State.remakeOutputs (s : State) : State :=
  allOutputs.foldl (fun s e =>
    let k := e.1
    let o := e.2
    let idx := 0x6004 + 0x20 * k + o
    let v := s.obj 0 idx 1
    let h := outField v 1
    if h = 0 ∨ (s.objOf h).isSome then s
    else
      let p := s.camOwner k
      let lose := fun (s : State) => (s.setObj 0 idx 1 ([0] ++ be 8 0 ++ v.drop 9)).camViolation k 0x0809 [byteOf k, byteOf o]
      match s.power.outs.find? fun x => x.1 == k && x.2.1 == o with
      | none => lose s
      | some (_, _, size, pinnable) =>
        let allocated := allocatedBytes pinnable size
        if 8 ≤ p ∨ !s.hasKey p ∨ (s.objAt p (h % 8192)).isSome ∨ s.dramQuota p < s.dramCharge p + allocated then lose s
        else
          let s := s.newObj { owner := p, index := h % 8192, gen := 0, kind := 2, state := 3, pinnable := pinnable, size := size, allocated := allocated, residence := 2 }
          let h' := h % 8192 + 8192 * p + 65536 * (kvGet s.objGens (p * 8192 + h % 8192)).getD 0
          s.setObj 0 idx 1 (v.take 1 ++ be 8 h' ++ v.drop 9)) s
where
  allOutputs : List (Nat × Nat) := (List.range 8).flatMap fun k => (List.range 4).map fun o => (k, o)

/-- The plan's claims of a partition are made again, once (R420): a partition whose key slot is empty makes them when a key is imported. -/
def State.reclaim (p : Nat) (s : State) : State :=
  if !s.hasKey p then s
  else
    let mine := s.power.plan.filter fun e => e.1 == p
    mine.foldl (fun s e =>
      match s.objOf e.2.1 with
      | none => s
      | some o =>
        let models := (List.range 3).any fun k => s.modelPart k == p && (s.model p k).1 == e.2.1
        if (o.claim? p).isSome ∨ models then s
        else
          let code := s.claimCode p o e.2.2
          if code ≠ 0 then s.objectRefused p e.2.1 e.2.2 code else s.takeClaim p e.2.2 o) (s.modPower fun x => { x with plan := x.plan.filter fun e => e.1 != p })

/-- Bindings that name an object deleted at the descent are cleared (R420). -/
def State.clearBindings (p : Nat) (s : State) : State :=
  (List.range 16).foldl (fun s c => s.modCtx p c fun x => { x with binds := x.binds.filter fun b => (s.objOf b.2).isSome }) s

/-- The part works through the wake plan: CASCADE_PARTITION first, then from P0 upward. -/
def State.workPlan (s : State) : State :=
  let order := s.cascadePart :: (List.range 8).filter fun p => p != s.cascadePart
  order.foldl (fun s p => ((s.reclaim p).reloadPart p).clearBindings p) s

/-! ### Time (R449 to R454) -/

/-- SECNS takes over (R449, R451). -/
def State.toSecns (sleep : Bool) (s : State) : State :=
  let t := s.time
  { s with time := { t with secns := t.ns112, nsInForce := false, secInc := secIncrementOf sleep t.freq t.sleepPpb } }

/-- NS112 takes over, as at the end of a warm start (R454). -/
def State.toNs112 (s : State) : State :=
  let t := s.time
  { s with time := { t with
      ns112 := t.secns, nsInForce := true, increment := incrementOf t.freq, phase := 0, state := (if t.state ≤ 1 then t.state else 4),
      firstOffset := true, thetas := [], paths := [], syncDelta := none, insideRun := 0, beyond := 0, largeLogged := false, masters := [], parent := none, keptPtp := [],
      ports := [{}, {}] } }

/-! ### Feeds, streams and ports -/

/-- A LIVE feed begins at the next index that is a multiple of BLOCK_SAMPLES (R405). -/
def State.liveFeed (k : Nat) (s : State) : State :=
  let row := if s.feedCfg k 1 = 2 then s.afe.arrayRows.headD {} else s.afe.history.headD {}
  let b := max 1 (s.feedCfg k 6)
  if s.feedCfg k 0 = 1 ∧ s.feedCfg k 2 = 0 then
    s.modAfe fun x => { x with feeds := x.feeds.set k { on := true, index := (row.next + b - 1) / b * b, fresh := true } }
  else s

/-- A transmit channel begins (R485): m0 is the first multiple of the packet's sample count at or after now plus TX_LEAD_US. -/
def State.startTx (ch : Nat) (s : State) : State :=
  let n := max 1 (packetSamples (s.txCfg ch 10))
  let q := (s.time.ns112 + s.txCfg ch 15 * 1000 * 2 ^ 32) * 3
  let m := (q + 62500 * 2 ^ 32 - 1) / (62500 * 2 ^ 32)
  s.modTx ch fun x => { x with m0 := some ((m + n - 1) / n * n), sent := 0, rest := [], block := 0 }

/-- The transmit channels that are enabled begin. -/
def State.startTxAll (s : State) : State := (List.range 64).foldl (fun s ch => if s.txCfg ch 0 = 1 then s.startTx ch else s) s

/-- Below ATTEND each port has no link, and the PCIe endpoint is off (R474, R499). -/
def State.portsDown (s : State) : State :=
  s.modNet fun x => { x with ports := [{}, {}], macs := [], groups := [], pcieUp := false, busMaster := false, gts := 0, width := 0, vfs := 0, apertures := [] }

/-! ### HIBERNATE to LISTEN (R502) -/

/-- HIBERNATE_TO_LISTEN (R502, R386, R390, R449): a wake has been accepted in HIBERNATE. TCX_PDM_CLK starts 450 µs, and LISTEN is
reached 500 µs, after ATC is set to 0. -/
def execHibernateToListen (s : State) : Host.Outcome State Fault Refusal :=
  settled s (match s.power.up with
    | none => s
    | some target =>
      if s.mode ≠ 1 ∨ s.power.braced then s
      else
        let s := s.spend 4000
        let s := { s with time := { s.time with secInc := secIncrementOf false s.time.freq s.time.sleepPpb } }
        let s := s.modAfe fun x => { x with atc := 12288, phase := 0, epoch := x.epoch + 1, map := none, tcx := { s0 := 11060 }, preroll := {}, gaps := [] }
        (s.enter 2).modPower fun x => { x with up := if target = 2 then none else some target, since := s.nowTicks })

/-! ### LISTEN and LISTEN_RETAIN to ATTEND (R503) -/

/-- Row 0 begins at CHIME_START of the candidate held, whose backlog is copied, or at the next live sample (R414). -/
def State.beginRow0 (s : State) : State :=
  let start := match s.afe.held with
    | some q => ((s.afe.wakes.find? fun w => w.seq == q).map (·.chime)).getD s.afe.preroll.next
    | none => s.afe.preroll.next
  (s.modAfe fun x => { x with history := { next := start } :: List.replicate 16 {} }).forwardLive

/-- What entry to ATTEND from below does. -/
def State.entersAttend (from_ : Nat) (pass : List Nat) (s : State) : State :=
  let s := { s.toNs112 with serving := true }
  let s := ({ (s.enter 4) with ascend := false }.modPower fun x => { x with up := none, retries := 0, failed := false, down := none }).emptyStore
  let s := (s.slotsOff []).retestMics pass
  let s := s.startArray.beginRow0
  let s := match s.afe.held with
    | some q => s.noteArray q
    | none => s
  let s := if from_ = 3 then s.fillPinned else ((s.modFlash Flash.reload).power.rings.foldl (fun s e => s.remakeRing e) (s.modFlash Flash.reload)).remakeOutputs
  let s := s.modPower fun x => { x with rings := [], outs := [] }
  let s := if from_ = 3 then s else s.modCascade fun x => { x with owed := [0, 1, 2], promoting := none, gongAsked := false }
  let s := s.promoteAll.workPlan
  let s := (List.range 16).foldl (fun s k => s.liveFeed k) s
  let s := s.startTxAll.joinGroups
  s.contactServer.armAll.settleWanted

/-- LISTEN or LISTEN_RETAIN to ATTEND (R501, R503): SOC_PG as sampled, and the array inputs that pass their retest. -/
def State.listenToAttend (pg : Bool) (pass : List Nat) (s : State) : State :=
    if !(s.mode = 2 ∨ s.mode = 3) ∨ s.power.up ≠ some 4 ∨ s.power.failed ∨ s.power.braced then s
    else if s.mode = 2 ∧ !pg then
      (s.supplyLate 2 4 170).modPower fun x => if x.retries < 3 then { x with failed := true } else { x with up := none, retries := 0 }
    else (s.spend 600).entersAttend s.mode pass

/-! ### ATTEND and ACTIVE (R504, R505) -/

/-- ATTEND to ACTIVE (R504): the AVSBus acknowledgement as sampled. -/
def State.attendToActive (ack : Bool) (s : State) : State :=
    if s.mode ≠ 4 ∨ !s.ascend ∨ s.power.down.isSome ∨ s.power.failed ∨ s.power.braced then s
    else if !ack then
      let s' := s.supplyLate 4 5 2400
      if s.power.retries < 3 then s'.modPower fun x => { x with failed := true } else { s' with ascend := false }.modPower fun x => { x with retries := 0 }
    else
      let s := ((s.spend 2500).slotsOff s.chimeSlots).enter 5
      let s := { s with ascend := false }.modPower fun x => { x with retries := 0 }
      let s := (List.range 8).foldl (fun s p => s.serveNext p) s
      let s := s.promoteAll
      ((List.range 8).foldl (fun s p => s.dispatchPart p) s).settleWanted

/-- The refusers that abort a descent from ACTIVE: all but work, which R507 takes as a reason to ascend again. -/
def abortsActive (code : Nat) : Bool := code != 0x0B01 && code != 0x0B04 && code != 0x0B07

/-- ACTIVE to ATTEND (R505): the AVSBus acknowledgement as sampled. -/
def State.activeToAttend (ack : Bool) (s : State) : State :=
    match s.power.down with
    | none => s
    | some (target, origin) =>
      if s.mode ≠ 5 ∨ s.power.braced then s
      else
        let stop := match s.refuser 4 false with
          | some r => abortsActive r.code
          | none => false
        if stop then
          let reason := if s.afe.held.isSome then 1 else 0
          let s := s.logRefusal 0x0B08 0xFF (if reason = 1 then 0x50 else 0) ([byteOf 5, byteOf target, byteOf origin, byteOf 1] ++ be 2 reason)
          ((s.traceMode 5 4 1 2).countPower 7).modPower fun x => { x with down := none }
        else if !ack then ((s.slotsOff s.chimeSlots).supplyLate 5 4 1000).modPower fun x => { x with down := none }
        else
          let s := ((s.spend 1000).stopCams (s.cfg 0x2300 5)).slotsOff s.chimeSlots
          let s := ((s.enter 4).modPower fun x => { x with down := none, since := s.nowTicks }).contactServer
          if 4 ≤ target ∨ s.ascend then s
          else match s.refuser target (origin == 2) with
            | some r => s.recordRefusal r target origin
            | none => s.startDescent target origin

/-! ### A descent from ATTEND (R506, R507) -/

/-- The steps of a descent from ATTEND to a target, which ends in `to`. Bell requests that wait for the server, or are outstanding there, go
without a code: the spec names no completion for them (assumption 49). -/
def State.descend (target to_ : Nat) (s : State) : State :=
  let s := s.spend (if target = 3 then 1600 else if to_ = 2 then 1700 else 1800)
  let s := (s.camsDown.stopArray.modAfe fun x => { x with feeds := List.replicate 16 {}, features := [], map := none }).portsDown
  let s := (if target = 3 then s else s.writePlan.objectsDown).dropLines fun _ => true
  let s := (s.slotsOff []).loseVolatile
  let s := s.toSecns (to_ == 1)
  let s := (s.modCascade fun x => { x with session := none, contacted := false, waiting := [], promoting := none, owed := [] }).modSvc fun x => { x with clients := [] }
  let s := if to_ = 1 then s.modAfe fun x => { x with tcx := { x.tcx with running := false }, preroll := {}, gaps := [] } else s
  (s.enter to_).modPower fun x => { x with down := none, shortHold := 0, retries := 0, failed := false }

/-- DESCENT_FROM_ATTEND (R506, R507): with a wake source that comes after the point of no return, where there is one: its reason and
the µs since the descent was accepted. -/
def execDescentFromAttend (late : Option (Nat × Nat)) (s : State) : Host.Outcome State Fault Refusal :=
  settled s (match s.power.down with
    | none => s
    | some (target, origin) =>
      if s.mode ≠ 4 ∨ s.power.braced then s
      else if (s.refuser target (origin == 2)).isSome then s.abortDescent 0 s.afe.held.isSome
      else match late with
        | none => s.descend target target
        | some (reason, us) =>
          let s := s.descend target (if target = 1 ∧ (us < 1700 ∨ reason = 1) then 2 else target)
          if reason = 2 then s.wake (s.cfg 0x1400 5) 2
          else if reason = 3 then s.wake 4 3
          else s)

/-- WAKE_RETRY (R501): 10 ms after a failed attempt, up to 3 times. -/
def execWakeRetry (s : State) : Host.Outcome State Fault Refusal :=
  settled s (if s.power.failed then s.modPower fun x => { x with failed := false, retries := x.retries + 1, since := s.nowTicks } else s)

end Sys2Proof.Machine
end

