-- ==== Sys2Proof/Machine/Blocks.lean ====
section
/-! DEFINITION. Block transfers as every reader and writer of a long value shares them (R71 to R74), and the refusals that
R550 bounds. -/

namespace Sys2Proof.Machine

/-- The identifier that frames to a sender carry in SESSION. -/
def Owner.sessionId : Owner → Nat
  | .session id => id
  | _ => 0

/-! ### Limits (R74, R550) -/

/-- Whether a transfer is open: a read whose every byte has been sent only waits to send some of them again. -/
def Block.isOpen (b : Block) : Bool := b.write || decide (b.sentTo < b.total)

/-- Why a transfer may not open: 1 the sender has one, or the object is being written; 2 the 16 of the part are taken. Each address that uses
session 0 counts as a session of its own (assumption 28). -/
def State.blockBusy (s : State) (o : Owner) (write : Bool) (t : Target) : Nat :=
  if s.svc.blocks.any fun b => b.isOpen && (b.owner == o || (write && b.write && b.index == t.index && b.sub == t.sub && b.part == t.part)) then 1
  else if 16 ≤ (s.svc.blocks.filter fun b => b.isOpen).length then 2 else 0

/-- A refusal that R550 bounds: at most 16 for a partition in a whole second; a further request is held to the next. -/
def State.refuseShared (part : Option Nat) (rq : Request) (w : Who) (code : Nat) (s : State) : State :=
  match part with
  | none => s.abort rq w code
  | some p =>
    let second := s.nowNs / 1000000000
    let e := s.svc.refused.getD p (0, 0)
    let n := if e.1 = second then e.2 else 0
    if 16 ≤ n then s.modSvc fun x => { x with heldReqs := x.heldReqs ++ [(rq, w)] }
    else (s.modSvc fun x => { x with refused := x.refused.set p (second, n + 1) }).abort rq w code

/-! ### Reads (R71, R73) -/

/-- The SEGMENT frame of a transfer from an offset. -/
def Block.segment (b : Block) (off : Nat) : Frame :=
  let part := (b.value.drop off).take 1024
  { op := 8, flags := (if b.total ≤ off + 1024 then 2 else 0) + (if b.who.tagged then 4 else 0), typ := b.typ, session := b.owner.sessionId,
    seq := b.lastSeq, index := b.index, sub := b.sub, payload := be 4 off ++ part }

/-- Sends segments from an offset: as many as the window still allows. -/
def State.sendSegments (b : Block) : Nat → Nat → State → Nat × State
  | 0, off, s => (off, s)
  | n + 1, off, s => if b.total ≤ off then (off, s) else s.deliver b.who.source (b.segment off) |> State.sendSegments b n (min b.total (off + 1024))

/-- A read transfer goes on from the offset acknowledged. -/
def State.continueRead (b : Block) (off : Nat) (s : State) : State :=
  let r := s.sendSegments b 16 off
  r.2.modSvc fun x => { x with blocks := x.blocks.map fun e => if e = b then { b with sentTo := r.1, acked := off } else e }

/-- A READ_BLOCK of a value (R73): the answer, and the segments from START_OFFSET. -/
def State.openRead (rq : Request) (w : Who) (t : Target) (v : Bytes) (s : State) : State :=
  let off := ofBE rq.frame.payload
  if v.length < off then s.abort rq w 0x0E0A
  else
    let s := s.respond rq w 0 0 (be 4 v.length ++ be 4 (crc32 v))
    let b : Block := { owner := w.owner, who := w, write := false, part := t.part, index := t.index, sub := t.sub, typ := t.row.ty, total := v.length,
                       crc := crc32 v, lastSeq := rq.frame.seq, value := v, sentTo := off, acked := off }
    let s := s.modSvc fun x => { x with blocks := (x.blocks.filter fun e => e.owner != w.owner) ++ [b] }
    s.continueRead b off

/-- A READ_BLOCK that has passed the checks of the object: the limits, then the transfer. -/
def State.startRead (rq : Request) (w : Who) (t : Target) (v : Bytes) (s : State) : State :=
  match s.blockBusy w.owner false t with
  | 0 => s.openRead rq w t v
  | 1 => s.abort rq w 0x0E0C
  | _ => s.refuseShared w.tenant rq w 0x0E0C

end Sys2Proof.Machine
end

