-- ==== Sys2Proof/Machine/Security.lean ====
section
/-! DEFINITION. Keys, tenants, credentials, attestation and the tenant scrub (18_security_and_isolation.md). -/

namespace Sys2Proof.Machine

/-- Changes the security block's state. -/
def State.modSec (f : Security → Security) (s : State) : State := { s with sec := f s.sec }
/-- Counts in SECURITY_COUNTS. -/
def State.countSec (i : Nat) (s : State) : State := s.modSec fun x => { x with counts := bump x.counts i }
/-- TENANT_EPOCH. -/
def State.epoch (s : State) (p : Nat) : Nat := s.sec.epochs.getD p 0
/-- The CREDENTIALS list of a partition. -/
def State.credentials (s : State) (p : Nat) : Bytes := s.obj 0 (0x3052 + 0x100 * p) 1
/-- Whether a tenant scrub is in progress. -/
def State.scrubbing (s : State) (p : Nat) : Bool := (s.sec.scrubbing.getD p none).isSome
/-- The tenant state of a partition (R538): 0 UNCLAIMED, 1 ENROLLED, 2 SCRUBBING. -/
def State.tenantState (s : State) (p : Nat) : Nat := if s.scrubbing p then 2 else if s.credentials p = [] then 0 else 1

/-! ### Keys (R531 to R537) -/

/-- A partition's key slot, its copy in the retention store and its client key are destroyed. -/
def State.destroyKey (p : Nat) (s : State) : State :=
  { s with keys := s.keys.set p none }.modCascade fun x => { x with clientKey := x.clientKey.set p none }

/-- The pair of labels that a partition's derivations carry: U8 p and U32 TENANT_EPOCH, little-endian (R35, R532). -/
def State.keyLabel (s : State) (p : Nat) : Bytes := byteOf p :: le 4 (s.epoch p)

/-- The partition secret that a KEY_IMPORT record carries, where its TAG holds (R532). -/
def State.unwrapKey (s : State) (p : Nat) (v : Bytes) : Option Bytes :=
  let eph := slice v 0 97
  let wrapped := slice v 97 32
  let z := (List.range 48).map (Config.ecdh agreementKey eph)
  let k := hkdf z (eph ++ publicBytes agreementKey) (nameBytes "vz8640 key import" ++ s.keyLabel p) 80
  if (List.range 16).map (Config.hmac384 (k.drop 32) (eph ++ wrapped)) = slice v 129 16 then some (List.zipWith (· ^^^ ·) wrapped (k.take 32)) else none

/-- The KEY_CHECK of a partition secret (R532). -/
def State.keyCheckOf (s : State) (p : Nat) (ps : Bytes) : Nat := ofBE (hkdf ps [] (nameBytes "vz8640 check" ++ s.keyLabel p) 16)

/-- The private scalar of the Gong client key of a partition secret (R35). -/
def State.clientScalar (s : State) (p : Nat) (ps : Bytes) : Nat := scalarOf ps (nameBytes "vz8640 gong client" ++ s.keyLabel p)

/-- KEY_IMPORT's own checks (R532): the slot is empty, and the TAG verifies. A failed unwrap is counted. -/
def checkKeyImport : Check := fun _ t v s =>
  if s.hasKey t.i then (0x0C03, s)
  else if (s.unwrapKey t.i v).isNone then (0x0C02, s.countSec 1)
  else (0, s)

/-- The SEALED objects in flash that wait for their owner's key return, or are deleted (R534). -/
def State.readoptFlash (p : Nat) (s : State) : State :=
  (s.objects.filter fun o => o.owner == p && o.state == 5 && o.kind == 1 && o.residence == 1).foldl (fun s o =>
    if o.keyCheck = s.keys.getD p none then s.modObj o.owner o.index fun x => { x.readopt with residence := 1 } else s.readoptFails o) s

/-- KEY_IMPORT: the slot is loaded, the client key derived for CASCADE_PARTITION (R35), and what waits for the key goes on. -/
def commitKeyImport : Commit := fun _ t v s =>
  match s.unwrapKey t.i v with
  | none => s
  | some ps =>
    let scalar := s.clientScalar t.i ps
    let s := { s with keys := s.keys.set t.i (some (s.keyCheckOf t.i ps)) }.countSec 0
    let s := if t.i = s.cascadePart then s.modCascade fun x => { x with clientKey := x.clientKey.set t.i (some scalar) } else s
    let s := ((s.readoptFlash t.i).reclaim t.i).reloadPart t.i
    if t.i = s.cascadePart ∧ s.cfg 0x1310 5 ≠ 0 then s.clientStep else s

/-- KEY_IMPORT (R532). -/
def execKeyImport (rq : Request) (s : State) : Host.Outcome State Fault Refusal :=
  settled s (s.ownWrite "KEY_IMPORT" checkKeyImport commitKeyImport false rq)

/-- KEY_DESTROY: TRUE resets the partition, destroys its key and makes every object of it RETAINED (R537). -/
def commitKeyDestroy : Commit := fun _ t v s =>
  if ofBE v = 0 then s
  else
    let s := ((s.beginReset t.i).destroyKey t.i).countSec 2
    { s with objects := s.objects.map fun o => if o.owner = t.i ∧ !o.deleting then o.retain else o }

/-- KEY_DESTROY (R537). -/
def execKeyDestroy (rq : Request) (s : State) : Host.Outcome State Fault Refusal :=
  settled s (s.ownWrite "KEY_DESTROY" (fun _ _ _ s => (0, s)) commitKeyDestroy false rq)

/-! ### Credentials and trusted keys (R538, R539, R541) -/

/-- The prime of P-384. -/
def p384 : Nat := 2 ^ 384 - 2 ^ 128 - 2 ^ 96 + 2 ^ 32 - 1
/-- The constant b of P-384. -/
def p384b : Nat := 0xb3312fa7e23ee7e4988e056be3f82d19181d9c6efe8141120314088f5013875ac656398d8a2ed19d2a85c8edd3ec2aef

/-- Whether 97 bytes are an uncompressed point on P-384 (assumption 23). -/
def onCurve (k : Bytes) : Bool :=
  let x := ofBE (slice k 1 48)
  let y := ofBE (slice k 49 48)
  k.length == 97 && (k.headD 0).toNat == 4 && decide (x < p384) && decide (y < p384) && (y * y) % p384 == (x * x * x + (p384 - 3) * x + p384b) % p384

/-- The entries of a list of `n` bytes each. -/
def entriesOf (n : Nat) (b : Bytes) : List Bytes := (List.range (b.length / n)).map fun i => slice b (n * i) n

/-- Whether a list is legal: whole entries, between two counts, no identifier twice, every key a point (R539). -/
def keyListOk (idBytes least most : Nat) (v : Bytes) : Bool :=
  let n := idBytes + 97
  let l := entriesOf n v
  v.length % n == 0 && decide (least ≤ l.length) && decide (l.length ≤ most) && !repeats (l.map fun e => ofBE (e.take idBytes)) &&
    l.all fun e => onCurve (e.drop idBytes)

/-- The key of a credential in a list. -/
def credentialKey (l : Bytes) (id : Nat) : Option Bytes := ((entriesOf 101 l).find? fun e => ofBE (e.take 4) == id).map fun e => e.drop 4

/-- CREDENTIALS's own checks. -/
def checkCredentials : Check := fun _ _ v s => (if keyListOk 4 1 8 v then 0 else 0x0E0A, s)
/-- PATTERN_KEYS's own checks. -/
def checkPatternKeys : Check := fun _ _ v s => (if keyListOk 8 0 8 v then 0 else 0x0E0A, s)
/-- PUBLISHERS's own checks. -/
def checkPublishers : Check := fun _ _ v s => (if keyListOk 8 0 16 v then 0 else 0x0E0A, s)
/-- OPERATOR_CREDENTIALS's own checks. -/
def checkOperatorCredentials : Check := fun _ _ v s => (if keyListOk 4 0 16 v then 0 else 0x0E0A, s)

/-- The sessions of a class whose credential a list no longer holds close. -/
def State.closeRemoved (tenant : Option Nat) (l : Bytes) (s : State) : State :=
  s.closeWhere fun e => e.tenant == tenant && (credentialKey l e.credential).isNone

/-- CREDENTIALS takes effect; the sessions it removes close after the response, which the row sends last (R539). -/
def commitCredentials : Commit := fun _ t v s => s.setObj t.part t.index t.sub v

/-- A write that only stores its value. -/
def commitStore : Commit := fun _ t v s => s.setObj t.part t.index t.sub v

/-- CREDENTIALS (R539). -/
def execCredentials (rq : Request) (s : State) : Host.Outcome State Fault Refusal :=
  settled s (s.ownWrite "CREDENTIALS" checkCredentials commitCredentials true rq)

/-- PATTERN_KEYS (R539). -/
def execPatternKeys (rq : Request) (s : State) : Host.Outcome State Fault Refusal :=
  settled s (s.ownWrite "PATTERN_KEYS" checkPatternKeys commitStore true rq)

/-- PUBLISHERS (R539). -/
def execPublishers (rq : Request) (s : State) : Host.Outcome State Fault Refusal :=
  settled s (s.ownWrite "PUBLISHERS" checkPublishers commitStore true rq)

/-- TENANT_ENROL's own checks (R538, R543): an UNCLAIMED partition of a part in PRODUCTION, and a key on the curve. -/
def checkTenantEnrol : Check := fun _ t v s =>
  if !onCurve (v.drop 4) then (0x0E0A, s)
  else if s.tenantState t.i ≠ 0 then (0x0C04, s)
  else if s.cfg 0x1B00 2 = 2 then (0x0E15, s) else (0, s)

/-- TENANT_ENROL: the first credential. -/
def commitTenantEnrol : Commit := fun _ t v s => s.setObj 0 (0x3052 + 0x100 * t.i) 1 v

/-- TENANT_ENROL (R538). -/
def execTenantEnrol (rq : Request) (s : State) : Host.Outcome State Fault Refusal :=
  settled s (s.ownWrite "TENANT_ENROL" checkTenantEnrol commitTenantEnrol false rq)

/-- MGMT_TRUST's own checks: up to four anchors, each whole. -/
def checkMgmtTrust : Check := fun _ _ v s =>
  let l := lengthPrefixed 5 v
  (if l.length ≤ 4 ∧ (l.map fun a => a.length + 4).sum = v.length ∧ l.all fun a => a != [] then 0 else 0x0E0A, s)

/-- MGMT_TRUST (R541): while it is empty, an OPERATOR session of the PCIe physical function may write it. -/
def execMgmtTrust (rq : Request) (s : State) : Host.Outcome State Fault Refusal :=
  settled s (
    if !names rq "MGMT_TRUST" then s
    else match s.admitted rq 4 (fun _ => true) true with
    | .stop s => s
    | .go w s =>
      let w' := if w.owner = .fn 0 ∧ s.obj 0 0x1B10 1 = [] then { w with management := true } else w
      match s.writeTarget w' rq.frame true with
      | .inl code => s.abort rq w code
      | .inr t => match checkMgmtTrust w t rq.frame.payload s with
        | (0, s) => s.queueSave rq w t
        | (code, s) => s.abort rq w code)

/-- SECURITY_VERSION's own checks (R530, R52): only MANAGEMENT sessions raise it. -/
def checkSecurityVersion : Check := fun w _ v s =>
  let n := ofBE v
  let im := s.ras.images.headD {}
  let running := (if im.running = 0 then im.a else im.b).secVersion
  if !w.management then (0x0E06, s)
  else if running < n ∨ 64 < n then (0x0E0A, s)
  else if n < s.cfg 0x1B00 1 then (0x0E16, s) else (0, s)

/-- SECURITY_VERSION (R530). -/
def execSecurityVersion (rq : Request) (s : State) : Host.Outcome State Fault Refusal :=
  settled s (s.ownWrite "SECURITY_VERSION" checkSecurityVersion commitStore false rq)

/-! ### Attestation (R542, R543) -/

/-- The partition that an attestation object asks about; 0xFF for the device. -/
def attestPart (t : Target) : Nat := if t.row.acc = .area then t.i else 0xFF

/-- ATTEST_NONCE and ATTEST_NONCE_DEVICE: the session's nonce for its next report. -/
def commitNonce : Commit := fun w t v s =>
  s.modSec fun x => { x with nonces := (w.owner, attestPart t, v) :: x.nonces.filter fun e => !(e.1 == w.owner && e.2.1 == attestPart t) }

/-- ATTEST_NONCE (R542): a partition's nonce, or the device's. -/
def execAttestNonce (rq : Request) (s : State) : Host.Outcome State Fault Refusal :=
  settled s (if names rq "ATTEST_NONCE" ∨ names rq "ATTEST_NONCE_DEVICE" then s.serveWrite (fun _ _ _ s => (0, s)) commitNonce false rq else s)

/-- The bank of an image that runs. -/
def FwImage.live (x : FwImage) : Bank := if x.running = 0 then x.a else x.b

/-- The digest of an image in force; the digest of an image the part left the factory with is a fused value. -/
def State.imageDigest (s : State) (i : Nat) : Bytes := ((s.ras.images.getD i {}).live.digest).getD (fuseBytes 0x1330 (0x10 + i) 48)

/-- DEBUG_STATE (R543, R585). -/
def State.debugState (s : State) : Nat :=
  let jtag := s.cfg 0x1C00 3 == 1
  let ring := (List.range 8).any fun p => s.area p 0x70 3 != 0
  let stream := s.svc.subs.any fun e => e.index == 0x1C10
  b01 jtag + 2 * b01 (jtag || ring || stream)

/-- A number of bytes that a list of conditions sets, bit by bit. -/
def maskOf (n : Nat) (f : Nat → Bool) : Nat := ((List.range n).map fun i => if f i then 2 ^ i else 0).sum

/-- The entries of a list in ascending order of their identifiers, joined. -/
def sortedEntries (idBytes : Nat) (b : Bytes) : Bytes :=
  ((entriesOf (idBytes + 97) b).mergeSort fun x y => decide (ofBE (x.take idBytes) ≤ ofBE (y.take idBytes))).flatten

/-- The digest of the identifiers a partition owns. -/
def State.resourcesDigest (s : State) (p : Nat) : Bytes :=
  let list := fun (n base : Nat) => ((List.range n).filter fun i => s.cfg (base + i) 1 == p).flatMap (le 2) ++ [0xFF, 0xFF]
  Config.sha384 (list 1024 0x5000 ++ list 64 0x5400 ++ list 2048 0x4000)

/-- Whether a slot of a TDM port in use plays a live local source: the microphone, a beam or an array input (R422, R543). -/
def State.playsLive (s : State) : Bool := (List.range 2).any fun n => s.field 0 0x2250 (n + 1) 0 == 1 && (List.range 8).any fun k =>
  decide (k < 2 ^ (s.field 0 0x2250 (n + 1) 1 + 1)) && decide (s.field 0 0x2252 (n + 1) k < 0x40)

/-- Bytes 0 to 400 of a report. -/
def State.reportHead (s : State) (nonce : Bytes) (p : Nat) : Bytes :=
  le 4 0x52415A56 ++ le 2 1 ++ le 2 784 ++ nonce ++ fuseBytes 0x1000 5 16 ++ le 4 0x8640 ++ (fuseBytes 0x1000 3 1) ++ le 1 (s.cfg 0x1B00 2) ++
  le 2 (ofBE (fuseBytes 0x1000 4 2)) ++ le 4 (s.cfg 0x1000 8) ++ le 4 (s.cfg 0x1B00 1) ++ le 4 s.debugState ++ le 2 s.ras.reason ++ le 1 s.time.state ++ [0] ++
  time96le s.nowNs s.timeValid ++ le 4 s.time.generation ++
  (fuseBytes 0x1330 0x20 48 ++ s.imageDigest 0 ++ s.imageDigest 1 ++ s.imageDigest 3 ++ s.imageDigest 2 ++ Config.sha384 (s.obj 0 0x2230 1)) ++ le 1 p

/-- Bytes 401 to 687 of a partition's report. -/
def State.reportTail (s : State) (p : Nat) : Bytes :=
  let at_ := 0x3000 + 0x100 * p
  let own := fun (n base stride : Nat) => maskOf n fun i => s.cfg (base + stride * i) 1 == p
  let count := fun (n base : Nat) => ((List.range n).filter fun i => s.cfg (base + i) 1 == p).length
  let slots := maskOf 72 fun n => (s.slot n).part == p
  let flags := b01 (s.cascadePart == p) + 2 * b01 s.playsLive + 4 * s.area p 0x50 1 + 8 * s.area p 0x50 2
  le 1 (s.part p).state ++ le 1 (s.cores p) ++ le 1 flags ++ le 4 (s.epoch p) ++ le 9 slots ++ [0] ++ le 2 (s.area p 0x60 1) ++
  (le 1 (s.area p 0 3) ++ le 1 (s.area p 0x60 4) ++ le 1 (s.area p 0 4) ++ le 1 (s.area p 0 5)) ++ le 8 (s.area p 0x60 2) ++ le 8 (s.area p 0x60 3) ++
  le 4 (s.capShares.getD p 0) ++ le 1 (own 8 0x6000 0x20) ++ [0] ++ le 2 (own 16 0x1700 1) ++ le 2 (own 16 0x1780 1) ++
  le 2 (count 1024 0x5000) ++ le 2 (count 64 0x5400) ++ le 2 (count 2048 0x4000) ++ (List.range 16).flatMap (fun c => le 1 (s.ctxClass p c)) ++
  be 16 ((s.keys.getD p none).getD 0) ++ Config.sha384 (sortedEntries 4 (s.credentials p)) ++ Config.sha384 (sortedEntries 8 (s.obj 0 (at_ + 0x52) 2)) ++
  Config.sha384 (sortedEntries 8 (s.obj 0 (at_ + 0x52) 3)) ++ s.resourcesDigest p ++ List.replicate 8 0

/-- A report, with the signature of the identity key over its first 688 bytes (R529, R543). -/
def State.report (p : Nat) (nonce : Bytes) (s : State) : Bytes × State :=
  let b := s.reportHead nonce p ++ (if p = 0xFF then List.replicate 287 0 else s.reportTail p)
  let r := s.identitySign b
  (b ++ r.1, r.2)

/-- A READ_BLOCK of a report: it needs an unconsumed nonce of the sender's, which it consumes (R542). -/
def State.attest (rq : Request) (w : Who) (t : Target) (s : State) : State :=
  let p := attestPart t
  match s.sec.nonces.find? fun e => e.1 == w.owner && e.2.1 == p with
  | none => s.abort rq w 0x0E15
  | some e =>
    if s.blockBusy w.owner false t ≠ 0 then s.startRead rq w t []
    else
      let s := (s.modSec fun x => { x with nonces := x.nonces.erase e }).countSec 4
      let r := s.report p e.2.2
      r.2.startRead rq w t r.1

/-- ATTEST_REPORT (R542): a READ_BLOCK of a partition's report, or of the device's. -/
def execAttestReport (rq : Request) (s : State) : Host.Outcome State Fault Refusal :=
  settled s (if !(names rq "ATTEST_REPORT" || names rq "ATTEST_REPORT_DEVICE") then s
    else match s.admitted rq 3 (fun b => b.length == 4) with
    | .stop s => s
    | .go w s => match s.resolve w rq.frame.index rq.frame.sub with
      | .inl code => s.abort rq w code
      | .inr t => s.attest rq w t)

/-! ### The tenant scrub (R545 to R547) -/

/-- Whether a stored value is one of partition p's own objects, which a scrub sets to its default. -/
def State.tenantValue (s : State) (p key : Nat) : Bool :=
  match findRow (key / 256 % 65536) (key % 256) with
  | none => false
  | some r =>
    let i := ((r.at? (key / 256 % 65536)).getD (0, 0)).1
    match r.acc with
    | .tenant => key / 2 ^ 24 == p
    | .cascade => key / 2 ^ 24 == p
    | .area => i == p
    | .slot => s.ownerOf .slot i == p
    | .camera => s.ownerOf .camera i == p
    | .rx => s.ownerOf .rx i == p
    | .tx => s.ownerOf .tx i == p
    | .trig => s.ownerOf .trig i == p
    | .capture => s.ownerOf .capture i == p
    | _ => false

/-- Every object of the partition goes; each holder loses its claim and reads DELETED (R546). The partition's own claims end. -/
def State.scrubObjects (p : Nat) (s : State) : State :=
  let mine := s.objects.filter fun o => o.owner == p
  let s := { s with objects := s.objects.filter fun o => o.owner != p }.dropLines fun l => l.part == p || mine.any fun o => o.handle == l.obj
  let s := s.modTiers fun t => { t with erasing := t.erasing ++ (mine.filter fun o => o.kind != 1).map fun o => (o.place, o.allocated, s.nowNs) }
  let s := mine.foldl (fun s o => (o.claims.filter fun c => c.part != p).foldl (fun s c => s.objectEvent c.part o.handle 5 0 0) s) s
  ((s.objects.filter fun o => (o.claim? p).isSome).foldl (fun s o => s.dropClaim p o) s).settlePromotion

/-- The partition's feeds, cameras, triggers, captures, channels and answering requests are cleared. -/
def State.scrubUnits (p : Nat) (s : State) : State :=
  let s := if s.cascadePart = p then s.modAfe fun x => { x with feeds := List.replicate 16 {}, played := List.replicate 16 0 } else s
  let s := (List.range 8).foldl (fun s k => if s.camOwner k = p then (s.stopCam k).modCam k fun x => { state := x.state, seq := x.seq, slotSeq := x.slotSeq } else s) s
  let cleared := fun (base : Nat) (l : List Nat) => l.filter fun i => s.cfg (base + i) 1 == p
  let trigs := cleared 0x1700 (List.range 16)
  let caps := cleared 0x1780 (List.range 16)
  let s := { s with time := { s.time with
    triggers := s.time.triggers.zipIdx.map fun (e : Trigger × Nat) => if trigs.contains e.2 then {} else e.1,
    captures := s.time.captures.zipIdx.map fun (e : Capture × Nat) => if caps.contains e.2 then {} else e.1 } }
  let s := s.modNet fun x => { x with
    rx := x.rx.map fun (e : Nat × RxChannel) => if s.cfg (0x5000 + e.1) 1 = p then (e.1, { e.2 with counts := List.replicate 6 0 }) else e,
    tx := x.tx.map fun (e : Nat × TxChannel) => if s.cfg (0x5400 + e.1) 1 = p then (e.1, { e.2 with rest := [], counts := [0, 0] }) else e }
  s.modCascade fun x => { x with answers := x.answers.set p [], serving := x.serving.set p none,
                                 promoting := match x.promoting with
                                   | some e => if e.1 = p then none else some e
                                   | none => none }

/-- A tenant scrub to its step at 125 µs: no datum of the tenant is left (R545). -/
def State.beginScrub (p origin : Nat) (s : State) : State :=
  if s.scrubbing p then s
  else
    let s := s.modSec fun x => { x with scrubbing := x.scrubbing.set p (some origin), epochs := bump x.epochs p,
                                        nonces := x.nonces.filter fun e => e.2.1 != p }
    let s := (s.closeWhere fun e => e.tenant == some p).endOwner (.fn (p + 1))
    let s := s.modSvc fun x => { x with subs := x.subs.filter fun (e : Subscription) => e.who.tenant != some p,
                                        saving := x.saving.filter fun (e : Saving) => e.who.tenant != some p,
                                        heldReqs := x.heldReqs.filter fun (e : Request × Who) => e.2.tenant != some p,
                                        queued := x.queued.filter fun (e : Request × Who × Bool) => e.2.1.tenant != some p }
    let s := ((s.dropWork p false).destroyKey p).endStreams p
    let s := ((s.heldSlots p).map (·.2)).foldl (fun s n => s.modSlot n Slot.scrub) s
    let s := (s.settleWays p).scrubUnits p |>.scrubObjects p
    let s := { s with errorLog := s.errorLog.clear p, violationLog := s.violationLog.clear p, refusalLog := s.refusalLog.clear p,
                      trace := { s.trace with regions := s.trace.regions.modify p fun r => { seq := r.seq, ringNext := r.seq, streamNext := r.seq } },
                      dict := s.dict.filter fun e => !s.tenantValue p e.1 }
    let s := s.modPower fun x => { x with plan := x.plan.filter fun (e : Nat × Nat × Nat) => e.1 != p, rings := x.rings.filter fun (e : Nat × Nat × Nat × Nat × Nat) => e.1 != p,
                                          view := x.view.set p [0, 0, 0] }
    let s := s.modPeer fun x => { x with counts := x.counts.set p (List.replicate 7 0) }
    let s := s.modPart p fun x => { state := if x.state = 0 then 0 else 1, map := x.map, mapGen := x.mapGen, resetGen := x.resetGen }
    (s.setObj 0 (0x3000 + 0x100 * p) 7 [0]).storeWcrt p

/-- TENANT_RELEASE: TRUE starts a scrub for the operator. -/
def commitTenantRelease : Commit := fun _ t v s => if ofBE v = 1 then s.beginScrub t.i 1 else s
/-- TENANT_SCRUB: TRUE starts a scrub for the tenant. -/
def commitTenantScrub : Commit := fun _ t v s => if ofBE v = 1 then s.beginScrub t.i 2 else s

/-- TENANT_RELEASE (R545). -/
def execTenantRelease (rq : Request) (s : State) : Host.Outcome State Fault Refusal :=
  settled s (s.ownWrite "TENANT_RELEASE" (fun _ _ _ s => (0, s)) commitTenantRelease false rq)

/-- TENANT_SCRUB (R545). -/
def execTenantScrub (rq : Request) (s : State) : Host.Outcome State Fault Refusal :=
  settled s (s.ownWrite "TENANT_SCRUB" (fun _ _ _ s => (0, s)) commitTenantScrub false rq)

/-- TENANT_SCRUB_DONE (R545): the defaults are programmed, and the partition is UNCLAIMED. -/
def execTenantScrubDone (p : Nat) (s : State) : Host.Outcome State Fault Refusal :=
  settled s (match s.sec.scrubbing.getD p none with
    | none => s
    | some origin =>
      let s := (s.modSec fun x => { x with scrubbing := x.scrubbing.set p none }).countSec 3
      s.logError 0x0C05 0xFF 0 ([byteOf p] ++ be 4 (s.epoch p) ++ [byteOf origin]))

end Sys2Proof.Machine
end

