-- ==== Sys2Proof/Machine/Start.lean ====
section
/-! DEFINITION. Starts, resets and the recovery from faults (19_startup_reset_and_ras.md, and R514, R518, R525, R598, R603). A
start is one command, given when it completes. -/

namespace Sys2Proof.Machine

/-- Changes the state of starts and recovery. -/
def State.modRas (f : Ras → Ras) (s : State) : State := { s with ras := f s.ras }
/-- Counts in RECOVERY_COUNTS: core retirements, slice retirements, microcontroller failovers, PLL failovers, repairs, ignored requests. -/
def State.countRas (i : Nat) (s : State) : State := s.modRas fun x => { x with counts := bump x.counts i }

/-! ### What both starts share -/

/-- Whether a stored value survives a start: SAVED and FUSE values and, at a warm start, what is held on the Tchirix die (R50). -/
def survivesStart (warm : Bool) (key : Nat) : Bool := match findRow (key / 256 % 65536) (key % 256) with
  | some r => r.per != .volatile || (warm && r.name == "POWER_ALARM")
  | none => false

/-- A slot as a start leaves it: scrubbed, its counts since the start 0. -/
def Slot.restart (x : Slot) : Slot :=
  { state := x.state, part := x.part, logical := x.logical, reason := x.reason, whenNs := x.whenNs, whenValid := x.whenValid, repairs := x.repairs,
    marked := x.marked }

/-- A DRAM group as a start leaves it. -/
def DramGroup.restart (x : DramGroup) : DramGroup := { spares := x.spares, failed := x.failed, state := x.state, marked := x.marked }

/-- The replacements in progress count as made in the saved core map. -/
def State.settleReplacing (s : State) : State :=
  let s := s.replacing.foldl (fun s r =>
    if (s.slot r.slot).state ≠ 1 then s
    else (s.modSlot r.slot fun x => { x with part := r.part, logical := r.logical }).modPart r.part fun x => { x with map := x.map.set r.logical (some r.slot) }) s
  { s with replacing := [] }

/-- The saved settings that take effect at a start (R27, R53, R103, R257, R349, R562). -/
def State.applySaved (s : State) : State :=
  let s := { s with accStreamKib := s.cfg 0x2010 1, streamBytes := s.cfg 0x2410 3 }
  let s := ((s.setObj 0 0x1310 2 (be 1 (s.cfg 0x1310 1))).setObj 0 0x1000 7 (be 4 (s.cfg 0x1000 6))).setObj 0 0x1000 8 (be 4 ((s.ras.images.headD {}).live).version)
  let s := s.modTiers fun t => { t with ways := (List.range 8).map fun p => s.area p 0x60 1 }
  let table := s.obj 0 0x2210 3
  s.startPeers.modAfe fun x => { x with table := table, tableGen := b01 (!table.isEmpty) }

/-- The partitions after a start: those whose PARTITION_RUN is TRUE run, where they can (R361, R568). -/
def State.runPartitions (s : State) : State :=
  let s := { s with parts := s.parts.zipIdx.map fun (e : Partition × Nat) =>
    let defined : Bool := s.area e.2 0 1 != 0
    { state := if defined then 1 else 0, map := if defined then e.1.map else [] } }
  (List.range 8).foldl (fun s p => (if s.area p 0 7 = 1 ∧ s.runCode p = 0 then s.takeCores p else s).storeWcrt p) s

/-- A start completes: NS112 takes over, and the part enters ATTEND, and ACTIVE where its floor is ACTIVE (R557, R559). -/
def State.finishStart (mics : List Nat) (s : State) : State :=
  let s := { s.toNs112 with serving := true, ascend := false }
  let s := (s.enter 4).retestMics mics
  let s := s.startArray.beginRow0
  let s := (List.range 8).foldl (fun s k => if s.camCfg k 2 = 1 then s.enableCam k true else s) s
  let s := (List.range 16).foldl (fun s k => s.liveFeed k) s
  let s := s.startTxAll.joinGroups.armAll
  let s := s.modRas fun x => { x with startNs := (s.nowNs : Int), cold := none, held := false, recovery := false, asked := none, deferred := none, timesKey := s.freeCount }
  { s with freeCount := s.freeCount + 1, ascend := s.effectiveFloor == 5 }.modPower fun x => { x with since := s.nowTicks }

/-! ### Cold starts (R554, R556, R557) -/

/-- An object as a cold start finds it: SEALED ones in flash, RETAINED (R534). -/
def Obj.retainFlash (o : Obj) : Option Obj :=
  if o.kind = 1 ∧ 3 ≤ o.state ∧ !o.deleting then some { o with state := 5, residence := 1, claims := [] } else none

/-- A cold reset: everything but SAVED values, flash, fuses and the core map is lost, and the part waits for its cold start. -/
def State.fall (reason : Nat) (s : State) : State :=
  let s := s.settleReplacing
  { State.reset with
    pending := s.pending, sent := s.sent, freeCount := s.freeCount, mode := 0, serving := false,
    dict := s.dict.filter fun e => survivesStart false e.1,
    time := { ns112 := 0, secns := 0, nsInForce := false },
    slots := s.slots.map Slot.restart, coreMapGen := s.coreMapGen,
    parts := s.parts.map fun (x : Partition) => { map := x.map },
    objects := s.objects.filterMap Obj.retainFlash, objGens := s.objGens,
    tiers := { groups := s.tiers.groups.map DramGroup.restart, erases := s.tiers.erases, badBlocks := s.tiers.badBlocks,
               flash := { s.tiers.flash.reload with reads := [], rewrite := [] } },
    sec := { scrubbing := s.sec.scrubbing, epochs := s.sec.epochs },
    afe := { epoch := s.afe.epoch, micFailed := s.afe.micFailed, array := { running := false }, arrayOwn := { running := false } },
    power := { tripped := s.power.tripped, counts := List.replicate 12 0 },
    ras := { s.ras with cold := some reason, held := false, holdMs := 0, recovery := false, asked := none, deferred := none, counts := List.replicate 6 0, staged := [] } }

/-- The root PLLs after their comparison: the first that is good is in use (R557, R569). -/
def pllStates (bad : List Nat) : List Nat :=
  if bad.contains 0 then [3, if bad.contains 1 then 3 else 1] else [1, if bad.contains 1 then 3 else 2]

/-- The microcontrollers after their self-test: the first four that pass take the duties, the fifth stands by (R568). -/
def mcuStates (bad : List Nat) : List (Nat × Nat) := (List.range 5).map fun k =>
  let before_ := ((List.range k).filter fun j => !bad.contains j).length
  if bad.contains k then (3, 7) else if before_ < 4 then (1, before_) else (2, 7)

/-- The slices after their tests: a slice that fails is served by slice 16, where that is free (R300). -/
def sliceStates (bad : List Nat) : List Nat :=
  let firstBad := (List.range 16).find? fun k => bad.contains k
  (List.range 17).map fun k =>
    if bad.contains k then 3 + 8 * 31
    else if k < 16 then 1 + 8 * k
    else match firstBad with
      | some l => 1 + 8 * l
      | none => 2 + 8 * 31

/-- The self-tests of the slots, and the ACTIVE set (R110, R111, R112). With no saved map the set is the 64 lowest-numbered good slots. -/
def State.testSlots (t : SelfTest) (s : State) : State :=
  let retest := s.cfg 0x1102 1 == 1 || !t.savedOk
  let bad := fun (n : Nat) => t.slots.contains n
  let lost := (List.range 72).filter fun n => (s.slot n).state == 1 && bad n
  let slots := s.slots.zipIdx.map fun (e : Slot × Nat) =>
    let x : Slot := { e.1 with repairs := e.1.repairs + e.1.marked.length, marked := [] }
    if x.state = 4 then x
    else if x.state = 3 ∧ !retest then x
    else if bad e.2 then { x with state := 3, reason := if x.state = 3 then x.reason else 1, part := 0xFF, logical := 0xFF, whenNs := s.nowNs, whenValid := false }
    else if x.state = 3 then { x with state := 2, reason := 0, whenNs := s.nowNs, whenValid := false }
    else x
  let changed : Bool := slots.zip s.slots |>.any fun e => e.1.state != e.2.state
  let s := { s with slots := slots }
  let s := if changed then s.mapChanged else s
  let s := { s with parts := s.parts.map fun (x : Partition) => { x with map := x.map.map fun (m : Option Nat) => match m with
    | some n => if bad n ∨ !t.savedOk then none else some n
    | none => none } }
  let count := fun (s : State) => ((List.range 72).filter fun n => (s.slot n).state == 1).length
  let activate := fun (n : Nat) (s : State) => (s.modSlot n fun x => { x with state := 1, part := 0xFF, logical := 0xFF, whenNs := s.nowNs, whenValid := false }).mapChanged
  if !t.savedOk then
    let good := (List.range 72).filter fun n => (s.slot n).state == 1 || (s.slot n).state == 2
    { s with slots := s.slots.zipIdx.map fun (e : Slot × Nat) =>
        if good.contains e.2 then { e.1 with state := if (good.take 64).contains e.2 then 1 else 2, part := 0xFF, logical := 0xFF } else e.1 }
  else
    let near := lost.foldl (fun s n => if 64 ≤ count s then s else match s.replacementOf n false with
      | some k => activate k s
      | none => s) s
    (List.range 72).foldl (fun s n => if count s < 64 ∧ (s.slot n).state = 2 then activate n s else s) near

/-- The bank of an image that a cold start can run: the one in force, else the other; with the refusals to record (R562). -/
def bankFor (t : SelfTest) (version k : Nat) (x : FwImage) : Option Nat × List (Nat × Nat) :=
  let why := fun (b : Nat) =>
    let bank := if b = 0 then x.a else x.b
    match t.banks.find? fun e => e.1 == k && e.2.1 == b with
    | some e => some e.2.2
    | none => if bank.secVersion < version then some 2 else none
  match why x.inForce with
  | none => (some x.inForce, [])
  | some r => match why (1 - x.inForce) with
    | none => (some (1 - x.inForce), [(x.inForce, r)])
    | some q => (none, [(x.inForce, r), (1 - x.inForce, q)])

/-- The firmware of a cold start: verified, the bank that runs named, refusals recorded. True where every image has a bank. -/
def State.loadFirmware (t : SelfTest) (s : State) : Bool × State :=
  let version := s.cfg 0x1B00 1
  (List.range 4).foldl (fun (a : Bool × State) k =>
    let x := a.2.ras.images.getD k {}
    let r := bankFor t version k x
    let s := r.2.foldl (fun (s : State) e => s.logError 0x0D09 0xFF 0 [byteOf k, byteOf e.1, byteOf e.2]) a.2
    match r.1 with
    | some b => (a.1, s.modRas fun y => { y with images := y.images.set k { x with inForce := b, running := b } })
    | none => (false, s)) (true, s)

/-- SAVED values take their defaults where neither copy is valid (R561). -/
def State.checkSaved (t : SelfTest) (s : State) : State :=
  if t.savedOk then s.modRas fun x => { x with defaultsUsed := false }
  else ({ s with dict := s.dict.filter fun e => match findRow (e.1 / 256 % 65536) (e.1 % 256) with
      | some r => r.per == Persist.fuse
      | none => false }.modRas fun x => { x with defaultsUsed := true, coldStarts := 0, warmStarts := 0 }).logError 0x0D0A 0xFF 0 []

/-- A cold start from its SRAM tests to its end (R557, R558). -/
def State.bringUp (t : SelfTest) (s : State) : State :=
  let reason := s.ras.cold.getD 0x0D01
  let s := { s with time := { s.time with secns := max s.time.secns (2800000000 * 2 ^ 32) } }
  let s := s.checkSaved t
  let s := s.modRas fun x => { x with mcus := mcuStates t.mcus, training := List.replicate 8 (t.tj, none, 1) }
  let s := (s.testSlots t).modTiers fun x => { x with slices := sliceStates t.slices, groups := x.groups.map fun (g : DramGroup) => { g with marked := [] } }
  let s := t.lanes.foldl (fun s e => s.spareLane e.1 e.2) s
  let f := s.loadFirmware t
  if !f.1 then f.2.modRas fun x => { x with recovery := true, reason := reason, kind := 1 }
  else
    let s := f.2.modAfe fun x => { x with atc := 68726784, epoch := x.epoch + 1, tcx := {}, spare := t.mics.contains 32, micFailed := x.micFailed.filter (· < 32) ++ t.mics }
    let s := (s.applySaved.setObj 0 0x1102 1 [0]).runPartitions
    let s := s.modRas fun x => { x with reason := reason, kind := 1, coldStarts := x.coldStarts + 1 }
    s.finishStart (List.range 32)

/-- COLD_START (R557): after supplies, or after a cold reset; without a good root PLL, and below the minimum temperature, it waits. -/
def execColdStart (t : SelfTest) (s : State) : Host.Outcome State Fault Refusal :=
  settled s (if s.power.tripped then s
    else
      let s := if s.ras.cold.isNone then s.fall 0x0D01 else s
      let s := s.modRas fun x => { x with plls := pllStates t.plls, recovery := false }
      if !s.ras.plls.contains 1 then s
      else if t.cold then s.modRas fun x => { x with held := true }
      else s.bringUp t)

/-- COLD_START_THERMAL_HOLD_END (R603): the minimum is reached, or 60 s have passed and each group trains below it. -/
def execColdStartThermalHoldEnd (ms : Nat) (t : SelfTest) (s : State) : Host.Outcome State Fault Refusal :=
  settled s (if !s.ras.held ∨ (t.cold ∧ ms < 60000) then s
    else
      let held := min ms 60000
      let s := { s.modRas fun x => { x with held := false, holdMs := held } with time := { s.time with secns := s.time.secns + held * 1000000 * 2 ^ 32 } }
      let s := { s with time := { s.time with secns := s.time.secns + 2800000000 * 2 ^ 32 } }.bringUp t
      if t.cold then (List.range 8).foldl (fun s g => s.logError 0x0D0B 0xFF 0 ([byteOf g] ++ be 2 (unsigned 16 t.tj) ++ be 2 (unsigned 16 t.tj))) s else s)

/-! ### Warm starts (R328, R555, R556, R559, R560) -/

/-- The training of a DRAM group is restored, or retrained from the saved settings (R560). -/
def State.retrainGroup (w : WarmTest) (g : Nat) (s : State) : State :=
  let old := (s.ras.training.getD g (0, none, 1))
  let now := if s.timeValid then some s.nowNs else none
  if w.drift.contains g then
    (s.modRas fun x => { x with training := x.training.set g (w.tj, now, 3) }).logError 0x0D0B 0xFF 0
      ([byteOf g] ++ be 2 (unsigned 16 old.1) ++ be 2 (unsigned 16 w.tj))
  else s.modRas fun x => { x with training := x.training.set g (old.1, old.2.1, 2) }

/-- What a warm start takes away and keeps (R554). -/
def State.warmDown (s : State) : State :=
  let s := (List.range 8).foldl (fun s p => (s.dropWork p false).zeroRings p) s.settleReplacing
  let s := (s.objects.filter fun o => o.deleting).foldl (fun s o => s.finishDelete o.owner o.index) s
  let s := if s.time.nsInForce then s.toSecns false else s
  let t := s.time
  let a := s.afe
  let asleep : Bool := decide (s.mode < 2)
  { State.reset with
    pending := s.pending, sent := s.sent, freeCount := s.freeCount, mode := s.mode, serving := false,
    dict := s.dict.filter fun e => survivesStart true e.1,
    time := { t with counts := List.replicate 12 0, triggers := List.replicate 16 {}, captures := List.replicate 16 {} },
    slots := s.slots.map Slot.restart, coreMapGen := s.coreMapGen, parts := s.parts,
    objects := s.objects.map Obj.retain, objGens := s.objGens,
    tiers := { slices := s.tiers.slices, groups := s.tiers.groups.map DramGroup.restart, hot := s.tiers.hot, erases := s.tiers.erases, badBlocks := s.tiers.badBlocks,
               flash := s.tiers.flash, erasing := s.tiers.erasing, windowOpen := s.tiers.windowOpen, windowAtNs := s.tiers.windowAtNs },
    sec := { scrubbing := s.sec.scrubbing, epochs := s.sec.epochs },
    afe := { atc := if asleep then 0 else a.atc, phase := a.phase, epoch := if asleep then a.epoch + 1 else a.epoch, spare := a.spare, micFailed := a.micFailed,
             array := { running := false }, arrayOwn := { running := false }, tcx := if asleep then { s0 := 0 } else a.tcx,
             preroll := if asleep then {} else a.preroll, gaps := if asleep then [] else a.gaps, wakes := a.wakes, wakeSeq := a.wakeSeq },
    power := { counts := s.power.counts }, cascade := { wakeCounts := s.cascade.wakeCounts }, ras := s.ras }

/-- A warm start (R559). A check of the system region that fails makes it a cold one. -/
def State.warmStart (reason : Nat) (w : WarmTest) (s : State) : State :=
  if w.lost then s.fall 0x0D06
  else
    let swap : Bool := s.ras.images.any fun x => x.inForce != x.running
    let s := s.warmDown
    let s := s.reach (s.nowTicks + (if swap then 180000000 else 140000000) * 2 ^ 32)
    let s := s.modAfe fun x => { x with atc := x.atc + (if swap then 4423680 else 3440640) }
    let s := s.modRas fun x => { x with images := x.images.map fun (i : FwImage) => { i with running := i.inForce }, reason := reason, kind := 2, warmStarts := x.warmStarts + 1, holdMs := 0 }
    let s := (List.range 8).foldl (fun s g => s.retrainGroup w g) s
    (s.applySaved.runPartitions).finishStart w.mics

/-- A warm or a cold reset is asked for (R555): it waits for a brace and, a warm one, for a flash program; one that meets a start in
progress is ignored, and a warm one counted. -/
def State.requestReset (reason : Nat) (cold : Bool) (w : WarmTest) (s : State) : State :=
  if s.ras.cold.isSome then (if cold then s else s.countRas 5)
  else if s.power.braced ∨ (!cold && w.programming) then
    s.modRas fun x => { x with deferred := match x.deferred with
      | some (r, true) => some (r, true)
      | _ => some (reason, cold) }
  else if cold then s.fall reason else s.warmStart reason w

/-- A write of TRUE asks for a reset; the answer goes out first. -/
def State.writeReset (name : String) (reason : Nat) (cold : Bool) (rq : Request) (w : WarmTest) (s : State) : State :=
  let s := s.ownWrite name (fun _ _ _ s => (0, s)) (fun _ _ v s => if ofBE v = 1 then s.modRas fun x => { x with asked := some (reason, cold) } else s) false rq
  match s.ras.asked with
  | some (r, c) => (s.modRas fun x => { x with asked := none }).requestReset r c w
  | none => s

/-- WARM_RESET (R555, R559). -/
def execWarmReset (rq : Request) (w : WarmTest) (s : State) : Host.Outcome State Fault Refusal := settled s (s.writeReset "WARM_RESET" 0x0D03 false rq w)

/-- COLD_RESET (R555, R557). -/
def execColdReset (rq : Request) (s : State) : Host.Outcome State Fault Refusal := settled s (s.writeReset "COLD_RESET" 0x0D02 true rq {})

/-- WARM_RESET_DEFERRED (R555): the brace or the flash program that a reset waits for has ended. -/
def execWarmResetDeferred (w : WarmTest) (s : State) : Host.Outcome State Fault Refusal :=
  settled s (match s.ras.deferred with
    | none => s
    | some (r, cold) => if s.power.braced ∨ (!cold && w.programming) then s
        else let s := s.modRas fun x => { x with deferred := none }; if cold then s.fall r else s.warmStart r w)

/-! ### The reset pin, the supplies and the temperature (R514, R518, R525, R598) -/

/-- SYS_RESET_N_FALLING_EDGE (R598): the timer starts and, in HIBERNATE, REFCLK. -/
def execSysResetNFallingEdge (s : State) : Host.Outcome State Fault Refusal :=
  settled s (s.modRas fun x => { x with pinLow := true, refclk := x.refclk || s.mode == 1 })

/-- SYS_RESET_N rises after a low (R554, R598), which the timer measures to within ±5 %. -/
def execSysResetN (lowNs : Nat) (w : WarmTest) (s : State) : Host.Outcome State Fault Refusal :=
  settled s (
    let r := s.free
    let measured := lowNs * (950000 + r.1 % 100001) / 1000000
    let s := r.2.modRas fun x => { x with pinLow := false, refclk := false }
    if measured < 1000 then s
    else if measured ≤ 10000000 then s.requestReset 0x0D05 false w
    else if s.ras.cold.isSome then s else s.fall 0x0D04)

/-- VAON_RESET (R518): VAON has fallen below 1.50 V. -/
def execVaonReset (s : State) : Host.Outcome State Fault Refusal := settled s (s.fall 0x0B0F)

/-- AON_BROWNOUT (R514): the always-on rail has stayed below 0.72 V for 2 µs. -/
def execAonBrownout (s : State) : Host.Outcome State Fault Refusal := settled s (s.fall 0x0B0E)

/-- THERMAL_TRIP (R525): a sensor, and its reading in 0.1 °C. -/
def execThermalTrip (sensor : Nat) (tj : Int) (s : State) : Host.Outcome State Fault Refusal :=
  settled s (if tj < 1150 ∨ 28 < sensor then s else (s.fall 0x0B0D).modPower fun x => { x with tripped := true })

/-- THERMAL_TRIP_RELEASE (R525): the highest reading; the cold start follows. -/
def execThermalTripRelease (highest : Int) (s : State) : Host.Outcome State Fault Refusal :=
  settled s (if s.power.tripped ∧ highest < 950 then s.modPower fun x => { x with tripped := false } else s)

/-! ### Single faults (R566 to R572) -/

/-- MCU_FAILURE (R568): the spare takes the duty, or, with none left, a warm start follows. -/
def execMcuFailure (mcu : Nat) (w : WarmTest) (s : State) : Host.Outcome State Fault Refusal :=
  settled s (
    let x := s.ras.mcus.getD mcu (3, 7)
    if s.mode < 4 ∨ x.1 = 3 then s
    else
      let s := s.modRas fun y => { y with mcus := y.mcus.set mcu (3, 7) }
      if x.1 = 2 then s
      else match s.ras.mcus.findIdx? fun e => e.1 == 2 with
        | some k => ((s.modRas fun y => { y with mcus := y.mcus.set k (1, x.2) }).countRas 2).logError 0x0D0C 0xFF 0 [byteOf mcu, byteOf x.2]
        | none => s.requestReset 0x0D07 false w)

/-- The transfers of every stream prefetcher fail with CLOCK_FAULT (R569). -/
def State.clockPrefetchers (s : State) : State :=
  (List.range 72).foldl (fun s n => ((s.slot n).prefetchers.filterMap id).foldl (fun s f => s.stopFlight f.part f.ctx 0x0D0E f.core f.stroke)
    (s.modSlot n fun x => { x with prefetchers := x.prefetchers.map fun _ => none })) s

/-- Every stroke and transfer in flight fails with CLOCK_FAULT (R569). -/
def State.clockFault (s : State) : State :=
  let s := (List.range 8).foldl (fun s p => (s.part p).running.foldl (fun s r =>
    let s := (s.modPart p fun x => { x with running := x.running.erase r }).tearAll r.writes
    s.stopFlight p r.ctx 0x0D0E r.core r.stroke) s) s
  s.clockPrefetchers.modPeer fun q => { q with colls := [] }

/-- PLL_FAILURE (R569): the standby PLL takes over; NS112 has gained or lost at most 163 ns. With no standby, a cold start follows. -/
def execPllFailure (s : State) : Host.Outcome State Fault Refusal :=
  settled s (if s.mode < 4 then s
    else match s.ras.plls.findIdx? (· == 1) with
    | none => s
    | some i =>
      let s := s.modRas fun x => { x with plls := x.plls.set i 3 }
      if s.ras.plls.getD (1 - i) 3 ≠ 2 then s.fall 0x0D08
      else
        let s := ((s.modRas fun x => { x with plls := x.plls.set (1 - i) 1 }).countRas 3).clockFault
        let r := s.free
        let slip := r.1 % (326 * 2 ^ 32 + 1)
        ({ r.2 with time := { r.2.time with ns112 := r.2.time.ns112 + slip - 163 * 2 ^ 32 } }).logError 0x0D0D 0xFF 0 [])

/-- STANDBY_PLL_FAILURE (R569). -/
def execStandbyPllFailure (s : State) : Host.Outcome State Fault Refusal :=
  settled s (if s.mode < 4 then s else s.modRas fun x => { x with plls := x.plls.map fun k => if k = 2 then 3 else k })

/-- SYSTEM_DATA_UNCORRECTABLE (R570): 0 the FTL map, 1 a firmware image, 2 the object directory with the objects that the line describes,
3 what cannot be rebuilt. -/
def execSystemDataUncorrectable (kind addr : Nat) (handles : List Nat) (w : WarmTest) (s : State) : Host.Outcome State Fault Refusal :=
  settled s (
    let repaired := fun (s : State) => (s.countRas 4).logError 0x0D0F 0xFF 0 ([byteOf kind] ++ be 8 addr)
    if s.mode < 4 then s
    else match kind with
    | 0 => repaired ((s.modTiers fun t => { t with windowOpen := false }).modFlash Flash.reload)
    | 1 => repaired s
    | 2 => handles.foldl (fun s h => match s.objOf h with
        | some o => s.damage o 0x0207
        | none => s) s
    | _ => s.requestReset 0x0D06 false w)

/-- MESH_ROUTER_MISMATCH (R571, R334): the transfers whose flits were in the router, as partition, context, core and stroke, fail. -/
def execMeshRouterMismatch (router port : Nat) (hit : List (Nat × Nat × Nat × Nat)) (s : State) : Host.Outcome State Fault Refusal :=
  settled s (if s.mode < 4 then s
    else
      let s := (s.modPeer fun q => { q with meshErrors := bumpBy q.meshErrors 1 hit.length }).logError 0x0301 0xFF 0 [byteOf router, byteOf port]
      hit.foldl (fun s e =>
        let (p, c, core, stroke) := e
        match s.runningAt p c core stroke with
        | none => s
        | some r =>
          let s := (s.modPart p fun x => { x with running := x.running.erase r }).tearAll r.writes
          let s := s.modPeer fun q => { q with colls := q.colls.filter fun x => !(x.p == p && x.c == c && x.core == core && x.stroke == stroke) }
          s.stopFlight p c 0x0301 core stroke) s)

/-- DEVICE_STATE (R110, R563, R566): 1 STARTING, 2 SERVICE, 3 DEGRADED, 4 RESETTING. -/
def State.deviceState (s : State) : Nat :=
  let slots := s.slots.any (fun x => x.state == 3) || decide ((s.slots.filter fun x => x.state == 1).length < 64)
  let slices := s.tiers.slices.any (fun v => v % 8 == 3) || s.tiers.slices.getD 16 2 % 8 == 1
  let parts := s.ras.mcus.any (fun e => e.1 == 3) || s.ras.plls.any (· == 3) || s.afe.spare
  let lanes := s.peer.ports.any fun p => (p.laneStates.getD 4 60) % 8 == 1 || p.laneStates.any fun v => v % 8 == 3
  let groups := s.tiers.groups.any fun g => g.state != 1
  if s.ras.cold.isSome then 1 else if s.ras.deferred.isSome then 4 else if slots || slices || parts || lanes || groups then 3 else 2

/-! ### Firmware (R562 to R564) -/

/-- The most bytes an image has. -/
def imageLimit : Nat → Nat
  | 0 => 16777216 | 1 => 524288 | 2 => 4194304 | _ => 524288

/-- FIRMWARE_STAGE's own checks (R564): the image's signature and its security version. -/
def checkFirmwareStage : Check := fun _ _ v s =>
  let i := Config.firmware v
  let k := i.1 % 4
  let bank := 1 - (s.ras.images.getD k {}).inForce
  let reject := fun (why : Nat) => (0x0E0A, s.logError 0x0D09 0xFF 0 [byteOf k, byteOf bank, byteOf why])
  if !i.2.2.2 ∨ imageLimit k < v.length then reject 1
  else if i.2.2.1 % 256 < s.cfg 0x1B00 1 then reject 2 else (0, s)

/-- FIRMWARE_STAGE: the image goes into the bank not in force. In the recovery dictionary it is committed, and a cold start follows (R563). -/
def commitFirmwareStage : Commit := fun _ _ v s =>
  let i := Config.firmware v
  let k := i.1 % 4
  let bank : Bank := { version := i.2.1 % 2 ^ 32, secVersion := i.2.2.1 % 256, digest := some (Config.sha384 v) }
  s.modRas fun x =>
    let im := x.images.getD k {}
    let im := if im.inForce = 0 then { im with b := bank } else { im with a := bank }
    if x.recovery then { x with images := x.images.set k { im with inForce := 1 - im.inForce }, recovery := false }
    else { x with images := x.images.set k im, staged := k :: x.staged.filter (· != k) }

/-- FIRMWARE_STAGE (R564). -/
def execFirmwareStage (rq : Request) (s : State) : Host.Outcome State Fault Refusal :=
  settled s (s.ownWrite "FIRMWARE_STAGE" checkFirmwareStage commitFirmwareStage true rq)

/-- FIRMWARE_COMMIT: the staged banks are named in force for the next start. -/
def commitFirmwareCommit : Commit := fun _ _ v s =>
  if ofBE v = 0 then s
  else s.modRas fun x => { x with staged := [], images := x.images.zipIdx.map fun (e : FwImage × Nat) => if x.staged.contains e.2 then { e.1 with inForce := 1 - e.1.inForce } else e.1 }

/-- FIRMWARE_COMMIT's own check: something is staged. -/
def checkFirmwareCommit : Check := fun _ _ v s => (if ofBE v = 1 ∧ s.ras.staged = [] then 0x0E15 else 0, s)

/-- FIRMWARE_COMMIT (R564). -/
def execFirmwareCommit (rq : Request) (s : State) : Host.Outcome State Fault Refusal :=
  settled s (s.ownWrite "FIRMWARE_COMMIT" checkFirmwareCommit commitFirmwareCommit false rq)

end Sys2Proof.Machine
end

