-- ==== Sys2Proof/Machine/Trace.lean ====
section
/-! DEFINITION. The trace hub's export paths and the debug port (20_trace_and_counters.md). Capturing is in Ops. -/

namespace Sys2Proof.Machine

/-- Changes the trace hub. -/
def State.modTrace (f : TraceHub → TraceHub) (s : State) : State := { s with trace := f s.trace }
/-- Changes a region. -/
def State.modRegion (r : Nat) (f : TraceRegion → TraceRegion) (s : State) : State := s.modTrace fun x => { x with regions := x.regions.modify r f }
/-- A region. -/
def State.region (s : State) (r : Nat) : TraceRegion := s.trace.regions.getD r {}

/-! ### Trace rings (R581) -/

/-- The ring bound to a partition, while its object stands. -/
def State.traceRing (s : State) (p : Nat) : Option Obj := if s.area p 0x70 3 = 0 then none else s.objOf (s.area p 0x70 3)

/-- TRACE_RING's own check: a WORKING object of the partition of 4,096 bytes or more, or 0. -/
def checkTraceRing : Check := fun _ t v s =>
  let h := ofBE v
  let ok : Bool := match s.objOf h with
    | some o => o.owner == t.i && o.kind == 2 && decide (4096 ≤ o.size)
    | none => h == 0
  (if ok then 0 else 0x0E0A, s)

/-- TRACE_RING (R581). -/
def execTraceRing (rq : Request) (s : State) : Host.Outcome State Fault Refusal :=
  settled s (s.ownWrite "TRACE_RING" checkTraceRing commitStore false rq)

/-- A record as a drain gives it out: LOST_BEFORE is set where records between it and the one that the drain expected have been
dropped (R578). -/
def drained (next : Nat) (e : Nat × Bytes × Bool) : Bytes :=
  if next < e.1 then (e.2.1.take 10) ++ [byteOf ((e.2.1.getD 10 0).toNat ||| 1)] ++ e.2.1.drop 11 else e.2.1

/-- A record goes into a ring: the record first, then PRODUCER. -/
def Obj.ringPut (rec_ : Bytes) (o : Obj) : Obj :=
  let n := (o.size - 64) / 32
  let i := o.u 0 8
  { o with content := memWrite o.content (64 + 32 * (i % n)) rec_ }.setU 0 8 ((i + 1) % 2 ^ 64)

/-- Whether a ring has no room. -/
def Obj.ringFull (o : Obj) : Bool := decide ((o.size - 64) / 32 ≤ (o.u 0 8 + 2 ^ 64 - o.u 8 8) % 2 ^ 64)

/-- The records of a region that a ring takes: until it is full; those without consent are passed over (R580). -/
def fillRing : List (Nat × Bytes × Bool) → Nat → Obj → Nat × Obj
  | [], next, o => (next, o)
  | e :: rest, next, o =>
    if e.1 < next then fillRing rest next o
    else if !e.2.2 then fillRing rest (e.1 + 1) o
    else if o.ringFull then (next, o)
    else fillRing rest (e.1 + 1) (o.ringPut (drained next e))

/-- The DRAM ring of a partition takes what it can. -/
def State.drainRing (p : Nat) (s : State) : State :=
  match s.traceRing p with
  | none => s
  | some o =>
    let x := s.region p
    let r := fillRing x.recs x.ringNext o
    (s.modObj o.owner o.index fun _ => r.2).modRegion p fun y => { y with ringNext := r.1 }

/-! ### The management stream (R580, R582) -/

/-- The subscriptions to TRACE_STREAM. -/
def State.traceSubs (s : State) : List Subscription := s.svc.subs.filter fun e => e.index == 0x1C10

/-- Whether a region goes to the management stream. -/
def State.streams? (s : State) (r : Nat) : Bool := (s.cfg 0x1C00 2).testBit r && !s.traceSubs.isEmpty

/-- The records of a region that a reader may have from a SEQ, with their SEQ, in order. -/
def exportFrom : List (Nat × Bytes × Bool) → Nat → List (Nat × Bytes)
  | [], _ => []
  | e :: rest, next =>
    if e.1 < next then exportFrom rest next
    else if e.2.2 then (e.1, drained next e) :: exportFrom rest (e.1 + 1)
    else exportFrom rest (e.1 + 1)

/-- What a region has for the stream, in SEQ order. -/
def State.forStream (s : State) (r : Nat) : List Bytes :=
  if s.streams? r then (exportFrom (s.region r).recs (s.region r).streamNext).map (·.2) else []

/-- The stream takes every record that may go, the regions in turn, one record at a time, while each subscription has room. -/
def State.drainStream (s : State) : State :=
  if s.traceSubs.isEmpty ∨ s.traceSubs.any fun e => decide (16 ≤ e.unanswered.length) then s
  else
    let lists := (List.range 9).map s.forStream
    let most := (lists.map List.length).foldl max 0
    let out := (List.range most).flatMap fun i => lists.flatMap fun l => (l[i]?).getD []
    let s := (List.range 9).foldl (fun s r => if s.streams? r then s.modRegion r fun x => { x with streamNext := x.seq } else s) s
    if out = [] then s else s.streamAppend 0 0x1C10 1 out

/-! ### Draining (R577) -/

/-- Records that every enabled drain of a region has taken leave it; with no drain enabled they stay until their space is needed. -/
def State.releaseRecords (r : Nat) (s : State) : State :=
  let x := s.region r
  let ring : Bool := decide (r < 8) && (s.traceRing r).isSome
  let stream := s.streams? r
  if !ring && !stream then s
  else
    let upTo := if ring && stream then min x.ringNext x.streamNext else if ring then x.ringNext else x.streamNext
    s.modRegion r fun y => { y with recs := y.recs.filter fun e => decide (upTo ≤ e.1) }

/-- Every enabled drain runs. -/
def State.drainTrace (s : State) : State :=
  if s.mode < 4 then s
  else
    let s := ((List.range 8).foldl (fun s p => s.drainRing p) s).drainStream
    (List.range 9).foldl (fun s r => s.releaseRecords r) s

/-! ### LOAD records -/

/-- The slots that a mode powers (R499). -/
def State.poweredSlots (s : State) : List Nat :=
  if s.mode = 5 then (List.range 72).filter fun n => (s.slot n).state == 1 else if s.mode = 4 then s.chimeSlots else []

/-- TRACE_LOAD_SAMPLE (R579): VDD_CORE in mV, the hottest sensor in 0.1 °C and the estimate of the power in mW. -/
def execTraceLoadSample (vddMv : Nat) (tj : Int) (mw : Nat) (s : State) : Host.Outcome State Fault Refusal :=
  settled s (if s.mode < 4 then s
    else s.capture 8 0x24 ([byteOf s.poweredSlots.length, 0] ++ le 2 vddMv ++ le 2 (unsigned 16 tj) ++ [0, 0] ++ le 4 mw))

/-! ### The TAP (R583, R584) -/

/-- IDCODE (R584). -/
def idcode : Nat := bits (ofBE (fuseBytes 0x1000 4 2)) 11 8 * 2 ^ 28 + 0x8640 * 2 ^ 12 + 0x6B3 * 2 + 1

/-- JTAG_IDCODE (R584): the instruction, and Capture-DR. -/
def execJtagIdcode (s : State) : Host.Outcome State Fault Refusal :=
  settled s (if s.mode < 4 then s else s.modTrace fun x => { x with ir := 1, jtagData := idcode })

/-- JTAG_TRACE_REGION (R583): Update-DR sets the reader to the oldest record that the region holds. -/
def execJtagTraceRegion (region : Nat) (s : State) : Host.Outcome State Fault Refusal :=
  settled s (if s.mode < 4 ∨ 8 < region then s
    else s.modTrace fun x => { x with ir := 0x1C, jtagRegion := region, jtagNext := match (s.region region).recs with
      | e :: _ => e.1
      | [] => (s.region region).seq })

/-- The record that the reader reads next: the first it has not read whose export was consented to. -/
def State.jtagRecord (s : State) : Option (Nat × Bytes) :=
  let r := s.trace.jtagRegion
  if s.cfg 0x1C00 3 = 0 ∨ (r < 8 ∧ (s.area r 0x50 2 = 0 ∨ s.scrubbing r)) then none
  else (exportFrom (s.region r).recs s.trace.jtagNext).head?

/-- JTAG_TRACE_READ (R583): Capture-DR copies the next record, with VALID, or zeros. -/
def execJtagTraceRead (s : State) : Host.Outcome State Fault Refusal :=
  settled s (if s.mode < 4 then s
    else match s.jtagRecord with
    | none => s.modTrace fun x => { x with ir := 0x1D, jtagData := 0 }
    | some e => s.modTrace fun x => { x with ir := 0x1D, jtagNext := e.1 + 1, jtagData := 2 ^ 256 + ofLE e.2 })

/-- JTAG_BYPASS (R583): every other instruction code selects the one-bit register, which Capture-DR clears. -/
def execJtagBypass (code : Nat) (s : State) : Host.Outcome State Fault Refusal :=
  settled s (if s.mode < 4 ∨ code = 1 ∨ code = 0x1C ∨ code = 0x1D then s else s.modTrace fun x => { x with ir := code % 256, jtagData := 0 })

end Sys2Proof.Machine
end

