-- ==== Sys2Proof/Machine/Values.lean ====
section
/-! DEFINITION. What each object reads as: the objects that report what is in force, and for the others what was last written or
their default (R43 to R53, R80 to R82, R587, and the object tables of every chapter). -/

namespace Sys2Proof.Machine

/-- How an object's value is found. A few hold what the spec leaves open, and take a free value. -/
abbrev Value := Who → Target → State → Bytes × State

/-- A value that the state determines. -/
def reads (f : Target → State → Bytes) : Value := fun _ t s => (f t s, s)
/-- A free value of `n` bytes. -/
def freeValue (n : Nat) : Value := fun _ _ s => s.freeBytes n
/-- A value that the reader's view of the logs determines. -/
def readsFor (f : Who → State → Bytes) : Value := fun w _ s => (f w s, s)

/-- U64 members. -/
def u64s (l : List Nat) : Bytes := l.flatMap (be 8)
/-- U32 members. -/
def u32s (l : List Nat) : Bytes := l.flatMap (be 4)

/-! ### Logs (R80 to R82) -/

/-- The records of a log in a view, oldest first. -/
def Log.read (l : Log) (view : Option Nat) : Bytes := match view with
  | none => []
  | some v => ((l.recs.filter fun r => viewOf r.scope == v).reverse).flatMap LogRec.bytes

/-- COUNT of a view. -/
def Log.countOf (l : Log) (view : Option Nat) : Bytes := be 4 ((view.map fun v => l.count.getD v 0).getD 0)
/-- LOST of a view. -/
def Log.lostOf (l : Log) (view : Option Nat) : Bytes := be 4 ((view.map fun v => l.lost.getD v 0).getD 0)

/-! ### Catalogues (R46, 0x1000.0B, 0x1240.01) -/

/-- The access class of a row, as the catalogue writes it. -/
def accessCode : Acc → Nat
  | .pub => 0 | .operator => 2 | .management => 3 | _ => 1

/-- The persistence of a row, as the catalogue writes it. -/
def persistCode : Persist → Nat
  | .volatile => 0 | .saved => 1 | .fuse => 2

/-- The catalogue's entries of a row, with the place each has in the order. -/
def catalogueOf (r : ObjRow) : List (Nat × Bytes) :=
  let def_ := if r.ty = 15 then definitionIndex (recordRows.findIdx (· == r)) else 0
  (List.range r.insts).flatMap fun i => (List.range r.insts2).flatMap fun j => (List.range r.subs).map fun k =>
    let idx := r.base + i * r.stride + j * r.stride2
    (idx * 256 + r.sub + k,
      be 2 idx ++ [byteOf (r.sub + k), byteOf r.ty] ++ be 2 def_ ++ [byteOf (accessCode r.acc), byteOf (persistCode r.per), byteOf (b01 r.wr)] ++
      be 4 (r.size?.getD r.maxLen) ++ [byteOf r.name.length] ++ nameBytes r.name)

/-- OBJECT_CATALOGUE: every object, in index order. -/
def objectCatalogue : Bytes := ((objRows.flatMap catalogueOf).mergeSort fun a b => decide (a.1 ≤ b.1)).flatMap (·.2)

/-- STATUS_CATALOGUE. -/
def statusCatalogue : Bytes := statusCodes.flatMap fun e => be 2 e.1 ++ [byteOf e.2.length] ++ nameBytes e.2

/-! ### Identity and service -/

/-- DEVICE_CERT_CHAIN: four certificates, each after its length (R528); the part holds them from manufacture. -/
def certChain : Bytes := (List.range 4).flatMap fun k =>
  let n := ofBE (fuseBytes 0x1000 (0x80 + 2 * k) 2)
  be 4 n ++ fuseBytes 0x1000 (0x81 + 2 * k) n

/-- The objects of this chapter's tables. -/
def valuesDict : List (String × Value) := [
  ("PART_NUMBER", reads fun _ _ => nameBytes (if ofBE (fuseBytes 0x1000 3 1) % 2 = 1 then "VZ8640-E" else "VZ8640-C")),
  ("GRADE", reads fun _ _ => be 1 (ofBE (fuseBytes 0x1000 3 1) % 2)),
  ("DEVICE_CERT_CHAIN", reads fun _ _ => certChain),
  ("OBJECT_CATALOGUE", reads fun _ _ => objectCatalogue),
  ("STATUS_CATALOGUE", reads fun _ _ => statusCatalogue),
  ("ERROR_COUNT", readsFor fun w s => s.errorLog.countOf w.view),
  ("ERROR_LOG", readsFor fun w s => s.errorLog.read w.view),
  ("ERROR_LOST", readsFor fun w s => s.errorLog.lostOf w.view),
  ("VIOLATION_COUNT", readsFor fun w s => s.violationLog.countOf w.view),
  ("VIOLATION_LOG", readsFor fun w s => s.violationLog.read w.view),
  ("VIOLATION_LOST", readsFor fun w s => s.violationLog.lostOf w.view),
  ("VIOLATION_BY_PARTITION", reads fun _ s => u32s (s.violationLog.total.take 8)),
  ("REFUSAL_COUNT", readsFor fun w s => s.refusalLog.countOf w.view),
  ("REFUSAL_LOG", readsFor fun w s => s.refusalLog.read w.view),
  ("REFUSAL_LOST", readsFor fun w s => s.refusalLog.lostOf w.view),
  ("ERROR_CLEAR", reads fun _ _ => [0]),
  ("VIOLATION_CLEAR", reads fun _ _ => [0]),
  ("REFUSAL_CLEAR", reads fun _ _ => [0]),
  ("DEVICE_STATE", reads fun _ s => be 1 s.deviceState),
  ("POWER_MODE", reads fun _ s => be 1 s.mode),
  ("TIME_VALID", reads fun _ s => be 1 (b01 s.timeValid)),
  ("SINCE_START", reads fun _ s => time96 ((s.nowNs : Int) - s.ras.startNs).toNat true),
  ("ONNUM_COUNTS", reads fun _ s => u64s s.svc.counts),
  ("ONNUM_LATENCY", reads fun _ s => u32s s.svc.latency)]

/-- The objects of the cascade. -/
def valuesCascade : List (String × Value) := [
  ("WAKE_COUNTS", reads fun _ s => u32s s.cascade.wakeCounts),
  ("GONG_CLIENT_KEY", reads fun t s => match s.cascade.clientKey.getD t.p none with
    | some k => publicBytes k
    | none => List.replicate 97 0)]

/-! ### The core map and the floor plan (03, 10, 11, 13, 19) -/

/-- A slot's core-map record. -/
def Slot.record (x : Slot) : Bytes :=
  [byteOf x.state, byteOf x.part, byteOf x.logical, byteOf x.reason] ++ time96 x.whenNs x.whenValid ++ be 2 x.repairs ++ be 4 x.ceCount

/-- The number of slots in a state. -/
def State.slotsIn (s : State) (state : Nat) : Nat := s.slots.countP fun x => x.state == state

/-- An entry of LOGICAL_MAP or PARTITION_MAP. -/
def State.mapEntry (s : State) (p l : Nat) : Nat := (s.slotOf p l).getD 0xFF

/-- MIC_INPUT_STATE of an input (13): 1 ACTIVE, 2 SPARE, 3 FAILED, 4 DISABLED, 5 OFF; bit 3 marks the Tchirix input in use. -/
def State.micState (s : State) (k : Nat) : Nat :=
  let failed := s.afe.micFailed.contains k
  if k < 32 then
    if failed then 3 else if !(s.cfg 0x2200 2).testBit k then 4 else if s.afe.array.running then 1 else 5
  else
    let inUse := (k == 33) == s.afe.spare
    (if failed then 3 else if inUse then (if 2 ≤ s.mode then 1 else 5) else 2) + 8 * b01 inUse

/-- The domains that are on (R499). -/
def State.domainOn (s : State) (d : Nat) : Bool :=
  if d = 112 then decide (1 ≤ s.mode)
  else if d = 113 ∨ d = 114 then decide (2 ≤ s.mode)
  else if d = 111 then decide (3 ≤ s.mode)
  else if s.mode < 4 then false
  else if d < 72 then s.poweredSlots.contains d
  else if d < 89 then s.tiers.slices.getD (d - 72) 0 % 8 == 1
  else if 99 ≤ d ∧ d ≤ 102 then s.mode == 5 && (s.port (d - 99)).state != 8
  else if d = 104 then s.net.pcieUp
  else decide (d < 116)

/-- CORECLK in force (R10). -/
def State.coreclkKhz (s : State) : Nat := if s.poweredSlots = [] then 0 else if s.halfRate then 819200 else 1638400

/-- Whether an OPERATOR may see the counts of a partition's resources (R587). -/
def State.consents (s : State) (p : Nat) : Bool := decide (8 ≤ p) || s.area p 0x50 2 == 1

/-- SLOT_COUNTS: the counts of a slot held by a partition without consent read 0, but for corrected errors. -/
def State.slotCounts (s : State) (n : Nat) : Bytes :=
  let x := s.slot n
  u64s (if s.consents x.part then x.counts else List.replicate 5 0 ++ [x.counts.getD 5 0])

/-- SAT_LAYER_STATS of a context: its layers in order. -/
def satStats (l : List LayerStat) : Bytes := l.flatMap fun e =>
  be 2 e.layer ++ be 2 e.lastCode ++ be 8 e.elements ++ be 8 e.saturated ++ u32s [e.watches, e.trips, e.reruns, e.tripsNot] ++ [byteOf e.lastReason] ++ List.replicate 11 0

/-- The objects of the array. -/
def valuesArray : List (String × Value) := [
  ("SLOTS_ACTIVE", reads fun _ s => be 1 (s.slotsIn 1)),
  ("SLOTS_STANDBY", reads fun _ s => be 1 (s.slotsIn 2)),
  ("SLOTS_RETIRED", reads fun _ s => be 1 (s.slotsIn 3)),
  ("SLOTS_ABSENT", reads fun _ s => be 1 (s.slotsIn 4)),
  ("CORE_MAP_GENERATION", reads fun _ s => be 4 s.coreMapGen),
  ("SLOT_STATE", reads fun t s => (s.slot (t.sub - 1)).record),
  ("LOGICAL_MAP", reads fun t s => be 1 (s.mapEntry t.p (t.sub - 1))),
  ("LOGICAL_MAP_GENERATION", reads fun t s => be 4 (s.part t.p).mapGen),
  ("PARTITION_MAP", reads fun t s => be 1 (s.mapEntry t.i (t.sub - 1))),
  ("SLICE_STATE", reads fun t s => be 1 (s.tiers.slices.getD (t.sub - 1) 0)),
  ("DRAM_GROUP_STATE", reads fun t s =>
    let g := s.tiers.groups.getD (t.sub - 1) {}
    be 1 (g.spares.countP (· != 0xFF) + 16 * g.state)),
  ("PEER_LANE_STATE", reads fun t s => be 1 ((s.port ((t.sub - 1) / 5)).laneStates.getD ((t.sub - 1) % 5) 0)),
  ("MIC_INPUT_STATE", reads fun t s => be 1 (s.micState (t.sub - 1))),
  ("CONTROL_MCU_STATE", reads fun t s => let m := s.ras.mcus.getD (t.sub - 1) (3, 7); be 1 (m.1 + 8 * m.2)),
  ("ROOT_PLL_STATE", reads fun t s => be 1 (s.ras.plls.getD (t.sub - 1) 3)),
  ("CORECLK_KHZ", reads fun _ s => be 4 s.coreclkKhz),
  ("CORES_POWERED", reads fun _ s => be 1 s.poweredSlots.length),
  ("ACC_STREAM_KIB_ACTIVE", reads fun _ s => be 2 s.accStreamKib),
  ("ACC_BUDDY_KIB_ACTIVE", reads fun _ s => be 2 s.accStreamKib),
  ("ACC_WORKING_KIB_ACTIVE", reads fun _ s => be 2 (1024 - 2 * s.accStreamKib)),
  ("SLOT_COUNTS", reads fun t s => s.slotCounts (t.sub - 1)),
  ("TILE_CAP_REFUSALS", reads fun _ s => be 4 s.tileCapRefusals),
  ("SAT_LAYER_STATS", reads fun t s => satStats (s.ctx t.p (t.sub - 1)).layerStats),
  ("PARTITION_COUNTS", reads fun t s => u64s (s.part t.i).counts)]

/-! ### Caches of keys and values, streams, objects (08, 09, 10) -/

/-- KV_POOL_STATE of a pool. -/
def State.poolState (s : State) (p k : Nat) : Bytes :=
  let c := s.pool p k
  match s.objAt p (8188 + k) with
  | none => u32s [0, 0, 0, 0, 0]
  | some o => u32s [pageBytes c.1 c.2.1, c.2.2, s.freePages p k, o.pages.countP fun e => decide (131072 ≤ e.2), poolMeta c.2.2]

/-- KV_SHORTAGE of a context: ROW_MAP has a bit for each row flagged. -/
def Context.shortageRecord (x : Context) : Bytes :=
  let g := fun (i : Nat) => x.shortage.getD i 0
  be 2 (g 0) ++ be 2 (g 1) ++ be 2 (g 2) ++ be 4 (g 3) ++ be 4 (g 4) ++ le 128 (maskOf 1024 fun r => x.shortRows.contains r)

/-- SLOT_STATUS of a stream slot. -/
def StreamSlot.status (e : StreamSlot) : Bytes :=
  [byteOf (b01 e.opened), byteOf e.home] ++ be 2 e.gen ++ [byteOf (b01 e.buddyValid), byteOf e.gate] ++ be 2 e.lastCode ++ be 8 e.chunks ++
  u32s [e.resets, e.ends, e.moves, e.restores, e.late]

/-- A record of OBJECT_TABLE for a partition. -/
def objectRecord (p : Nat) (o : Obj) : Bytes :=
  let c := o.claim? p
  be 8 o.handle ++ [byteOf o.kind, byteOf (if o.deleting then 6 else o.state), byteOf ((c.map (·.level)).getD 0), byteOf (b01 ((c.map (·.done)).getD false))] ++
  be 8 o.size ++ be 8 o.allocated ++ [byteOf (if o.pub || o.owner != p then 0 else o.residence)] ++ List.replicate 19 0

/-- OBJECT_TABLE: the objects that a partition owns or holds. -/
def State.objectTable (s : State) (p : Nat) : Bytes := (s.objects.filter fun o => o.owner == p || (o.claim? p).isSome).flatMap (objectRecord p)

/-- The bytes that OBJECT_WINDOW reads for a session. -/
def State.windowBytes (s : State) (w : Who) : Bytes :=
  let sel := s.selection w.owner
  match s.objOf sel.1 with
  | some o => memRead o.content sel.2.1 sel.2.2
  | none => []

/-- FLASH_WEAR (R309, R313, R314). -/
def State.flashWear (s : State) : Bytes :=
  let n := flashBlocks
  let sum := (s.tiers.erases.map (·.2)).sum
  let most := (s.tiers.erases.map (·.2)).foldl max 0
  let least := if s.tiers.erases.length < n then 0 else (s.tiers.erases.map (·.2)).foldl min most
  u32s [least, sum / n, most] ++ u32s [ratedCycles, s.tiers.badBlocks.length, s.tiers.freeBlocks, s.tiers.disturbed, s.tiers.rebuilt]

/-- DRAM_ERRORS: patrol's count is of the last 24 h. -/
def State.dramErrors (s : State) : Bytes := s.tiers.groups.flatMap fun (g : DramGroup) =>
  u32s [g.corrected, g.uncorrectable, ((g.patrol.filter fun e => decide (s.nowNs ≤ e.1 + 86400000000000)).map (·.2)).sum]

/-- The objects of the memory tiers, the key-value cache and the streams. -/
def valuesMemory : List (String × Value) := [
  ("KV_POOL_STATE", reads fun t s => s.poolState t.p (t.sub - 1)),
  ("KV_SHORTAGE", reads fun t s => (s.ctx t.p (t.sub - 1)).shortageRecord),
  ("KV_COUNTS", reads fun t s => u64s (s.part t.p).kvCounts),
  ("STREAM_SLOTS_PER_CORE", reads fun _ s => be 1 s.recordsPerCore),
  ("STREAM_SLOTS_TOTAL", reads fun _ s => be 2 (s.recordsPerCore * s.slotsIn 1)),
  ("STREAM_STATE_BYTES_ACTIVE", reads fun _ s => be 4 s.streamBytes),
  ("STREAM_COUNTS", reads fun t s => u64s (s.part t.p).streamCounts),
  ("SLOT_STATUS", reads fun t s => (s.streamSlot t.i).status),
  ("FLASH_WEAR", reads fun _ s => s.flashWear),
  ("DRAM_ERRORS", reads fun _ s => s.dramErrors),
  ("DRAM_LANE_MAP", reads fun t s =>
    let g := s.tiers.groups.getD (t.sub - 1) {}
    [byteOf (g.spares.getD 0 0xFF), byteOf (g.spares.getD 1 0xFF)] ++ le 10 g.failed),
  ("MEM_USAGE", reads fun t s => u64s [s.dramCharge t.i, s.flashCharge t.i, s.pinnedBytes t.i]),
  ("MEM_USAGE_OWN", reads fun t s => u64s [s.dramCharge t.i, s.flashCharge t.i, s.pinnedBytes t.i, s.dramQuota t.i, s.area t.i 0x60 3]),
  ("OBJECT_WINDOW_SEL", fun w _ s => let e := s.selection w.owner; (be 8 e.1 ++ be 8 e.2.1 ++ be 4 e.2.2, s)),
  ("OBJECT_WINDOW", fun w _ s => (s.windowBytes w, s)),
  ("OBJECT_TABLE", reads fun t s => s.objectTable t.i),
  ("MEM_STALLS", reads fun t s => (s.part t.i).stalls.flatMap fun e => be 8 e.1 ++ be 8 e.2)]

/-! ### Mesh, peers, partitions and contexts (11, 12) -/

/-- PORT_STATE of a peer-link port. -/
def PeerPort.record (x : PeerPort) : Bytes := [byteOf x.state] ++ be 4 x.partnerNode ++ [byteOf x.partnerPort, byteOf x.lanes]

/-- PARTITION_VIEW. -/
def State.partitionView (s : State) (p : Nat) : Bytes :=
  [byteOf (s.part p).state, byteOf (s.area p 0 1), byteOf (s.area p 0 3), byteOf (s.area p 0 4), byteOf (s.area p 0 5), byteOf (s.area p 0x60 4),
   byteOf (popCount 16 (s.waysInForce p))] ++ be 4 (s.area p 0 6) ++ be 4 (s.part p).resetGen

/-- PATTERN_INFO of a context; zeros with no pattern. -/
def Context.patternInfo (x : Context) : Bytes := match x.pattern with
  | none => List.replicate 33 0
  | some l => be 8 l.handle ++ slice l.bytes 8 16 ++ be 4 (l.u32 24) ++ [byteOf l.cores] ++ be 2 l.bucketCount ++ be 2 l.steps

/-- QUEUE_ENTRIES as it reads: 4 for the urgent context. -/
def State.queueEntries (s : State) (p c : Nat) : Nat := if s.ctxClass p c = 3 then 4 else s.ctxCfg p c 0 7

/-- CTX_STATUS: STATE 0 idle, 1 awaiting release, 2 running. -/
def State.ctxStatus (s : State) (p c : Nat) : Bytes :=
  let x := s.ctx p c
  let st := if x.flight.isSome then 2 else if x.queue = [] then 0 else 1
  [byteOf (s.ctxClass p c), byteOf (s.ctxCfg p c 0 2), byteOf st, byteOf (b01 (s.autoChunks p c))] ++
  [3, 4, 5, 6].flatMap (fun k => be 2 (s.ctxCfg p c 0 k)) ++ [byteOf (s.queueEntries p c)] ++
  u32s [s.ctxCfg p c 0 8, x.wcrt, x.lastDispatched, x.lastCompleted] ++ be 2 x.lastCode

/-- The objects of the mesh, the peer links, the partitions and the contexts. -/
def valuesPartitions : List (String × Value) := [
  ("MESH_SLOTS_FREE", reads fun _ s => be 1 (60 - ((List.range 8).map fun p => s.area p 0 4).sum)),
  ("MESH_ERRORS", reads fun _ s => u64s s.peer.meshErrors),
  ("MESH_RECOVERY_COPIES", reads fun _ s => be 4 s.peer.recoveryCopies),
  ("CONSTELLATION_STATE", reads fun _ s => be 1 s.peer.stateCode),
  ("PORT_STATE", reads fun t s => (s.port (t.sub - 1)).record),
  ("PORT_COUNTS", reads fun t s => u64s (s.port (t.sub - 1)).counts),
  ("PEER_COUNTS", reads fun t s => u64s (s.peer.counts.getD t.p [])),
  ("PARTITION_STATE", reads fun t s => be 1 (s.part t.i).state),
  ("PARTITION_VIEW", reads fun t s => s.partitionView t.i),
  ("QUEUE_ENTRIES", reads fun t s => be 1 (s.queueEntries t.i t.j)),
  ("PATTERN_INFO", reads fun t s => (s.ctx t.i t.j).patternInfo),
  ("BINDINGS", reads fun t s => (s.ctx t.i t.j).binds.flatMap fun e => be 2 e.1 ++ [0, 0] ++ be 4 e.2),
  ("CTX_STATUS", reads fun t s => s.ctxStatus t.i t.j),
  ("CTX_COUNTS", reads fun t s => u64s (s.ctx t.i t.j).counts)]

/-! ### The acoustic front end and the image pipeline (13, 14) -/

/-- ATC_MAP: VALID once ATTEND has taken a sample. -/
def State.atcMap (s : State) : Bytes := match s.afe.map with
  | some (a0, n0, valid) => be 8 a0 ++ time96 (n0 / 2 ^ 32) (valid == 1) ++ be 8 s.afe.ratio ++ [1]
  | none => be 8 0 ++ time96 0 false ++ be 8 nominalRatio ++ [0]

/-- BEAM_STATUS: BEAM_VALID_INDEX is all ones while no beam sample can be valid. -/
def State.beamStatus (s : State) : Bytes :=
  be 4 s.afe.tableGen ++ be 8 s.afe.applied ++ be 8 ((s.beamValid (ticksPer (s.cfg 0x2210 2))).getD (2 ^ 64 - 1)) ++ be 8 s.afe.netLate ++ [byteOf (b01 s.afe.rateRange)]

/-- Whether a beam of the table in force takes a network input. -/
def State.beamHasNet (s : State) (b : Nat) : Bool := (List.range 32).any fun k => !fpIsZero (beamEntry s.afe.table b (32 + k)).2.2

/-- FEATURE_LATENCY of a beam, in µs (R402): GB is G48 + 8,192 + 8 × D. -/
def State.beamLatency (s : State) (b : Nat) : Nat :=
  let D := ticksPer (s.cfg 0x2210 2)
  let gb := groupDelay 8 512 + 8192 + (if D = 512 then 0 else 8 * D)
  15000 + gb * 1000000 / 24576000 + (if s.beamHasNet b then s.cfg 0x2210 5 else 0) + 1000

/-- A wake record (R421). -/
def WakeRec.bytes (w : WakeRec) : Bytes :=
  u32s [w.seq, w.epoch] ++ [byteOf w.mode, byteOf w.outcome, byteOf w.flags, byteOf w.beam, byteOf w.score, 0, 0, 0] ++
  u64s [w.start, w.stop, w.chime, w.forward, w.arrayValid, w.beamValid, w.switch] ++ time96 w.atNs w.valid ++ time96 (w.switchNs.getD 0) w.switchNs.isSome ++ List.replicate 32 0

/-- DECIMATOR_COEFS: the half-bands, the compensation, the network and the beam-rate FIRs. -/
def decimatorCoefs : Bytes :=
  [(0, 31), (1, 31), (2, 33), (3, 31), (4, 49), (8, 97), (9, 49), (10, 33), (11, 25)].flatMap fun e => (List.range e.2).flatMap fun k => be 4 (Config.firTap e.1 k)

/-- FEATURE_MEL_WEIGHTS: for 40, 64 and 80 bands, each band over bins 0 to 256. -/
def melWeights : Bytes := [40, 64, 80].flatMap fun n => (List.range n).flatMap fun b => (List.range 257).flatMap fun k => be 4 (Config.melWeight n b k)

/-- PIPE_LOAD: the sum over the enabled cameras, and each camera's load. -/
def State.pipeLoad (s : State) : Bytes :=
  u32s ((((List.range 8).filter fun k => s.camCfg k 2 == 1).map s.loadPpm).sum :: (List.range 8).map s.loadPpm)

/-- EXPOSURE_STATUS: the generations that the frame in progress, or the next, has. -/
def Camera.exposureStatus (x : Camera) : Bytes :=
  be 2 x.lastGen ++ be 2 x.sentGen ++ be 2 (inEffect x.effE x.seq).gen ++ be 2 (inEffect x.effG x.seq).gen ++ be 4 x.replacedReqs ++ be 4 x.failedReqs ++ be 2 x.ctrlCode

/-- The objects of the acoustic front end and the cameras. -/
def valuesMedia : List (String × Value) := [
  ("AUDIO_EPOCH", reads fun _ s => be 4 s.afe.epoch),
  ("ATC_NOW", reads fun _ s => be 8 s.afe.atc),
  ("ATC_MAP", reads fun _ s => s.atcMap),
  ("BEAM_STATUS", reads fun _ s => s.beamStatus),
  ("INTERP_COEFS", reads fun _ _ => (List.range 64).flatMap fun f => (List.range 32).flatMap fun k => be 4 (Config.interpTap f k)),
  ("FEATURE_LATENCY_US", fun _ _ s => let r := s.freeBytes 4; (r.1 ++ u32s ((List.range 16).map r.2.beamLatency), r.2)),
  ("FEATURE_MEL_WEIGHTS", reads fun _ _ => melWeights),
  ("DECIMATOR_COEFS", reads fun _ _ => decimatorCoefs),
  ("LISTEN_INPUT", reads fun _ s => be 1 (b01 s.afe.spare)),
  ("TICK_MODEL_INFO", reads fun _ s =>
    let m := s.obj 0 0x2230 1
    Config.sha384 m ++ be 4 m.length ++ be 4 (Config.tickCost m).1),
  ("WAKE_RECORDS", reads fun _ s => s.afe.wakes.reverse.flatMap WakeRec.bytes),
  ("AFE_COUNTS", reads fun _ s => u64s s.afe.counts),
  ("PIPE_LOAD", reads fun _ s => s.pipeLoad),
  ("EXPOSURE_STATUS", reads fun t s => (s.cam t.i).exposureStatus),
  ("CAM_STATUS", reads fun t s => let x := s.cam t.i; be 1 x.state ++ be 4 x.seq ++ be 2 x.lastCode ++ be 4 x.periodNs),
  ("CAM_COUNTS", reads fun t s => u64s (s.cam t.i).counts)]

/-! ### Time, triggers and ports (15, 16) -/

/-- A signed value in bytes, within its range. -/
def signedBytes (n : Nat) (v : Int) : Bytes := be n (unsigned (8 * n) (clampInt (-(2 ^ (8 * n - 1))) (2 ^ (8 * n - 1) - 1) v))

/-- PTP_PARENT: zeros with no parent. -/
def State.ptpParent (s : State) : Bytes := match s.time.parent with
  | none => List.replicate 22 0
  | some m => be 10 m.identity ++ be 8 m.data.grandmaster ++ [byteOf m.data.gmClass] ++ be 2 m.data.steps ++ [byteOf m.port]

/-- PTP_PORT: the asymmetry that was written, the state, and the delay of the link. -/
def State.ptpPort (s : State) (k : Nat) : Bytes :=
  let p := s.time.ports.getD k {}
  slice (s.obj 0 0x1620 (k + 1)) 0 4 ++ [byteOf p.state] ++ signedBytes 4 (roundEven p.linkDelay)

/-- TRIG_STATUS. -/
def State.trigStatus (s : State) (k : Nat) : Bytes :=
  let u := s.time.triggers.getD k {}
  [byteOf u.state] ++ time96 (u.target / 2 ^ 32) (u.state == 1) ++ be 8 u.firings ++ be 8 u.skipped ++ be 4 u.overruns

/-- RX_STATUS of a receive channel: PACKETS, LATE, CONCEALED, DUPLICATES, MALFORMED and SSRC_CHANGES. -/
def RxChannel.status (x : RxChannel) : Bytes :=
  [byteOf (b01 x.concealing)] ++ be 4 (x.ssrc.getD 0) ++ u64s (x.counts.take 5) ++ be 4 (x.counts.getD 5 0)

/-- The objects of time, the triggers and the ports. -/
def valuesPorts : List (String × Value) := [
  ("TIME_STATE", reads fun _ s => be 1 s.time.state),
  ("TIME_NOW", reads fun _ s => s.stamp),
  ("INCREMENT_ACTIVE", reads fun _ s => be 8 s.time.increment),
  ("RATE_PPB", reads fun _ s => signedBytes 4 s.ratePpb),
  ("OFFSET_NS", reads fun _ s => signedBytes 8 s.offsetNs),
  ("MEAN_PATH_NS", reads fun _ s => signedBytes 8 (roundEven (meanOf s.time.paths))),
  ("TIME_GENERATION", reads fun _ s => be 4 s.time.generation),
  ("SLEEP_PPB", reads fun _ s => signedBytes 4 s.time.sleepPpb),
  ("FREQ_PPB", reads fun _ s => signedBytes 4 (roundEven (s.time.freq * 1000000000))),
  ("PTP_PORT", reads fun t s => s.ptpPort (t.sub - 1)),
  ("PTP_PARENT", reads fun _ s => s.ptpParent),
  ("PTP_COUNTS", reads fun _ s => u64s s.time.counts),
  ("TRIG_CFG_OPERATOR", reads fun t s => if s.trigOwner t.i = 0xFF then s.obj 0 t.index t.sub else List.replicate 36 0),
  ("TRIG_STATUS", reads fun t s => s.trigStatus t.i),
  ("CAP_STATUS", reads fun t s => let u := s.time.captures.getD t.i {}; be 8 u.events ++ be 8 u.lost),
  ("PORT_STATUS", reads fun t s => let p := s.net.ports.getD (t.sub - 3) {}; [byteOf (b01 p.link), byteOf p.speed, byteOf (b01 p.fec)]),
  ("BRIDGE_COUNTS", reads fun _ s => u64s s.net.counts),
  ("PCIE_STATUS", reads fun _ s => [byteOf s.net.gts, byteOf s.net.width, byteOf s.net.vfs] ++ u64s s.net.aer),
  ("RX_STATUS", reads fun t s => (s.rxChan t.i).status),
  ("TX_STATUS", reads fun t s => u64s ((kvGet s.net.tx t.i).getD {}).counts)]

/-! ### Power, security, starts and trace (17 to 20) -/

/-- TRANSITION_STATE: while a transition is in progress, which step it has reached is free, for a transition is one command. -/
def State.transitionState (s : State) : Bytes × State :=
  let target : Option Nat := if s.mode = 4 ∧ s.ascend then some 5 else s.power.down.map (·.1)
  match target with
  | none => ([byteOf s.mode, byteOf s.mode, 0] ++ be 4 0, s)
  | some to_ =>
    let r := s.freeBytes 1
    ([byteOf s.mode, byteOf to_] ++ r.1 ++ be 4 ((s.nowTicks - s.power.since) / (1000 * 2 ^ 32)), r.2)

/-- SUPPLY_STATUS: the voltages and the temperature are what the part's sensors read, and free. -/
def State.supplyStatus (s : State) : Bytes × State :=
  let r := s.freeBytes 4
  let q := r.2.freeBytes 2
  (r.1 ++ [byteOf (b01 s.power.braced), byteOf (b01 s.power.emergency)] ++ q.1, q.2)

/-- POWER_VIEW. -/
def State.powerView (s : State) (p : Nat) : Bytes := be 4 (s.capShares.getD p 0) ++ [byteOf (s.power.duty.getD p 16)] ++ u64s (s.power.view.getD p [])

/-- KEY_STATUS. -/
def State.keyStatus (s : State) (p : Nat) : Bytes :=
  let k := s.keys.getD p none
  [byteOf (b01 k.isSome)] ++ be 16 (k.getD 0) ++ be 4 (s.epoch p) ++ be 4 (s.objects.countP fun o => o.owner == p && o.state == 5)

/-- START_TIMES: the steps of the last start's table take free times; the hold of R603 comes before the SRAM tests, the sixth step. -/
def State.startTimes (s : State) : Bytes :=
  u32s ((List.range (if s.ras.kind = 1 then 16 else 14)).map fun k =>
    (Config.freeNat (s.ras.timesKey + 10 ^ 20 * (k + 1)) % 2 ^ 20) + (if s.ras.kind = 1 ∧ 6 ≤ k then 1000 * s.ras.holdMs else 0))

/-- TRAINING_STATE. -/
def State.trainingState (s : State) : Bytes := s.ras.training.flatMap fun (e : Int × Option Nat × Nat) => signedBytes 2 e.1 ++ time96 (e.2.1.getD 0) e.2.1.isSome ++ [byteOf e.2.2]

/-- FIRMWARE_BANKS: BANK is the bank in force. -/
def State.firmwareBanks (s : State) : Bytes := s.ras.images.flatMap fun (x : FwImage) =>
  [byteOf x.inForce] ++ u32s [x.a.version, x.b.version] ++ [byteOf x.a.secVersion, byteOf x.b.secVersion]

/-- TRACE_HUB_STATUS: zeros for the regions of partitions without consent (R587). -/
def State.hubStatus (s : State) : Bytes := (List.range 9).flatMap fun r =>
  let x := s.region r
  u64s (if s.consents r then [x.captured, x.dropped, x.streamDropped] else [0, 0, 0])

/-- The objects of power, security, starts and trace. -/
def valuesSystem : List (String × Value) := [
  ("TRANSITION_STATE", fun _ _ s => s.transitionState),
  ("DOMAIN_STATE", reads fun t s => be 1 (b01 (s.domainOn (t.sub - 1)))),
  ("POWER_COUNTS", reads fun _ s => u64s s.power.counts),
  ("CAP_SHARES", reads fun _ s => u32s s.capShares),
  ("SUPPLY_STATUS", fun _ _ s => s.supplyStatus),
  ("POWER_VIEW", reads fun t s => s.powerView t.i),
  ("DEBUG_STATE", reads fun _ s => be 4 s.debugState),
  ("KEY_SLOTS", reads fun _ s => (List.range 8).map fun p => byteOf (b01 (s.hasKey p))),
  ("SECURITY_COUNTS", reads fun _ s => u64s s.sec.counts),
  ("TENANT_VIEW", reads fun t s => [byteOf (s.tenantState t.i)] ++ be 4 (s.epoch t.i) ++ [byteOf ((s.credentials t.i).length / 101)]),
  ("KEY_STATUS", reads fun t s => s.keyStatus t.i),
  ("START_REASON", reads fun _ s => be 2 s.ras.reason),
  ("START_KIND", reads fun _ s => be 1 s.ras.kind),
  ("COLD_STARTS", reads fun _ s => be 4 s.ras.coldStarts),
  ("WARM_STARTS", reads fun _ s => be 4 s.ras.warmStarts),
  ("START_TIMES", reads fun _ s => s.startTimes),
  ("RECOVERY_COUNTS", reads fun _ s => u64s s.ras.counts),
  ("TRAINING_STATE", reads fun _ s => s.trainingState),
  ("SAVED_STATE", reads fun _ s => be 4 s.ras.savedGen ++ [byteOf s.ras.savedCopy, byteOf (b01 s.ras.defaultsUsed)]),
  ("FIRMWARE_BANKS", reads fun _ s => s.firmwareBanks),
  ("TRACE_HUB_STATUS", reads fun _ s => s.hubStatus),
  ("TRACE_STATUS", reads fun t s => let x := s.region t.i; u64s [x.captured, x.dropped, x.ringDropped, x.streamDropped])]

/-- Every object whose value is not what was last written. -/
def valueTable : List (String × Value) :=
  valuesDict ++ valuesCascade ++ valuesArray ++ valuesMemory ++ valuesPartitions ++ valuesMedia ++ valuesPorts ++ valuesSystem

/-- What an object holds that reports nothing else: what was last written, a fused value, or its default. -/
def storedValue (t : Target) (s : State) : Bytes :=
  if t.row.per = .fuse ∧ t.row.dflt = [] then
    (match kvGet s.dict (okey t.part t.index t.sub) with
    | some v => v
    | none => if t.row.wr then t.row.default else fuseBytes t.index t.sub (t.row.size?.getD 0))
  else s.obj t.part t.index t.sub

/-- The value of an object, for a reader. -/
def State.value (w : Who) (t : Target) (s : State) : Bytes × State :=
  match valueTable.find? fun e => e.1 == t.row.name with
  | some e => e.2 w t s
  | none => (storedValue t s, s)

end Sys2Proof.Machine
end

