-- ==== Sys2Proof/Machine/Writes.lean ====
section
/-! DEFINITION. What each writable object of the dictionary tests and does beyond R79's own checks, by the name of its row: the ranges
and states of the object tables, and the tables of checks and commits that WRITE, WRITE_BLOCK and SAVED_WRITE_PROGRAMMED use. -/

namespace Sys2Proof.Machine

/-! ### Shapes of checks -/

/-- A check of the value alone: outside it, VALUE_OUT_OF_RANGE. -/
def ranged (f : Target → Bytes → State → Bool) : Check := fun _ t v s => (if f t v s then 0 else 0x0E0A, s)

/-- A check of the value and then of the state: a value outside its range, then STATE_REFUSED (R79). The value that an object has by
default is legal for it. -/
def guarded (f : Target → Bytes → State → Bool) (busy : Target → Bytes → State → Bool) : Check := fun _ t v s =>
  (if v != t.row.default && !f t v s then 0x0E0A else if busy t v s then 0x0E15 else 0, s)

/-- No check but those of R79. -/
def anyValue : Check := fun _ _ _ s => (0, s)

/-- Whether a number is one of a list. -/
def oneOf (l : List Nat) (n : Nat) : Bool := l.contains n

/-- A partition, or 0xFF for none. -/
def partOrNone (n : Nat) : Bool := decide (n < 8) || n == 0xFF

/-! ### Roles and the cascade (01) -/

/-- MODE_FLOOR: not below the minimum of a role in force (R28). -/
def floorOk (v : Bytes) (s : State) : Bool :=
  (!((s.cfg 0x1310 2).testBit 1 || (s.cfg 0x1310 2).testBit 2)) || ofBE v == 5

/-! ### The array's stream state (03, 09) -/

/-- Whether STREAM_STATE_BYTES suits ACC_STREAM_KIB (R257). -/
def recordsOk (kib bytes : Nat) : Bool :=
  kib == 0 || (bytes % 256 == 0 && bytes != 0 && (kib * 1024) % bytes == 0 && decide (kib * 1024 ≤ 32 * bytes))

/-- STREAM_CHUNK_CFG's value: its ranges, and a loaded stream pattern's beat, which its chunk period must equal (0x2420, R374). -/
def chunkCfgOk (t : Target) (v : Bytes) (s : State) : Bool :=
  let g := fun (k : Nat) => memberAt t.row.mem v k
  let c := t.sub - 1
  let order := !(ofFp32 (g 3)).lt (ofFp32 (g 4))
  decide (1 ≤ g 0) && decide (g 0 ≤ 8) && (decide (g 2 < 16) || g 2 == 0xFF) && order && decide (1 ≤ g 5) && decide (1000 ≤ g 7) && decide (g 7 ≤ 1000000) &&
    (match (s.ctx t.part c).pattern with
    | some l => !l.isStream || s.ctxCfg t.part c 0 8 == 10000 * g 0
    | none => true)

/-- Whether a slot's channel is none, or one of the slot's owner (R484). -/
def channelOk (t : Target) (v : Bytes) (s : State) : Bool :=
  let ch := ofBE v
  ch == 0xFFFF || (decide (ch < 1024) && s.ownerOf .rx ch == s.streamOwner t.i)

/-! ### Peer links (11) -/

/-- Whether the context that a pair names, as it stands or as it is written, has a submission in flight. -/
def pairBusy (t : Target) (v : Bytes) (s : State) : Bool :=
  let flies := fun (p c : Nat) => decide (p < 8) && (s.ctx p c).flight.isSome
  flies (s.field 0 t.index t.sub 0) (s.field 0 t.index t.sub 1) || flies (memberAt t.row.mem v 0) (memberAt t.row.mem v 1)

/-! ### The acoustic front end (13) -/

/-- The start trigger of the array is none or an operator's unit (R466). -/
def operatorUnit (n : Nat) (s : State) : Bool := n == 0xFF || (decide (n < 16) && s.trigOwner n == 0xFF)

/-- BEAM_NET_INPUTS: each channel is none or one of CASCADE_PARTITION (R484). -/
def netInputsOk (v : Bytes) (s : State) : Bool := (List.range 32).all fun k =>
  let ch := ofBE (slice v (2 * k) 2)
  ch == 0xFFFF || (decide (ch < 1024) && s.ownerOf .rx ch == s.cascadePart)

/-- AUDIO_FEED's value (R405, R406, 0x2240). -/
def feedOk (t : Target) (v : Bytes) (_ : State) : Bool :=
  let g := fun (k : Nat) => memberAt t.row.mem v k
  decide (g 1 ≤ 2) && decide (g 2 ≤ 2) && (g 1 != 2 || g 2 == 0) && decide (g 3 < 16) && decide (g 4 < 64) && decide (g 5 < 32768) &&
  decide (16 ≤ g 6) && decide (g 6 ≤ 1600) && g 6 % 16 == 0 && decide (1 ≤ g 7) && decide (g 7 ≤ 64) && decide (g 8 ≤ 3) && decide (g 9 < 8) && decide (g 10 < 8)

/-- TDM_PORT's value (R422). -/
def tdmOk (t : Target) (v : Bytes) (_ : State) : Bool :=
  let g := fun (k : Nat) => memberAt t.row.mem v k
  let slots := [2, 4, 8].getD (g 1) 0
  decide (g 1 ≤ 2) && oneOf [1, 4] (g 2) && oneOf [16, 24, 32] (g 3) && decide ((if g 2 = 1 then 16000 else 48000) * slots * g 3 ≤ 12288000) &&
  decide (1536 ≤ g 4) && decide (g 4 ≤ 196608)

/-- A source of TDM_SLOT_MAP: the single microphone, a beam, an array input, a playback buffer, or silence. -/
def tdmSource (n : Nat) : Bool := n == 0 || (decide (0x10 ≤ n) && decide (n < 0x50)) || n == 0xFF

/-- PLAYBACK's value (R423, laid out as R405 and R406). -/
def playbackOk (t : Target) (v : Bytes) (_ : State) : Bool :=
  let g := fun (k : Nat) => memberAt t.row.mem v k
  decide (g 0 < 64) && decide (g 1 < 32768) && decide (16 ≤ g 2) && decide (g 2 ≤ 1600) && g 2 % 16 == 0 && decide (1 ≤ g 3) && decide (g 3 ≤ 64) &&
  decide (g 4 ≤ 3) && decide (g 5 < 8) && decide (g 6 < 16)

/-! ### Cameras (14) -/

/-- CSI_PORT's value (R425): the lanes in use are different physical lanes. -/
def csiOk (t : Target) (v : Bytes) (_ : State) : Bool :=
  let g := fun (k : Nat) => memberAt t.row.mem v k
  let lanes := (List.range (g 1)).map fun i => g 4 / 4 ^ i % 4
  oneOf [1, 2, 4] (g 1) && decide (80 ≤ g 2) && decide (g 2 ≤ 2500) && !repeats lanes && decide (g 5 < 16)

/-- Whether a camera's other on its port is enabled and names a virtual channel. -/
def State.vcTaken (s : State) (k vc : Nat) : Bool := s.camCfg (k ^^^ 1) 2 == 1 && s.camCfg (k ^^^ 1) 3 == vc

/-- The time that the settings of a camera take on its control bus, in ns. -/
def State.settingsNs (s : State) (k : Nat) : Nat :=
  let m := s.field 0 (0x6001 + 0x20 * k) 1 0 % 4
  Config.transferNs (s.field 0 0x2300 (7 + m) 0) (s.field 0 0x2300 (7 + m) 1) (s.field 0 (0x6001 + 0x20 * k) 2 1) (s.field 0 (0x6001 + 0x20 * k) 2 3)
    (s.field 0 (0x6001 + 0x20 * k) 2 4 != 0xFFFF)

/-- Whether the transfers of every master's slots end within the windows of the enabled cameras, and of one more (R442). -/
def State.windowsOk (s : State) (also : Nat) : Bool :=
  let cams := (List.range 8).filter fun k => s.camCfg k 2 == 1 || k == also
  let master := fun (k : Nat) => s.field 0 (0x6001 + 0x20 * k) 1 0 % 4
  cams.all fun k => decide (((cams.filter fun j => decide (j ≤ k) && master j == master k).map s.settingsNs).sum ≤ s.cfg (0x6001 + 0x20 * k) 5 * 1000)

/-- The camera that an object belongs to, none (8) for an object of a master. -/
def camOf (t : Target) : Nat := if t.index < 0x6000 then 8 else (t.index - 0x6000) / 0x20

/-- A write of the control bus keeps the windows. -/
def busOk (f : (Nat → Nat) → Bool) : Check := ranged fun t v s =>
  f (fun k => memberAt t.row.mem v k) && (s.setObj t.part t.index t.sub v).windowsOk (camOf t)

/-- The cameras that share a frame-sync output name one unit (R466). -/
def State.fsyncOk (s : State) : Bool :=
  (List.range 8).all fun a => (List.range 8).all fun b => s.camCfg a 9 == 0xFF || s.camCfg a 9 != s.camCfg b 9 || s.camCfg a 10 == s.camCfg b 10

/-- FSYNC_TRIGGER: none or an operator's unit whose PULSE_NS is in range (R466, R468). -/
def fsyncTriggerOk (t : Target) (v : Bytes) (s : State) : Bool :=
  let n := ofBE v
  operatorUnit n s && (s.setObj t.part t.index t.sub v).fsyncOk && (n == 0xFF || pulseOk (s.trig n 4) (s.trig n 9))

/-- STATS_GRID's value (R438). -/
def gridOk (t : Target) (v : Bytes) (s : State) : Bool :=
  let g := fun (k : Nat) => memberAt t.row.mem v k
  decide (1 ≤ g 0) && decide (g 0 ≤ 32) && decide (1 ≤ g 1) && decide (g 1 ≤ 24) &&
  ((g 4 == 0 && g 5 == 0) || (decide (g 2 + g 4 ≤ s.camCfg t.i 5) && decide (g 3 + g 5 ≤ s.camCfg t.i 6) && g 4 != 0 && g 5 != 0))

/-- A length of an output suits the crop: no scale above 1 or below 1/16 (R433). -/
def scaleOk (crop out : Nat) : Bool := decide (1 ≤ out) && decide (out ≤ crop) && decide (crop ≤ 16 * out)

/-- OUT_CFG's value (R433, R435). -/
def outOk (t : Target) (v : Bytes) (s : State) : Bool :=
  let g := outField v
  let k := t.i
  let on := g 0 == 1
  decide (g 5 + g 7 ≤ s.camCfg k 5) && decide (g 6 + g 8 ≤ s.camCfg k 6) && scaleOk (g 7) (g 9) && scaleOk (g 8) (g 10) &&
  decide (g 11 ≤ 2) && decide (g 12 ≤ 2) && decide (g 13 ≤ 1) && decide (g 20 < 16) && decide (g 21 < 64) && decide (g 22 < 8) && decide (g 23 < 8) &&
  decide (1 ≤ g 4) && decide (g 4 ≤ 64) && g 2 % 4096 == 0 && g 3 % 4096 == 0 && decide ((if t.j = 0 then 20480 else 4096) + tensorBytes v ≤ g 3) &&
  (!on || ((t.j == 0 || outField (s.obj 0 (0x6004 + 0x20 * k) 1) 0 == 1) &&
    (match s.objOf (g 1) with
    | some o => o.kind == 2 && o.owner == s.camOwner k && decide (g 2 + g 4 * g 3 ≤ o.size)
    | none => false)))

/-- Whether an output is enabled, and would stay so. -/
def outBusy (t : Target) (v : Bytes) (s : State) : Bool := outField (s.obj t.part t.index t.sub) 0 == 1 && outField v 0 == 1

/-! ### Meridian (15) -/

/-- Whether a consumer of another owner names a trigger unit (R466): the array, a camera, a pin, a context or a capture unit. -/
def State.unitNamed (s : State) (t owner : Nat) : Bool :=
  let pins := s.cfg 0x2200 6 == t || !(s.fsyncCams t).isEmpty || s.field 0 (0x1700 + t) 3 8 != 0xFF
  let captured := (List.range 16).any fun u => s.field 0 (0x1780 + u) 2 1 == 0x20 + t && s.cfg (0x1780 + u) 1 != owner
  (owner != 0xFF && pins) || s.field 0 (0x1700 + t) 2 7 != 0xFF || captured

/-- TRIG_OWNER is refused while the unit is enabled or named. -/
def trigOwnerBusy (t : Target) (v : Bytes) (s : State) : Bool :=
  ofBE v != s.trigOwner t.i && (s.trig t.i 0 == 1 || s.unitNamed t.i (ofBE v))

/-- CAP_CFG's value: a source of the unit's owner, and an edge for a pin (R470). -/
def capOk (t : Target) (v : Bytes) (s : State) : Bool :=
  let on := ofBE (v.take 1) == 1
  let src := ofBE (slice v 1 1)
  let edge := ofBE (slice v 2 1)
  let owner := s.ownerOf .capture t.i
  decide (edge ≤ 3) &&
  (if src < 4 then !on || decide (1 ≤ edge)
   else if 0x10 ≤ src ∧ src < 0x18 then s.camOwner (src - 0x10) == owner
   else if 0x20 ≤ src ∧ src < 0x30 then s.trigOwner (src - 0x20) == owner else false)

/-- PTP_VLAN: a VLAN with its PCP, or untagged. -/
def ptpVlanOk (n : Nat) : Bool := n == 0xFFFF || (decide (1 ≤ n % 4096) && decide (n % 4096 ≤ 4094) && n / 4096 % 2 == 0)

/-! ### Ports and AES67 (16) -/

/-- VLAN_TABLE: up to 64 entries, each VID once. -/
def vlanTableOk (v : Bytes) : Bool :=
  let l := entriesOf 4 v
  let vid := fun (e : Bytes) => ofBE (e.take 2)
  v.length % 4 == 0 && decide (l.length ≤ 64) && !repeats (l.map vid) &&
  l.all fun e => decide (1 ≤ vid e) && decide (vid e ≤ 4094) && decide (ofBE (slice e 2 1) < 8) && decide (ofBE (slice e 3 1) < 8)

/-- The limits that a stream's parameters have in both directions (R479, R485). -/
def streamLimits (g : Nat → Nat) (fast : Bool) : Bool :=
  let n := packetSamples (g 10) * (if fast then 2 else 1)
  decide (g 1 < 2) && decide (96 ≤ g 5) && decide (g 5 ≤ 127) && decide (g 6 ≤ 1) && decide (1 ≤ g 8) && decide (g 8 ≤ 64) && decide (g 9 < g 8) &&
  n != 0 && decide (n * g 8 * (if g 6 = 1 then 3 else 2) ≤ 1440)

/-- Three times a packet time in µs. -/
def triplePtime (n : Nat) : Nat := if n = 333 then 1000 else 3 * n

/-- Whether a destination is a group or an address of the part (R479). -/
def State.destOk (s : State) (dest : Nat) : Bool :=
  isGroup dest || (if dest / 2 ^ 32 = 0 ∨ dest / 2 ^ 32 = 0xFFFF then s.ownAddress 0 (dest % 2 ^ 32) false else s.ownAddress 0 dest true)

/-- RX_STREAM's value (R479). -/
def rxOk (t : Target) (v : Bytes) (s : State) : Bool :=
  let g := fun (k : Nat) => memberAt t.row.mem v k
  let agrees := fun (ch : Nat) => ch == t.i || s.rxCfg ch 0 == 0 || !([1, 2, 3, 4] : List Nat).all (fun m => s.rxCfg ch m == g m) ||
    [5, 6, 7, 8, 10, 11, 12, 13].all fun m => s.rxCfg ch m == g m
  streamLimits g (g 7 == 1) && decide (g 7 ≤ 1) && s.destOk (g 2) && decide (triplePtime (g 10) + 750 ≤ 3 * g 11) && decide (g 11 ≤ 80000) &&
  (List.range 1024).all agrees

/-- TX_STREAM's value (R485). -/
def txOk (t : Target) (v : Bytes) (s : State) : Bool :=
  let g := fun (k : Nat) => memberAt t.row.mem v k
  let agrees := fun (ch : Nat) => ch == t.i || s.txCfg ch 0 == 0 || !([1, 2, 4] : List Nat).all (fun m => s.txCfg ch m == g m) ||
    [5, 6, 8, 10, 12, 13, 14, 15].all fun m => s.txCfg ch m == g m
  streamLimits g false && decide (g 14 ≤ 7) && decide (g 15 ≤ 10000) && (List.range 64).all agrees

/-- RX_PARTITION: a channel that a beam reads stays the cascade partition's (R484). -/
def rxPartitionOk (t : Target) (v : Bytes) (s : State) : Bool :=
  let named := (List.range 32).any fun k => ofBE (slice (s.obj 0 0x2210 4) (2 * k) 2) == t.i
  partOrNone (ofBE v) && (!named || ofBE v == s.cascadePart)

/-! ### The table of checks -/

/-- The checks of chapters 01 to 12, by the name of the object's row. -/
def checksA : List (String × Check) := [
  ("ROLE_MASK", ranged fun _ v _ => ofBE v != 0),
  ("MODE_FLOOR", ranged fun _ v s => floorOk v s),
  ("ANSWER_REQUEST", checkAnswerRequest),
  ("CASCADE_MODELS", checkCascadeModels),
  ("ACC_STREAM_KIB", ranged fun _ v s => ofBE v % 64 == 0 && recordsOk (ofBE v) (s.cfg 0x2410 3)),
  ("STREAM_STATE_BYTES", ranged fun _ v s => recordsOk (s.cfg 0x2010 1) (ofBE v)),
  ("SAT_TRIP_PPM", ranged fun _ v s => decide (s.cfg 0x2060 2 < ofBE v)),
  ("SAT_WATCH_PPM", ranged fun _ v s => decide (ofBE v < s.cfg 0x2060 1)),
  ("KV_POOL", checkKvPool),
  ("STREAM_CHUNK_CFG", guarded chunkCfgOk fun t _ s => (s.ctx t.part (t.sub - 1)).flight.isSome),
  ("SLOT_PARTITION", guarded (fun _ v _ => partOrNone (ofBE v)) fun t _ s => (s.streamSlot t.i).opened),
  ("SLOT_IMAGE", checkSlotImage),
  ("SLOT_MOVE_TO", checkSlotMoveTo),
  ("SLOT_CHANNEL", ranged channelOk),
  ("CACHE_WAY_MASK", checkCacheWayMask),
  ("DRAM_QUOTA", checkTierObject), ("FLASH_QUOTA", checkTierObject), ("FLASH_TURNS", checkTierObject),
  ("OBJECT_CREATE", checkObjectCreate), ("OBJECT_DELETE", checkObjectDelete), ("OBJECT_SEAL", checkObjectSeal),
  ("OBJECT_CLAIM", checkObjectClaim), ("OBJECT_WINDOW_SEL", checkObjectWindowSel), ("OBJECT_WINDOW", checkObjectWindow),
  ("MEMBERS", ranged fun _ v s => ofBE v == 0 || (decide (2 ≤ ofBE v) && (s.cfg 0x1A00 2 != 2 || ofBE v == 16))),
  ("MEMBER_NODES", ranged fun _ v _ => (entriesOf 4 v).all fun e => decide (ofBE e ≤ 262143)),
  ("PEER_PAIR", guarded (fun t v _ => partOrNone (memberAt t.row.mem v 0) && decide (memberAt t.row.mem v 1 < 16)) pairBusy),
  ("PARTITION_CORES", checkPartObject), ("PARTITION_SLOTS", checkPartObject), ("DRAM_TURNS", checkPartObject),
  ("MESH_SLOTS", checkPartObject), ("PEER_SLOTS", checkPartObject), ("POWER_CAP_MW", checkPartObject),
  ("PARTITION_RUN", checkPartitionRun),
  ("CTX_CLASS", checkCtxClass),
  ("CTX_PRIORITY", checkCtxObject), ("SPAD_BASE", checkCtxObject), ("SPAD_LIMIT", checkCtxObject), ("ACC_BASE", checkCtxObject),
  ("ACC_LIMIT", checkCtxObject), ("QUEUE_ENTRIES", checkCtxObject), ("BEAT_US", checkCtxObject), ("BEAT_PHASE_US", checkCtxObject),
  ("RESERVED_CORES", checkCtxObject), ("URGENT_MIN_INTERVAL_US", checkCtxObject), ("URGENT_BUCKET", checkCtxObject),
  ("SUB_RING", checkRing), ("CPL_RING", checkRing), ("RING_ENTRIES", checkRing),
  ("DOORBELL", fun _ t v s => (s.hostDoorbellCode t.i t.j (ofBE v), s)),
  ("PATTERN_LOAD", checkPatternLoad), ("PATTERN_UNLOAD", checkPatternUnload), ("BINDINGS", checkBindings)]

/-- The checks of chapters 13 and 14. -/
def checksB : List (String × Check) := [
  ("ARRAY_RATE", ranged fun _ v s => ofBE v != 4 || s.arrayDiv == 8),
  ("ARRAY_PDM_DIV", ranged fun _ v s => ofBE v == 8 || (ofBE v == 16 && s.cfg 0x2200 3 != 4)),
  ("ARRAY_START_TRIGGER", ranged fun _ v s => operatorUnit (ofBE v) s),
  ("BEAM_TABLE", checkBeamTable),
  ("BEAM_NET_INPUTS", ranged fun _ v s => netInputsOk v s),
  ("FEATURE_BANDS", ranged fun _ v _ => oneOf [40, 64, 80] (ofBE v)),
  ("TICK_MODEL", checkTickModel),
  ("TCX_PDM_DIV", ranged fun _ v _ => oneOf [16, 32] (ofBE v)),
  ("AUDIO_FEED", guarded feedOk fun t v s => s.field t.part t.index t.sub 0 == 1 && memberAt t.row.mem v 0 == 1),
  ("TDM_PORT", guarded tdmOk fun _ _ _ => false),
  ("PLAYBACK", guarded playbackOk fun _ _ _ => false),
  ("TDM_SLOT_MAP", ranged fun _ v _ => v.all fun b => tdmSource b.toNat),
  ("CSI_PORT", guarded csiOk fun t _ s => [2 * (t.sub - 1), 2 * (t.sub - 1) + 1].any fun k => s.camCfg k 2 == 1),
  ("CTRL_MASTER", busOk fun g => (g 0 == 0 && decide (100 ≤ g 1) && decide (g 1 ≤ 1000)) || (g 0 == 1 && decide (1000 ≤ g 1) && decide (g 1 ≤ 12500))),
  ("CAM_PARTITION", guarded (fun _ v _ => partOrNone (ofBE v)) fun t _ s => s.camCfg t.i 2 == 1),
  ("CAM_ENABLE", ranged fun t v s => ofBE v == 0 || !s.vcTaken t.i (s.camCfg t.i 3)),
  ("CAM_VC", ranged fun t v s => s.camCfg t.i 2 == 0 || !s.vcTaken t.i (ofBE v)),
  ("DATA_TYPE", ranged fun _ v _ => oneOf [0x2A, 0x2B, 0x2C, 0x2D, 0x1E] (ofBE v)),
  ("ACTIVE_WIDTH", ranged fun _ v _ => decide (64 ≤ ofBE v) && decide (ofBE v ≤ 8192) && ofBE v % 2 == 0),
  ("ACTIVE_LINES", ranged fun _ v _ => decide (16 ≤ ofBE v) && decide (ofBE v ≤ 8192)),
  ("FSYNC_OUT", ranged fun t v s => (decide (ofBE v < 4) || ofBE v == 0xFF) && (s.setObj t.part t.index t.sub v).fsyncOk),
  ("FSYNC_TRIGGER", ranged fsyncTriggerOk),
  ("CTRL_BUS", busOk fun g => decide (g 0 < 4) && decide (g 1 < 128)),
  ("SENSOR_MAP", busOk fun g => decide (1 ≤ g 1) && decide (g 1 ≤ 4) && decide (1 ≤ g 3) && decide (g 3 ≤ 4)),
  ("CTRL_WINDOW_US", ranged fun t v s => (s.setObj t.part t.index t.sub v).windowsOk (camOf t)),
  ("CFA", ranged fun _ v _ => decide (ofBE v ≤ 4)),
  ("BLACK_LEVEL", ranged fun _ v _ => (entriesOf 2 v).all fun e => decide (ofBE e ≤ 16383)),
  ("DPC_LIST", ranged fun _ v _ => v.length % 4 == 0 && decide (v.length ≤ 4096)),
  ("GAMMA_LUT", ranged fun _ v _ => (entriesOf 2 v).all fun e => decide (ofBE e ≤ 4095)),
  ("STATS_GRID", ranged gridOk),
  ("OUT_CFG", guarded outOk outBusy),
  ("EXPOSURE_REQ", fun _ _ v s => (if ofBE (v.take 1) = 0 ∨ 3 < ofBE (v.take 1) then 0x0E0A else 0, s))]

/-- The checks of chapters 15 to 20. -/
def checksC : List (String × Check) := [
  ("PTP_DELAY_MECH", ranged fun _ v s => s.cfg 0x1610 7 == 0 || ofBE v == s.cfg 0x1610 7),
  ("PTP_VLAN", ranged fun _ v _ => ptpVlanOk (ofBE v)),
  ("STEP_THRESHOLD_NS", ranged fun _ v s => decide (s.cfg 0x1610 8 < ofBE v)),
  ("TIME_SET", checkTimeSet),
  ("TRIG_OWNER", guarded (fun _ v _ => partOrNone (ofBE v)) trigOwnerBusy),
  ("TRIG_CFG", checkTrigCfg), ("TRIG_CFG_OPERATOR", checkTrigCfgOperator),
  ("CAP_OWNER", guarded (fun _ v _ => partOrNone (ofBE v)) fun t v s => ofBE v != s.ownerOf .capture t.i && s.field 0 t.index 2 0 == 1),
  ("CAP_CFG", ranged capOk),
  ("PORT_CFG", ranged fun t v _ => decide (memberAt t.row.mem v 1 ≤ 3) && decide (memberAt t.row.mem v 4 ≤ 4094) && decide (memberAt t.row.mem v 5 ≤ 7)),
  ("VLAN_TABLE", ranged fun _ v _ => vlanTableOk v),
  ("IP_CFG", ranged fun t v _ => decide (memberAt t.row.mem v 1 ≤ 32) && decide (memberAt t.row.mem v 4 ≤ 128)),
  ("MGMT_IP_CFG", ranged fun t v _ => decide (memberAt t.row.mem v 1 ≤ 32) && decide (memberAt t.row.mem v 4 ≤ 128)),
  ("RX_PARTITION", guarded rxPartitionOk fun t _ s => s.rxCfg t.i 0 == 1),
  ("RX_STREAM", guarded rxOk fun _ _ _ => false),
  ("TX_PARTITION", guarded (fun _ v _ => partOrNone (ofBE v)) fun t _ s => s.txCfg t.i 0 == 1),
  ("TX_STREAM", guarded txOk fun _ _ _ => false),
  ("TX_SOURCE", ranged fun _ v _ => decide (ofBE v < 16)),
  ("POWER_REQUEST", checkPowerRequest),
  ("POWER_ALARM", ranged fun t v _ => oneOf [2, 4] (memberAt t.row.mem v 2)),
  ("WAKE_PIN_MODE", ranged fun _ v _ => oneOf [2, 4] (ofBE v)),
  ("POWER_CAP_DEVICE_MW", ranged fun t v s => (s.setObj t.part t.index t.sub v).capsOk none),
  ("SECURITY_VERSION", checkSecurityVersion),
  ("MGMT_TRUST", checkMgmtTrust), ("OPERATOR_CREDENTIALS", checkOperatorCredentials),
  ("TENANT_ENROL", checkTenantEnrol),
  ("CREDENTIALS", checkCredentials), ("PATTERN_KEYS", checkPatternKeys), ("PUBLISHERS", checkPublishers),
  ("KEY_IMPORT", checkKeyImport),
  ("FIRMWARE_STAGE", checkFirmwareStage), ("FIRMWARE_COMMIT", checkFirmwareCommit),
  ("TRACE_RING", checkTraceRing)]

/-- The check of the object that a write has found. -/
def checkOf (name : String) : Check := match (checksA ++ checksB ++ checksC).find? fun e => e.1 == name with
  | some e => e.2
  | none => anyValue

/-! ### Effects -/

/-- A CLEAR of a log acts on the writer's view (R82). -/
def commitClear (f : Nat → State → State) : Commit := fun w _ v s =>
  if ofBE v = 0 then s else match w.view with
  | some n => f n s
  | none => s

/-- A write of an array clock's setting: the clock starts or stops as ARRAY_ENABLE says (R390), and a clock that runs starts anew where
its division or its rate changes. -/
def commitArray : Commit := fun _ t v s =>
  let was := s.obj t.part t.index t.sub
  let s := s.setObj t.part t.index t.sub v
  if t.sub = 1 then
    if ofBE v = 0 then s.stopArray
    else if 4 ≤ s.mode ∧ s.cfg 0x2200 6 = 0xFF then s.startArray else s
  else if (t.sub = 3 ∨ t.sub = 4) ∧ was ≠ v ∧ s.afe.array.running then s.stopArray.startArray else s

/-- TCX_PDM_DIV: the Tchirix clock starts anew with its new division. -/
def commitTcx : Commit := fun _ t v s =>
  let was := s.obj t.part t.index t.sub
  let s := s.setObj t.part t.index t.sub v
  if was = v ∨ s.mode < 2 then s else s.modAfe fun x => { x with tcx := { s0 := x.atc } }

/-- AUDIO_FEED: a feed that is enabled LIVE begins, and one that is disabled stops (R405). -/
def commitFeed : Commit := fun _ t v s =>
  let s := (s.setObj t.part t.index t.sub v).modAfe fun x => { x with feeds := x.feeds.set (t.sub - 1) {} }
  s.liveFeed (t.sub - 1)

/-- CHIME_CAMERA: in ATTEND the camera that it names runs and no other does (R444). -/
def commitChimeCamera : Commit := fun _ t v s =>
  let s := s.setObj t.part t.index t.sub v
  if s.mode = 4 then s.stopCams (ofBE v) else s

/-- CAM_ENABLE: the camera runs from the next FS, or stops. -/
def commitCamEnable : Commit := fun _ t v s =>
  let on := ofBE v == 1
  let s := if on then s else s.stopCam t.i
  (s.setObj t.part t.index t.sub v).enableCam t.i on

/-- OUT_CFG: an output that is enabled begins at slot 0 of its ring (R435). -/
def commitOut : Commit := fun _ t v s =>
  let s := s.setObj t.part t.index t.sub v
  if outField v 0 = 1 then s.modCam t.i fun x => { x with outIdx := x.outIdx.set t.j 0 } else s

/-- A write of a setting of the ordinary clock: what it no longer follows is forgotten, and the parent is chosen again (R455, R460). -/
def commitPtp : Commit := fun _ t v s =>
  let was := s.obj t.part t.index t.sub
  let s := s.setObj t.part t.index t.sub v
  if was = v then s
  else
    let s := { s with time := { s.time with masters := [] } }
    (if s.time.parent.isSome then s.holdover 1 else s).choose

/-- PTP_PORT: only ASYMMETRY_NS is a setting; STATE and LINK_DELAY_NS are the part's. -/
def commitPtpPort : Commit := fun _ t v s => s.setObj t.part t.index t.sub (v.take 4 ++ List.replicate 5 0)

/-- CAP_CFG: a unit counts its events from its enable (R471). -/
def commitCapture : Commit := fun _ t v s =>
  let was := s.field 0 t.index 2 0
  let s := s.setObj t.part t.index t.sub v
  if was = 0 ∧ ofBE (v.take 1) = 1 then
    { s with time := { s.time with captures := s.time.captures.modify t.i fun x => { x with seq := 0, events := 0, lost := 0, lostBefore := false, lastAt := none } } }
  else s

/-- PORT_CFG: a port whose settings change drops its link and trains anew (R473). -/
def commitPort : Commit := fun _ t v s =>
  let same := (s.obj t.part t.index t.sub).take 3 == v.take 3
  let s := s.setObj t.part t.index t.sub v
  if same then s else s.modLan (t.sub - 1) fun _ => {}

/-- RX_STREAM: a channel begins when it is enabled, and the memberships follow (R480, R483). -/
def commitRx : Commit := fun _ t v s =>
  let was := s.rxCfg t.i 0
  let s := s.setObj t.part t.index t.sub v
  let s := if was = ofBE (v.take 1) then s else s.modRx t.i fun x => { counts := x.counts }
  if 4 ≤ s.mode then s.joinGroups else s

/-- TX_STREAM: a channel begins when it is enabled (R485). -/
def commitTx : Commit := fun _ t v s =>
  let was := s.txCfg t.i 0
  let s := s.setObj t.part t.index t.sub v
  if was = 0 ∧ ofBE (v.take 1) = 1 ∧ 4 ≤ s.mode then s.startTx t.i
  else if ofBE (v.take 1) = 0 then s.modTx t.i fun x => { counts := x.counts } else s

/-- STREAM_CHUNK_CFG: with other FRAMES the chunks are counted anew, and the release is that of the values written (R287). -/
def commitChunkCfg : Commit := fun _ t v s =>
  let c := t.sub - 1
  let was := s.chunkCfg t.part c 0
  let s := s.setObj t.part t.index t.sub v
  s.modCtx t.part c fun x => { x with latency := none, chunkIndex := if was = s.chunkCfg t.part c 0 then x.chunkIndex else 0 }

/-- A write that asks for a reset, which follows the answer. -/
def commitAsk (reason : Nat) (cold : Bool) : Commit := fun _ _ v s => if ofBE v = 1 then s.modRas fun x => { x with asked := some (reason, cold) } else s

/-- The effects of the objects of chapters 01 to 12; every other object holds what is written. -/
def commitsA : List (String × Commit) := [
  ("ERROR_CLEAR", commitClear fun n s => { s with errorLog := s.errorLog.clear n }),
  ("VIOLATION_CLEAR", commitClear fun n s => { s with violationLog := s.violationLog.clear n }),
  ("REFUSAL_CLEAR", commitClear fun n s => { s with refusalLog := s.refusalLog.clear n }),
  ("ANSWER_REQUEST", fun _ t v s => s.enqueueAnswer t.part false v),
  ("KV_POOL", commitKvPool), ("STREAM_CHUNK_CFG", commitChunkCfg),
  ("SLOT_IMAGE", commitSlotImage), ("SLOT_MOVE_TO", commitSlotMoveTo), ("SLOT_CLOSE", commitSlotClose),
  ("CACHE_WAY_MASK", commitCacheWayMask),
  ("OBJECT_CREATE", commitObjectCreate), ("OBJECT_DELETE", commitObjectDelete), ("OBJECT_SEAL", commitObjectSeal),
  ("OBJECT_CLAIM", commitObjectClaim), ("OBJECT_WINDOW_SEL", commitObjectWindowSel), ("OBJECT_WINDOW", commitObjectWindow),
  ("PARTITION_CORES", commitPartObject), ("PARTITION_SLOTS", commitPartObject), ("DRAM_TURNS", commitPartObject),
  ("MESH_SLOTS", commitPartObject), ("PEER_SLOTS", commitPartObject), ("POWER_CAP_MW", commitPartObject),
  ("PARTITION_RUN", commitPartitionRun), ("PARTITION_RESET", commitReset), ("TENANT_RESET", commitReset),
  ("CTX_CLASS", commitCtxClass),
  ("CTX_PRIORITY", commitCtxObject), ("SPAD_BASE", commitCtxObject), ("SPAD_LIMIT", commitCtxObject), ("ACC_BASE", commitCtxObject),
  ("ACC_LIMIT", commitCtxObject), ("QUEUE_ENTRIES", commitCtxObject), ("BEAT_US", commitCtxObject), ("BEAT_PHASE_US", commitCtxObject),
  ("RESERVED_CORES", commitCtxObject), ("URGENT_MIN_INTERVAL_US", commitCtxObject), ("URGENT_BUCKET", commitCtxObject),
  ("DOORBELL", fun _ t v s => s.ringDoorbell t.i t.j (ofBE v)),
  ("PATTERN_LOAD", commitPatternLoad), ("PATTERN_UNLOAD", commitPatternUnload), ("BINDINGS", commitBindings)]

/-- The effects of the objects of chapters 13 to 20. -/
def commitsB : List (String × Commit) := [
  ("ARRAY_ENABLE", commitArray), ("ARRAY_RATE", commitArray), ("ARRAY_PDM_DIV", commitArray),
  ("BEAM_TABLE", commitBeamTable),
  ("TCX_PDM_DIV", commitTcx),
  ("AUDIO_FEED", commitFeed),
  ("CHIME_CAMERA", commitChimeCamera),
  ("CAM_ENABLE", commitCamEnable), ("OUT_CFG", commitOut),
  ("EXPOSURE_REQ", commitExposureReq),
  ("PTP_ENABLE", commitPtp), ("PTP_PROFILE", commitPtp), ("PTP_DOMAIN", commitPtp), ("PTP_TRANSPORT", commitPtp),
  ("TIME_SET", commitTimeSet),
  ("PTP_PORT", commitPtpPort),
  ("TRIG_CFG", commitTrig), ("TRIG_CFG_OPERATOR", commitTrig),
  ("CAP_CFG", commitCapture),
  ("PORT_CFG", commitPort),
  ("RX_STREAM", commitRx), ("TX_STREAM", commitTx),
  ("POWER_REQUEST", commitPowerRequest),
  ("ATTEST_NONCE", commitNonce), ("ATTEST_NONCE_DEVICE", commitNonce),
  ("TENANT_ENROL", commitTenantEnrol), ("TENANT_RELEASE", commitTenantRelease), ("TENANT_SCRUB", commitTenantScrub),
  ("KEY_IMPORT", commitKeyImport), ("KEY_DESTROY", commitKeyDestroy),
  ("WARM_RESET", commitAsk 0x0D03 false), ("COLD_RESET", commitAsk 0x0D02 true),
  ("FIRMWARE_STAGE", commitFirmwareStage), ("FIRMWARE_COMMIT", commitFirmwareCommit)]

/-- The effect of a write of an object. -/
def commitOf (name : String) : Commit := match (commitsA ++ commitsB).find? fun e => e.1 == name with
  | some e => e.2
  | none => commitStore

/-- The check of the object that a write has found. -/
def checkAny : Check := fun w t v s => checkOf t.row.name w t v s
/-- The effect of the write that has passed. -/
def commitAny : Commit := fun w t v s => commitOf t.row.name w t v s

/-! ### The clears (R82) -/

/-- ERROR_CLEAR (R82). -/
def execErrorClear (rq : Request) (s : State) : Host.Outcome State Fault Refusal :=
  settled s (s.ownWrite "ERROR_CLEAR" anyValue (commitOf "ERROR_CLEAR") false rq)

/-- VIOLATION_CLEAR (R82). -/
def execViolationClear (rq : Request) (s : State) : Host.Outcome State Fault Refusal :=
  settled s (s.ownWrite "VIOLATION_CLEAR" anyValue (commitOf "VIOLATION_CLEAR") false rq)

/-- REFUSAL_CLEAR (R511). -/
def execRefusalClear (rq : Request) (s : State) : Host.Outcome State Fault Refusal :=
  settled s (s.ownWrite "REFUSAL_CLEAR" anyValue (commitOf "REFUSAL_CLEAR") false rq)

end Sys2Proof.Machine
end

