-- ==== Sys2Proof/Machine/Onnum.lean ====
section
/-! DEFINITION. The dictionary service as every transport meets it: reads and writes of any object, block transfers, subscriptions,
sessions, the PCIe window, and the programs of SAVED values (R51, R54 to R79, R550). -/

namespace Sys2Proof.Machine

/-! ### Finding an object to read (R44, R46, R65, R74, R79) -/

/-- An object of R44 or R46 as a target. -/
def metaTarget (idx sub : Nat) : Option Target := (metaValue idx sub).map fun e =>
  { row := { name := "", base := idx, sub := sub, ty := e.1, acc := .pub, per := .volatile }, i := 0, j := 0, part := 0, index := idx, sub := sub }

/-- Checks 6 and 7 of R79 over every object that exists. -/
def State.find (s : State) (w : Who) (idx sub : Nat) : Nat ⊕ Target :=
  if s.ras.recovery ∧ !inRecovery idx sub then .inl 0x0E04
  else match metaTarget idx sub with
    | some t => .inr t
    | none => s.resolve w idx sub

/-- The value of an object that has been found. -/
def State.valueOf (w : Who) (t : Target) (s : State) : Bytes × State :=
  if t.row.name = "" then (match metaValue t.index t.sub with
    | some e => (e.2, s)
    | none => ([], s))
  else s.value w t

/-- Checks 6 to 9 of R79 for a read: a code, or the object. -/
def State.readAccess (s : State) (w : Who) (f : Frame) : Nat ⊕ Target :=
  match s.find w f.index f.sub with
  | .inl code => .inl code
  | .inr t => if !t.row.rd then .inl 0x0E1A else if f.typ ≠ 0 ∧ f.typ ≠ t.row.ty then .inl 0x0E08 else .inr t

/-! ### READ and WRITE (R56, R67) -/

/-- A READ that has been admitted. -/
def State.answerRead (rq : Request) (w : Who) (s : State) : State :=
  match s.readAccess w rq.frame with
  | .inl code => s.abort rq w code
  | .inr t =>
    if t.row.ty = 14 then s.abort rq w 0x0E0B
    else
      let r := s.valueOf w t
      if 256 < r.1.length then r.2.abort rq w 0x0E0B else r.2.respond rq w 0 t.row.ty r.1

/-- READ. -/
def State.serveRead (rq : Request) (s : State) : State :=
  match s.admitted rq 1 (fun p => p.isEmpty) with
  | .stop s => s
  | .go w s => s.answerRead rq w

/-- READ (R56). -/
def execRead (rq : Request) (s : State) : Host.Outcome State Fault Refusal := settled s (s.serveRead rq)

/-- The writer of MGMT_TRUST while it is empty: the PCIe physical function (R541). -/
def State.elevate (s : State) (rq : Request) (w : Who) : Who :=
  if w.owner = .fn 0 ∧ s.obj 0 0x1B10 1 = [] ∧ names rq "MGMT_TRUST" then { w with management := true } else w

/-- A reset that a write has asked for begins once the write is answered (R555). -/
def State.resetAsked (s : State) : State :=
  match s.ras.asked with
  | some (r, c) => (s.modRas fun x => { x with asked := none }).requestReset r c {}
  | none => s

/-- A write, whole, that has been admitted: R79 from the object on, then the commit, at once or when its program completes. -/
def State.finishWrite (rq : Request) (w : Who) (block : Bool) (s : State) : State :=
  match s.writeTarget (s.elevate rq w) rq.frame block with
  | .inl code => s.abort rq w code
  | .inr t =>
    match checkAny w t rq.frame.payload s with
    | (0, s) => if t.row.per = .saved then s.queueSave rq w t else ((commitAny w t rq.frame.payload s).ok rq w).resetAsked
    | (code, s) => s.abort rq w code

/-- WRITE. -/
def State.serveWriteAny (rq : Request) (s : State) : State :=
  match s.admitted rq 2 (fun _ => true) with
  | .stop s => s
  | .go w s => s.finishWrite rq w false

/-! ### The programs of SAVED values (R51) -/

/-- The object that a save names. -/
def Saving.target (e : Saving) : Option Target := (findRow e.index e.sub).map fun r =>
  let ij := (r.at? e.index).getD (0, 0)
  { row := r, i := ij.1, j := ij.2, part := e.part, index := e.index, sub := e.sub }

/-- What follows the answer to a saved write: sessions whose credential is gone close (R539). -/
def State.afterSave (t : Target) (v : Bytes) (s : State) : State :=
  if t.row.name = "CREDENTIALS" then s.closeRemoved (some t.i) v
  else if t.row.name = "OPERATOR_CREDENTIALS" then s.closeRemoved none v else s

/-! ### Block transfers (R71 to R74) -/

/-- A READ_BLOCK that has been admitted. -/
def State.answerReadBlock (rq : Request) (w : Who) (s : State) : State :=
  match s.readAccess w rq.frame with
  | .inl code => s.abort rq w code
  | .inr t =>
    if t.row.name = "ATTEST_REPORT" ∨ t.row.name = "ATTEST_REPORT_DEVICE" then s.attest rq w t
    else
      let c := if t.row.name = "OBJECT_WINDOW" then s.windowCode w t.p (s.selection w.owner).2.2 false else (0, s)
      if c.1 ≠ 0 then c.2.abort rq w c.1
      else
        let r := c.2.valueOf w t
        r.2.startRead rq w t r.1

/-- READ_BLOCK. -/
def State.serveReadBlock (rq : Request) (s : State) : State :=
  match s.admitted rq 3 (fun p => p.length == 4) with
  | .stop s => s
  | .go w s => s.answerReadBlock rq w

/-- READ_BLOCK (R73). -/
def execReadBlock (rq : Request) (s : State) : Host.Outcome State Fault Refusal := settled s (s.serveReadBlock rq)

/-- A WRITE_BLOCK that has been admitted: the checks that the first request allows, and the transfer opens. -/
def State.answerWriteBlock (rq : Request) (w : Who) (s : State) : State :=
  let f := rq.frame
  let total := ofBE (f.payload.take 4)
  match s.writeAccess (s.elevate rq w) f true with
  | .inl code => s.abort rq w code
  | .inr t =>
    if !t.row.fitsLength total then s.abort rq w 0x0E09
    else
      let c := if t.row.name = "OBJECT_WINDOW" then s.windowCode w t.p total true else (0, s)
      if c.1 ≠ 0 then c.2.abort rq w c.1
      else match c.2.blockBusy w.owner true t with
        | 0 =>
          let s := c.2.respond rq w 0 0 (be 2 16 ++ be 2 1024)
          let b : Block := { owner := w.owner, who := w, write := true, part := t.part, index := t.index, sub := t.sub, typ := t.row.ty, total := total,
                             crc := ofBE (f.payload.drop 4), lastSeq := f.seq }
          s.modSvc fun x => { x with blocks := (x.blocks.filter fun e => e.owner != w.owner) ++ [b] }
        | 1 => c.2.abort rq w 0x0E0C
        | _ => c.2.refuseShared w.tenant rq w 0x0E0C

/-- WRITE_BLOCK. -/
def State.serveWriteBlock (rq : Request) (s : State) : State :=
  match s.admitted rq 4 (fun p => p.length == 8) with
  | .stop s => s
  | .go w s => s.answerWriteBlock rq w

/-- WRITE_BLOCK (R72). -/
def execWriteBlock (rq : Request) (s : State) : Host.Outcome State Fault Refusal := settled s (s.serveWriteBlock rq)

/-- A transfer with one more segment: it goes on from the bytes received, or shows a gap, from which the sender resends (R71); a segment
beyond a gap is not held (assumption 28). -/
def Block.take_ (b : Block) (f : Frame) : Block :=
  let off := ofBE (f.payload.take 4)
  let b := { b with lastSeq := f.seq, sinceAck := b.sinceAck + 1 }
  if off ≤ b.value.length then { b with value := b.value ++ (f.payload.drop 4).drop (b.value.length - off), gap := false } else { b with gap := true }

/-- The SEGMENT_ACK of a transfer: the first byte not received. -/
def Block.ack (b : Block) : Frame :=
  { op := 9, flags := if b.who.tagged then 4 else 0, session := b.owner.sessionId, seq := b.lastSeq, index := b.index, sub := b.sub, payload := be 4 b.value.length }

/-- Changes an open transfer. -/
def State.setBlock (b b' : Block) (s : State) : State := s.modSvc fun x => { x with blocks := x.blocks.map fun e => if e = b then b' else e }

/-- The check of a transfer that is whole, and the commit in one step (R72), behind the earlier writes of the object (R67). -/
def State.finishBlock (b : Block) (rq : Request) (w : Who) (s : State) : State :=
  if b.value.length ≠ b.total ∨ crc32 b.value ≠ b.crc then s.abortBlock b 0x0E11
  else
    let rq := { rq with frame := { rq.frame with op := 4, typ := b.typ, payload := b.value } }
    let s := s.modSvc fun x => { x with blocks := x.blocks.erase b }
    if s.behind rq w then s.queueRequest rq w true else s.finishWrite rq w true

/-- A SEGMENT that has been admitted. -/
def State.takeSegment (rq : Request) (w : Who) (s : State) : State :=
  let f := rq.frame
  match s.svc.blocks.find? fun b => b.write && b.owner == w.owner && b.index == f.index && b.sub == f.sub with
  | none => s
  | some b =>
    let off := ofBE (f.payload.take 4)
    let stop := off + (f.payload.length - 4)
    if b.value.length + 16384 < off then
      let b' := { b with lastSeq := f.seq }
      (s.setBlock b b').abortBlock b' 0x0E10
    else if stop ≤ b.value.length then s
    else
      let b' := b.take_ f
      let due : Bool := b'.sinceAck == 16
      let b'' := if due then { b' with sinceAck := 0, gap := false } else b'
      let s := s.setBlock b b''
      let s := if due then s.deliver w.source b''.ack else s
      if f.flags.testBit 1 ∧ off ≤ b.value.length then s.finishBlock b'' rq w else s

/-- A SEGMENT of a sender that may send one. -/
def State.answerSegment (rq : Request) (w : Who) (s : State) : State := if w.isAnon then s.abort rq w 0x0E06 else s.takeSegment rq w

/-- SEGMENT. -/
def State.serveSegment (rq : Request) (s : State) : State :=
  match s.admitted rq 8 (fun p => decide (5 ≤ p.length) && decide (p.length ≤ 1028)) with
  | .stop s => s
  | .go w s => s.answerSegment rq w

/-- A SEGMENT_ACK that has been admitted: the transfer goes on from NEXT_OFFSET, and ends when that is its end. Session 0 carries one too, for
the READ_BLOCK that R65 allows there (assumption 28). -/
def State.answerSegmentAck (rq : Request) (w : Who) (s : State) : State :=
  let off := ofBE rq.frame.payload
  match s.svc.blocks.find? fun b => !b.write && b.owner == w.owner && b.index == rq.frame.index && b.sub == rq.frame.sub with
  | none => s
  | some b =>
    if b.total < off then s
    else if off = b.total then s.modSvc fun x => { x with blocks := x.blocks.erase b }
    else s.continueRead b off

/-- SEGMENT_ACK. -/
def State.serveSegmentAck (rq : Request) (s : State) : State :=
  match s.admitted rq 9 (fun p => p.length == 4) with
  | .stop s => s
  | .go w s => s.answerSegmentAck rq w

/-- SEGMENT_ACK (R71). -/
def execSegmentAck (rq : Request) (s : State) : Host.Outcome State Fault Refusal := settled s (s.serveSegmentAck rq)

/-- SEGMENT_GAP_TIMER (R71): 8 ms after the k-th open transfer found a gap. -/
def execSegmentGapTimer (k : Nat) (s : State) : Host.Outcome State Fault Refusal :=
  settled s (match s.svc.blocks[k]? with
    | none => s
    | some b => if !b.write ∨ !b.gap then s else (s.setBlock b { b with gap := false }).deliver b.who.source b.ack)

/-- BLOCK_TIMEOUT (R72): 500 ms with no segment of the k-th open transfer. -/
def execBlockTimeout (k : Nat) (s : State) : Host.Outcome State Fault Refusal :=
  settled s (match s.svc.blocks[k]? with
    | none => s
    | some b => if b.write then s.abortBlock b 0x0E12 else s)

/-! ### Subscriptions (R75, R76) -/

/-- Changes a subscription. -/
def State.modSub (id : Nat) (f : Subscription → Subscription) (s : State) : State := s.modSvc fun x => { x with subs := x.subs.map fun e => if e.id = id then f e else e }

/-- The value of the object of a subscription, as its subscriber reads it. -/
def State.subValue (e : Subscription) (s : State) : Bytes × State :=
  match s.find e.who e.index e.sub with
  | .inl _ => ([], s)
  | .inr t => s.valueOf e.who t

/-- Whether MODE and PERIOD_US are legal for an object (R75): a stream is of a DOMAIN, and an object that only streams has no value. -/
def modeOk (mode period : Nat) (t : Target) : Bool :=
  if mode = 0 then true
  else if mode = 1 then t.row.rd && decide (period ≤ 3600000000)
  else if mode = 2 then t.row.rd && decide (1000 ≤ period) && decide (period ≤ 3600000000)
  else mode == 3 && t.row.ty == 14

/-- The subscription of a sender to an object. -/
def State.subOf (s : State) (w : Who) (t : Target) : Option Subscription :=
  s.svc.subs.find? fun e => e.who.owner == w.owner && e.part == t.part && e.index == t.index && e.sub == t.sub

/-- Whether one more subscription passes the limits of R75. -/
def State.subsFull (s : State) (w : Who) : Bool :=
  decide (256 ≤ s.svc.subs.length) || decide (32 ≤ (s.svc.subs.filter fun e => e.who.owner == w.owner).length) ||
  (w.tenant.isSome && decide (32 ≤ (s.svc.subs.filter fun e => e.who.tenant == w.tenant).length))

/-- A SUBSCRIBE that has been admitted. -/
def State.answerSubscribe (rq : Request) (w : Who) (s : State) : State :=
  let f := rq.frame
  let mode := ofBE (f.payload.take 1)
  let period := ofBE (f.payload.drop 4)
  match s.find w f.index f.sub with
  | .inl code => s.abort rq w code
  | .inr t =>
    if !t.row.rd ∧ t.row.wr then s.abort rq w 0x0E06
    else if f.typ ≠ 0 ∧ f.typ ≠ t.row.ty then s.abort rq w 0x0E08
    else if !modeOk mode period t then s.abort rq w 0x0E0A
    else
      let old := s.subOf w t
      if mode = 0 then
        let s := s.modSvc fun x => { x with subs := x.subs.filter fun e => some e.id != old.map (·.id) }
        s.respond rq w 0 0 (be 4 ((old.map (·.id)).getD 0))
      else if old.isNone ∧ s.subsFull w then s.abort rq w 0x0E13
      else
        let v := if mode = 1 then s.valueOf w t else ([], s)
        let s := v.2
        match old with
        | some e => (s.modSub e.id fun x => { x with mode := mode, periodUs := period, last := v.1, held := none, queue := [], streamOffset := 0, who := w }).respond rq w 0 0 (be 4 e.id)
        | none =>
          let id := s.svc.nextSub
          let e : Subscription := { id := id, who := w, part := t.part, index := t.index, sub := t.sub, typ := t.row.ty, mode := mode, periodUs := period, last := v.1 }
          (s.modSvc fun x => { x with subs := x.subs ++ [e], nextSub := id + 1 }).respond rq w 0 0 (be 4 id)

/-- SUBSCRIBE. -/
def State.serveSubscribe (rq : Request) (s : State) : State :=
  match s.admitted rq 5 (fun p => p.length == 8 && ofBE (slice p 1 3) == 0) with
  | .stop s => s
  | .go w s => s.answerSubscribe rq w

/-- SUBSCRIBE (R75). -/
def execSubscribe (rq : Request) (s : State) : Host.Outcome State Fault Refusal := settled s (s.serveSubscribe rq)

/-- The next SEQ of the part's own notifications to a sender, each from 1 in its own series (R64). -/
def State.nextNotify (w : Who) (s : State) : Nat × State :=
  match w.owner, w.source with
  | .session id, _ =>
    let n := ((s.svc.sessions.find? fun e => e.id == id).map (·.notifySeq)).getD 0 + 1
    (n, s.modSvc fun x => { x with sessions := x.sessions.map fun e => if e.id = id then { e with notifySeq := n } else e })
  | _, .pcie fn =>
    let n := (s.svc.windows.getD fn {}).notifySeq + 1
    (n, s.modSvc fun x => { x with windows := x.windows.modify fn fun y => { y with notifySeq := n } })
  | o, _ =>
    let n := ((s.svc.notifySeqs.find? fun e => e.1 == o).map (·.2)).getD 0 + 1
    (n, s.modSvc fun x => { x with notifySeqs := (o, n) :: x.notifySeqs.filter fun e => e.1 != o })

/-- The bytes that a notification takes in a ring: its length, the frame, and padding to a multiple of 4 (R61). -/
def ringBytesOf (f : Frame) : Nat := (4 + frameLength f + 3) / 4 * 4

/-- Writes a notification into the ring of a function: where it ends, or none where the ring is full or off (R60, R61). -/
def State.ringNotify (fn : Nat) (f : Frame) (s : State) : Option Nat × State :=
  let x := s.svc.windows.getD fn {}
  let f := s.sign f
  if x.ringBase = 0 ∨ x.ringBytes = 0 then (none, s)
  else if x.ringBytes ≤ (x.head + x.ringBytes - x.tail) % x.ringBytes + ringBytesOf f then
    (none, s.modSvc fun y => { y with windows := y.windows.modify fn fun z => { z with overflow := true } })
  else
    let h := (x.head + ringBytesOf f) % x.ringBytes
    (some h, ((s.modSvc fun y => { y with windows := y.windows.modify fn fun z => { z with head := h } }).send (.frame (.pcie fn) f)).send (.msix fn 1))

/-- Sends a notification the way its subscriber is reached. -/
def State.sendNotify (w : Who) (f : Frame) (s : State) : Option Nat × State :=
  match w.source with
  | .pcie fn => s.ringNotify fn f
  | src => (none, s.send (.frame src (s.sign f)))

/-- A NOTIFY of a subscription (R55, R76). STREAM_OFFSET is the count of the stream's bytes before those that the frame carries
(assumption 29). -/
def State.notify (e : Subscription) (status : Nat) (v : Bytes) (s : State) : State :=
  let n := s.nextNotify e.who
  let f : Frame := { op := 6, flags := if e.who.tagged then 4 else 0, typ := e.typ, session := e.who.owner.sessionId, seq := n.1, index := e.index, sub := e.sub,
                     payload := be 4 e.id ++ be 8 e.streamOffset ++ v, status := status }
  let r := n.2.sendNotify e.who f
  r.2.modSub e.id fun x => { x with unanswered := x.unanswered ++ [{ seq := n.1, frame := f, pos := r.1 }],
                                    streamOffset := if x.mode = 3 then x.streamOffset + v.length else x.streamOffset }

/-- The most value bytes of a NOTIFY. -/
def notifyRoom : Nat := 1268

/-- A stream sends what waits, as far as the 16 unanswered notifications allow. -/
def State.streamOut (id : Nat) : Nat → State → State
  | 0, s => s
  | n + 1, s => match s.svc.subs.find? fun e => e.id == id with
    | none => s
    | some e =>
      if e.mode ≠ 3 ∨ e.queue = [] ∨ 16 ≤ e.unanswered.length then s
      else ((s.modSub id fun x => { x with queue := x.queue.drop notifyRoom }).notify e 0 (e.queue.take notifyRoom)).streamOut id n

/-- The records of the capture units go to their streams, as long as every stream of the unit has room (R471). -/
def State.pullCaptures (s : State) : State := (List.range 16).foldl (fun s u =>
  let mine := s.svc.subs.filter fun e => e.mode == 3 && e.index == 0x1780 + u && e.sub == 3
  let x := s.time.captures.getD u {}
  if mine.isEmpty ∨ x.undelivered.isEmpty ∨ mine.any (fun e => decide (16 ≤ e.unanswered.length)) then s
  else { s with time := { s.time with captures := s.time.captures.modify u fun y => { y with undelivered := [] } } }.streamAppend 0 (0x1780 + u) 3 x.undelivered.flatten) s

/-- The signals of completions become held notifications (R371). -/
def State.pullSignals (s : State) : State :=
  let owed := s.svc.signals
  let s := s.modSvc fun x => { x with signals := [] }
  (s.svc.subs.filter fun e => (e.mode == 1 || e.mode == 2) && owed.contains (e.part, e.index, e.sub)).foldl (fun s e =>
    let v := s.subValue e
    v.2.modSub e.id fun x => { x with held := some v.1 }) s

/-- Every stream sends what waits. -/
def State.flushStreams (s : State) : State :=
  let s := s.pullCaptures
  (s.svc.subs.filter fun e => e.mode == 3).foldl (fun s e => s.streamOut e.id 16) s

/-- A change or a period is notified, or held while 16 notifications are unanswered. -/
def State.notifyValue (e : Subscription) (v : Bytes) (s : State) : State :=
  if 16 ≤ e.unanswered.length then s.modSub e.id fun x => { x with held := some v }
  else (s.modSub e.id fun x => { x with held := none, last := v }).notify e 0 (v.take notifyRoom)

/-- SUBSCRIPTION_PERIOD (R75, R371): a subscription may notify now. -/
def execSubscriptionPeriod (id : Nat) (s : State) : Host.Outcome State Fault Refusal :=
  settled s (
    let s := s.pullSignals
    match s.svc.subs.find? fun e => e.id == id with
    | none => s
    | some e =>
      if e.mode = 3 then s.pullCaptures.streamOut id 16
      else
        let v := s.subValue e
        if e.mode = 1 ∧ v.1 = e.last ∧ e.held.isNone then v.2 else v.2.notifyValue e v.1)

/-- The notification of a sender that carries a SEQ is answered (R76). -/
def State.answered (o : Owner) (seq : Nat) (s : State) : State :=
  s.modSvc fun x => { x with subs := x.subs.map fun e => if e.who.owner = o then { e with unanswered := e.unanswered.filter fun u => u.seq != seq } else e }

/-- Whether a frame is a NOTIFY response as its sender may send one: no transport but PCIe, whose frames the tail acknowledges (R61), takes it. -/
def notifyResponse (rq : Request) : Bool :=
  let f := rq.frame
  f.response && decide (f.flags < 8) && f.reserved == 0 && f.payload.isEmpty && (match rq.source with
    | .pcie _ => false
    | _ => true)

/-- A frame with the operation code of NOTIFY: the response to a notification, found by its SEQ in the part's own series (R64, R76). A client
sends no NOTIFY of its own (R55): in session 0 it is answered ACCESS_DENIED (R65), elsewhere MALFORMED. -/
def State.serveNotify (rq : Request) (s : State) : State :=
  let f := rq.frame
  if !f.response then (match s.admitted rq 6 (fun _ => true) with
    | .stop s => s
    | .go w s => s.abort rq w (if w.isAnon then 0x0E06 else 0x0E03))
  else if !s.listens rq.source ∨ f.op ≠ 6 then s
  else
    let s := s.countOnnum 0
    match rq.defect with
    | .short => s.countOnnum 2
    | .fragment => s.countOnnum 3
    | .none =>
      if f.version ≠ 1 then s.abort rq (plainWho rq.source) 0x0E02
      else match s.sender rq with
        | none => (s.countOnnum 4).logViolation 0x0E0E ((s.namedTenant f).getD 0xFF) (sourceCode rq.source) []
        | some (.inl code) => s.abort rq (s.stranger rq) code
        | some (.inr w) => if notifyResponse rq then (s.heard w).answered w.owner f.seq else s.abort rq w 0x0E03

/-- NOTIFY_RESPONSE (R76): the response to a notification, whose sender is found as for a request. -/
def execNotifyResponse (rq : Request) (s : State) : Host.Outcome State Fault Refusal := settled s (s.serveNotify rq)

/-- NOTIFY_RESEND_TIMER (R76): a notification unanswered for 16 ms, or for 32 ms, goes out again. -/
def execNotifyResendTimer (id seq : Nat) (s : State) : Host.Outcome State Fault Refusal :=
  settled s (match s.svc.subs.find? fun e => e.id == id with
    | none => s
    | some e => match e.unanswered.find? fun u => u.seq == seq with
      | none => s
      | some u =>
        if 3 ≤ u.attempts then s
        else
          let r := s.sendNotify e.who u.frame
          r.2.modSub id fun x => { x with unanswered := x.unanswered.map fun y => if y.seq = seq then { y with attempts := y.attempts + 1, pos := u.pos.or r.1 } else y })

/-- SUBSCRIPTION_DROPPED (R76): a stream with 16 unanswered notifications, none answered for 1 s, is cancelled. -/
def execSubscriptionDropped (id : Nat) (s : State) : Host.Outcome State Fault Refusal :=
  settled s (match s.svc.subs.find? fun e => e.id == id with
    | none => s
    | some e => if e.mode ≠ 3 ∨ e.unanswered.length < 16 then s
      else (s.notify e 0x0E1B []).modSvc fun x => { x with subs := x.subs.filter fun y => y.id != id })

/-! ### Sessions (R62 to R66) -/

/-- The key of the credential that a SESSION_OPEN names. -/
def State.openKey (s : State) (cls part id : Nat) : Option Bytes :=
  if cls = 1 then credentialKey (s.obj 0 (0x3052 + 0x100 * part) 1) id else credentialKey (s.obj 0 0x1B10 2) id

/-- Whether one more session of a class passes the limits of R66. -/
def State.sessionsFull (s : State) (tenant : Option Nat) : Bool :=
  decide (64 ≤ s.svc.sessions.length) || decide (8 ≤ (s.svc.sessions.filter fun e => e.tenant == tenant).length)

/-- Whether the payload of a SESSION_OPEN is well formed. -/
def openPayload (p : Bytes) : Bool :=
  let cls := ofBE (p.take 1)
  let part := ofBE (slice p 1 1)
  p.length == 201 && ofBE (slice p 2 2) == 0 && ((cls == 1 && decide (part < 8)) || (cls == 2 && part == 0))

/-- A SESSION_OPEN that has been admitted (R62): the part draws an ephemeral key, signs with its identity key, and both sides derive the session
key. -/
def State.answerOpen (rq : Request) (w : Who) (s : State) : State :=
  let p := rq.frame.payload
  let cls := ofBE (p.take 1)
  let part := ofBE (slice p 1 1)
  let cred := ofBE (slice p 4 4)
  if !w.isAnon then s.abort rq w 0x0E03
  else
    let good : Bool := match s.openKey cls part cred with
      | some k => Config.verifies k (p.take 105) (p.drop 105)
      | none => false
    let tenant := if cls = 1 then some part else none
    if !good then s.abort rq w 0x0E06
    else if s.sessionsFull tenant then s.refuseShared tenant rq w 0x0E14
    else
      let id := s.svc.nextSession
      let r := s.drawScalar
      let head := be 4 id ++ publicBytes r.1
      let sig := r.2.identitySign (p ++ head)
      let e : Session := { id := id, source := rq.source, tenant := tenant, credential := cred, lastFrameNs := s.nowNs,
                           key := sessionKey r.1 (slice p 8 97) (slice p 8 97) (publicBytes r.1) }
      let s := sig.2.modSvc fun x => { x with sessions := x.sessions ++ [e], nextSession := id + 1 }
      s.respond rq w 0 0 (head ++ sig.1)

/-- SESSION_OPEN. -/
def State.serveOpen (rq : Request) (s : State) : State :=
  match s.admitted rq 0x10 openPayload with
  | .stop s => s
  | .go w s => s.answerOpen rq w

/-- SESSION_OPEN (R62, R66). -/
def execSessionOpen (rq : Request) (s : State) : Host.Outcome State Fault Refusal := settled s (s.serveOpen rq)

/-- A SESSION_CLOSE that has been admitted: the answer, then the end of the session. -/
def State.answerClose (rq : Request) (w : Who) (s : State) : State :=
  match w.owner with
  | .session id => (s.ok rq w).closeSession id
  | .anon _ => s.abort rq w 0x0E06
  | _ => s.abort rq w 0x0E03

/-- SESSION_CLOSE. -/
def State.serveClose (rq : Request) (s : State) : State :=
  match s.admitted rq 0x11 (fun p => p.isEmpty) with
  | .stop s => s
  | .go w s => s.answerClose rq w

/-- SESSION_CLOSE (R66). -/
def execSessionClose (rq : Request) (s : State) : Host.Outcome State Fault Refusal := settled s (s.serveClose rq)

/-- SESSION_IDLE_TIMEOUT (R66): SESSION_IDLE_S without a valid frame. -/
def execSessionIdleTimeout (id : Nat) (s : State) : Host.Outcome State Fault Refusal :=
  settled s (match s.svc.sessions.find? fun e => e.id == id with
    | none => s
    | some e => (s.reach ((e.lastFrameNs + s.cfg 0x1250 3 * 1000000000) * 2 ^ 32)).closeSession id)

/-! ### The PCIe window (R60, R61) -/

/-- The frame goes to what its operation code asks for. -/
def State.serveFrame (rq : Request) (s : State) : State :=
  match rq.frame.op with
  | 2 => s.serveWriteAny rq
  | 3 => s.serveReadBlock rq
  | 4 => s.serveWriteBlock rq
  | 5 => s.serveSubscribe rq
  | 6 => s.serveNotify rq
  | 7 => s.serveDoorbell rq
  | 8 => s.serveSegment rq
  | 9 => s.serveSegmentAck rq
  | 0x10 => s.serveOpen rq
  | 0x11 => s.serveClose rq
  | _ => s.serveRead rq

/-- NOTIFY_TAIL (R60, R61): a write of a notification register of a function's window. NOTIFY_TAIL, at 0x2018, acknowledges the frames
up to that offset; NOTIFY_RING_BASE (0x2008) and NOTIFY_RING_BYTES (0x2010) bind the ring, which starts empty. -/
def execNotifyTail (fn register value : Nat) (s : State) : Host.Outcome State Fault Refusal :=
  settled s (
    let x := s.svc.windows.getD fn {}
    let set := fun (g : Window → Window) (s : State) => s.modSvc fun y => { y with windows := y.windows.modify fn g }
    if 9 ≤ fn ∨ s.mode < 4 then s
    else if register = 0x2008 then (if value % 4096 = 0 ∧ value < 2 ^ 64 then set (fun y => { y with ringBase := value, head := 0, tail := 0 }) s else s)
    else if register = 0x2010 then (if (List.range 7).any (fun i => value == 2 ^ (14 + i)) then set (fun y => { y with ringBytes := value, head := 0, tail := 0 }) s else s)
    else if register ≠ 0x2018 ∨ x.ringBytes ≤ value then s
    else
      let far := fun (n : Nat) => (n + x.ringBytes - x.tail) % x.ringBytes
      let done := fun (u : Unanswered) => match u.pos with
        | some n => decide (far n ≤ far value) && decide (0 < far value)
        | none => false
      let ack := fun (e : Subscription) => if e.who.source = .pcie fn then { e with unanswered := e.unanswered.filter fun u => !done u } else e
      (set (fun y => { y with tail := value }) s).modSvc fun y => { y with subs := y.subs.map ack })

/-- WINDOW_STATUS_READ (R60): the overflow bit is cleared by the read. -/
def execWindowStatusRead (fn : Nat) (s : State) : Host.Outcome State Fault Refusal :=
  settled s (if 9 ≤ fn ∨ s.mode < 4 then s
    else
      let x := s.svc.windows.getD fn {}
      (s.modSvc fun y => { y with windows := y.windows.modify fn fun z => { z with overflow := false } }).send
        (.pcieRead fn (le 4 (b01 x.reqPending + 2 * b01 x.overflow))))

/-! ### The dictionary queue (R67, R548) -/

/-- A request that has waited its turn is executed. -/
def State.answerQueued (rq : Request) (w : Who) (whole : Bool) (s : State) : State :=
  match rq.frame.op with
  | 1 => s.answerRead rq w
  | 2 => s.finishWrite rq w false
  | 3 => s.answerReadBlock rq w
  | 4 => if whole then s.finishWrite rq w true else s.answerWriteBlock rq w
  | 5 => s.answerSubscribe rq w
  | 8 => s.answerSegment rq w
  | 9 => s.answerSegmentAck rq w
  | 0x11 => s.answerClose rq w
  | _ => s

/-- The first queued request whose turn has come: its sender has nothing in hand before it, and no earlier one writes its object. -/
def State.nextQueued (s : State) : List (Request × Who × Bool) → List (Request × Who × Bool) → Option (Request × Who × Bool)
  | _, [] => none
  | before, e :: rest =>
    let waits := (s.svc.saving.any fun x => x.who.owner == e.2.1.owner) || (s.svc.heldReqs.any fun x => x.2.owner == e.2.1.owner) ||
      before.any fun x => x.2.1.owner == e.2.1.owner || s.sameObject e.1 e.2.1 x
    if waits then s.nextQueued (before ++ [e]) rest else some e

/-- The queued requests whose turn has come are executed, in their order. -/
def State.serveQueued : Nat → State → State
  | 0, s => s
  | n + 1, s =>
    match s.nextQueued [] s.svc.queued with
    | none => s
    | some e => State.serveQueued n ((s.modSvc fun x => { x with queued := x.queued.erase e }).answerQueued e.1 e.2.1 e.2.2)

/-- Every queued request whose turn has come is executed. -/
def State.serveAll (s : State) : State := s.serveQueued s.svc.queued.length

/-- The oldest program of a SAVED value completes or fails (R51). A value that a write committed meanwhile has made illegal aborts, and changes
nothing: its checks are made again (R359, R361 to R364, assumption 15). -/
def State.programmed (ok : Bool) (e : Saving) (rest : List Saving) (s : State) : State :=
  let s := (s.reach (e.beginNs * 2 ^ 32)).modSvc fun x => { x with saving := rest }
  if !ok then s.abort e.request e.who 0x0E17 e.braced
  else match e.target with
    | none => s
    | some t =>
      let c := checkAny e.who t e.value s
      if c.1 ≠ 0 then c.2.abort e.request e.who c.1 e.braced
      else
        let s := (commitAny e.who t e.value s).modRas fun x => { x with savedGen := x.savedGen + 1, savedCopy := 1 - x.savedCopy }
        (s.ok e.request e.who e.braced).afterSave t e.value

/-- The programs that wait complete or fail, with what waits behind them. -/
def State.finishSaves : Nat → State → State
  | 0, s => s
  | n + 1, s => match s.svc.saving with
    | [] => s
    | e :: rest =>
      let r := s.free
      State.finishSaves n (r.2.programmed (r.1 % 2 == 0) e rest).serveAll

/-- The end of the dictionary at a descent from ATTEND that has been accepted (R69): every request accepted is completed and answered, open
block transfers abort, and every session closes. Whether a program that it waits for succeeds is free. -/
def State.finishService (s : State) : State :=
  if !s.svc.closing then s
  else
    let held := s.svc.heldReqs
    let s := s.modSvc fun x => { x with closing := false, heldReqs := [] }
    let s := (held.foldl (fun s e => s.abort e.1 e.2 (if e.1.frame.op = 0x10 then 0x0E14 else 0x0E0C)) s).serveAll
    (s.finishSaves (s.svc.saving.length + s.svc.queued.length)).stopService

/-! ### Commands that may write any object, or begin a descent from ATTEND -/

/-- WRITE (R56). -/
def execWrite (rq : Request) (s : State) : Host.Outcome State Fault Refusal := settled s (s.serveWriteAny rq).finishService

/-- SEGMENT (R71, R72). -/
def execSegment (rq : Request) (s : State) : Host.Outcome State Fault Refusal := settled s (s.serveSegment rq).finishService

/-- The frame in REQ_BUF of a function, which the operand spells, of a length (R60, R61). -/
def State.submitWindow (fn length : Nat) (f : Frame) (tagOk : Bool) (s : State) : State :=
    if 9 ≤ fn ∨ !s.listens (.pcie fn) then s
    else if (s.svc.windows.getD fn {}).reqPending then s.logViolation 0x0E19 (if fn = 0 then 0xFF else fn - 1) (sourceCode (.pcie fn)) []
    else
      let set := fun (g : Window → Window) (s : State) => s.modSvc fun x => { x with windows := x.windows.modify fn g }
      let s := set (fun x => { x with reqPending := true, rspLen := 0, reqBuf := wireBytes f }) s
      let short : Bool := decide (length < 20) || decide (4096 < length) || decide (length < frameLength f)
      let s := s.serveFrame { source := .pcie fn, frame := f, tagOk := tagOk, defect := if short then .short else .none }
      set (fun x => { x with reqPending := s.windowWaits fn }) s

/-- REQ_SUBMIT (R60, R61). -/
def execReqSubmit (fn length : Nat) (f : Frame) (tagOk : Bool) (s : State) : Host.Outcome State Fault Refusal :=
  settled s (s.submitWindow fn length f tagOk).finishService

/-- POWER_REQUEST (R496). -/
def execPowerRequest (rq : Request) (s : State) : Host.Outcome State Fault Refusal :=
  settled s (s.ownWrite "POWER_REQUEST" checkPowerRequest commitPowerRequest false rq).finishService

/-- ATTEND_IDLE_HOLD_EXPIRY (R29): while CHIME_REJECT_HOLD takes its place, it has no effect. -/
def execAttendIdleHoldExpiry (s : State) : Host.Outcome State Fault Refusal :=
  settled s (if s.power.shortHold = 2 then s else s.attendDescent).finishService

/-- CHIME_REJECT_HOLD_EXPIRY (R32). -/
def execChimeRejectHoldExpiry (s : State) : Host.Outcome State Fault Refusal :=
  settled s (if s.power.shortHold = 2 then s.attendDescent else s).finishService

/-- DESCENT_RETRY (R510): the refuser of an idle descent has cleared. -/
def execDescentRetry (s : State) : Host.Outcome State Fault Refusal := settled s s.retryDescent.finishService

/-- LISTEN_TO_ATTEND (R501, R503): SOC_PG as sampled, and the array inputs that pass their retest. -/
def execListenToAttend (pg : Bool) (pass : List Nat) (s : State) : Host.Outcome State Fault Refusal :=
  settled s (s.listenToAttend pg pass).finishService

/-- ATTEND_TO_ACTIVE (R504): the AVSBus acknowledgement as sampled. -/
def execAttendToActive (ack : Bool) (s : State) : Host.Outcome State Fault Refusal := settled s (s.attendToActive ack).finishService

/-- ACTIVE_TO_ATTEND (R505): the AVSBus acknowledgement as sampled. -/
def execActiveToAttend (ack : Bool) (s : State) : Host.Outcome State Fault Refusal := settled s (s.activeToAttend ack).finishService

/-- SAVED_WRITE_PROGRAMMED (R51, R67): the oldest program completes, and its value stands, or fails, and what waited behind it is executed;
a brace holds it. -/
def execSavedWriteProgrammed (ok : Bool) (s : State) : Host.Outcome State Fault Refusal :=
  settled s (match s.svc.saving with
    | [] => s
    | e :: rest => if s.power.braced then s else (s.programmed ok e rest).serveAll.finishService)

/-! ### Requests held to the next second (R550) -/

/-- HELD_REQUESTS_NEXT_SECOND (R550): a whole second begins, and the requests held are taken up again in their order. -/
def execHeldRequestsNextSecond (s : State) : Host.Outcome State Fault Refusal :=
  settled s (
    let held := s.svc.heldReqs
    let s := (s.reach ((s.nowNs / 1000000000 + 1) * 1000000000 * 2 ^ 32)).modSvc fun x => { x with heldReqs := [] }
    (held.foldl (fun s e => match e.1.frame.op with
      | 3 => s.answerReadBlock e.1 e.2
      | 4 => s.answerWriteBlock e.1 e.2
      | _ => s.answerOpen e.1 e.2) s).serveAll.finishService)

/-! ### The part's clocks between commands -/

/-- AUDCLK between two ticks of the clock in force (R386): 3 ticks for 50 of TIMECLK, or one for each tick of SECNS from LISTEN up. -/
def Afe.tick (mode : Nat) (x : Afe) : Afe :=
  if 4 ≤ mode then { x with atc := (x.atc + (x.phase + 3) / 50) % 2 ^ 64, phase := (x.phase + 3) % 50 }
  else if 2 ≤ mode then { x with atc := (x.atc + 1) % 2 ^ 64 } else x

/-- What the part does of itself between commands: one tick of its clocks; the trace drains and the streams send what waits. -/
def State.idle (s : State) : State :=
  let s := s.tick.modAfe (Afe.tick s.mode)
  if s.serving ∧ 4 ≤ s.mode then s.drainTrace.flushStreams else s

end Sys2Proof.Machine
end

