-- ==== Sys2Proof/Machine/Dispatch.lean ====
section
/-! DEFINITION. One arm per command: its meaning, or a rejection by name. -/

namespace Sys2Proof.Machine

def exec (i : Instr) (s : State) : Host.Outcome State Fault Refusal :=
  match i with
  | .read rq => Sys2Proof.Machine.execRead rq s
  | .write rq => Sys2Proof.Machine.execWrite rq s
  | .readBlock rq => Sys2Proof.Machine.execReadBlock rq s
  | .writeBlock rq => Sys2Proof.Machine.execWriteBlock rq s
  | .segment rq => Sys2Proof.Machine.execSegment rq s
  | .segmentAck rq => Sys2Proof.Machine.execSegmentAck rq s
  | .subscribe rq => Sys2Proof.Machine.execSubscribe rq s
  | .notifyResponse rq => Sys2Proof.Machine.execNotifyResponse rq s
  | .onnumDoorbell rq => Sys2Proof.Machine.execOnnumDoorbell rq s
  | .sessionOpen rq => Sys2Proof.Machine.execSessionOpen rq s
  | .sessionClose rq => Sys2Proof.Machine.execSessionClose rq s
  | .segmentGapTimer k => Sys2Proof.Machine.execSegmentGapTimer k s
  | .blockTimeout k => Sys2Proof.Machine.execBlockTimeout k s
  | .sessionIdleTimeout id => Sys2Proof.Machine.execSessionIdleTimeout id s
  | .notifyResendTimer id seq => Sys2Proof.Machine.execNotifyResendTimer id seq s
  | .subscriptionDropped id => Sys2Proof.Machine.execSubscriptionDropped id s
  | .subscriptionPeriod id => Sys2Proof.Machine.execSubscriptionPeriod id s
  | .reqSubmit fn length f tagOk => Sys2Proof.Machine.execReqSubmit fn length f tagOk s
  | .notifyTail fn register value => Sys2Proof.Machine.execNotifyTail fn register value s
  | .windowStatusRead fn => Sys2Proof.Machine.execWindowStatusRead fn s
  | .onnumClientResponse id status payload => Sys2Proof.Machine.execOnnumClientResponse id status payload s
  | .clientRetryTimer id => Sys2Proof.Machine.execClientRetryTimer id s
  | .peerUnreachableTimeout id => Sys2Proof.Machine.execPeerUnreachableTimeout id s
  | .savedWriteProgrammed ok => Sys2Proof.Machine.execSavedWriteProgrammed ok s
  | .errorClear rq => Sys2Proof.Machine.execErrorClear rq s
  | .violationClear rq => Sys2Proof.Machine.execViolationClear rq s
  | .refusalClear rq => Sys2Proof.Machine.execRefusalClear rq s
  | .activeIdleHoldExpiry => Sys2Proof.Machine.execActiveIdleHoldExpiry s
  | .attendIdleHoldExpiry => Sys2Proof.Machine.execAttendIdleHoldExpiry s
  | .chimeRejectHoldExpiry => Sys2Proof.Machine.execChimeRejectHoldExpiry s
  | .cascadeModels rq => Sys2Proof.Machine.execCascadeModels rq s
  | .answerRequest rq => Sys2Proof.Machine.execAnswerRequest rq s
  | .answerTokensRelay tokens => Sys2Proof.Machine.execAnswerTokensRelay tokens s
  | .nop p c core => Sys2Proof.Machine.execNop p c core s
  | .sync p c core => Sys2Proof.Machine.execSync p c core s
  | .syncComplete p c peal k => Sys2Proof.Machine.execSyncComplete p c peal k s
  | .signal p c core => Sys2Proof.Machine.execSignal p c core s
  | .waitTime p c core => Sys2Proof.Machine.execWaitTime p c core s
  | .waitTimeDeadline p c core => Sys2Proof.Machine.execWaitTimeDeadline p c core s
  | .move p c core => Sys2Proof.Machine.execMove p c core s
  | .prefetch p c core => Sys2Proof.Machine.execPrefetch p c core s
  | .mcast p c core => Sys2Proof.Machine.execMcast p c core s
  | .gather p c core => Sys2Proof.Machine.execGather p c core s
  | .scatter p c core => Sys2Proof.Machine.execScatter p c core s
  | .matmul p c core => Sys2Proof.Machine.execMatmul p c core s
  | .matmulAcc p c core => Sys2Proof.Machine.execMatmulAcc p c core s
  | .conv2d p c core => Sys2Proof.Machine.execConv2d p c core s
  | .fft p c core => Sys2Proof.Machine.execFft p c core s
  | .ewise p c core => Sys2Proof.Machine.execEwise p c core s
  | .pwl p c core => Sys2Proof.Machine.execPwl p c core s
  | .reduce p c core => Sys2Proof.Machine.execReduce p c core s
  | .norm p c core => Sys2Proof.Machine.execNorm p c core s
  | .softmax p c core => Sys2Proof.Machine.execSoftmax p c core s
  | .rotate p c core => Sys2Proof.Machine.execRotate p c core s
  | .convert p c core => Sys2Proof.Machine.execConvert p c core s
  | .attnDecode p c core => Sys2Proof.Machine.execAttnDecode p c core s
  | .attnPrefill p c core => Sys2Proof.Machine.execAttnPrefill p c core s
  | .kvAppend p c core => Sys2Proof.Machine.execKvAppend p c core s
  | .kvPublish p c core => Sys2Proof.Machine.execKvPublish p c core s
  | .streamStep p c core => Sys2Proof.Machine.execStreamStep p c core s
  | .streamGates p c core => Sys2Proof.Machine.execStreamGates p c core s
  | .streamRenorm p c core => Sys2Proof.Machine.execStreamRenorm p c core s
  | .streamMove p c core => Sys2Proof.Machine.execStreamMove p c core s
  | .peerSend p c core => Sys2Proof.Machine.execPeerSend p c core s
  | .peerReduce p c core => Sys2Proof.Machine.execPeerReduce p c core s
  | .endStroke p c core => Sys2Proof.Machine.execEnd p c core s
  | .strokeComplete p c core stroke => Sys2Proof.Machine.execStrokeComplete p c core stroke s
  | .tileBoundary p c core stroke => Sys2Proof.Machine.execTileBoundary p c core stroke s
  | .tokenTimeout p c core => Sys2Proof.Machine.execTokenTimeout p c core s
  | .sramUncorrectable slot acc bank line => Sys2Proof.Machine.execSramUncorrectable slot acc bank line s
  | .logicSelfCheckMismatch slot => Sys2Proof.Machine.execLogicSelfCheckMismatch slot s
  | .unitTimeout slot => Sys2Proof.Machine.execUnitTimeout slot s
  | .coreReplacementDone p logical => Sys2Proof.Machine.execCoreReplacementDone p logical s
  | .scratchpadPatrol slot bank line bit => Sys2Proof.Machine.execScratchpadPatrol slot bank line bit s
  | .patternLoad rq => Sys2Proof.Machine.execPatternLoad rq s
  | .patternUnload rq => Sys2Proof.Machine.execPatternUnload rq s
  | .bindings rq => Sys2Proof.Machine.execBindings rq s
  | .stepBoundary p c => Sys2Proof.Machine.execStepBoundary p c s
  | .submissionComplete p c asks tokens => Sys2Proof.Machine.execSubmissionComplete p c asks tokens s
  | .satGateDecision p c core => Sys2Proof.Machine.execSatGateDecision p c core s
  | .kvPool rq => Sys2Proof.Machine.execKvPool rq s
  | .slotImage rq => Sys2Proof.Machine.execSlotImage rq s
  | .slotMoveTo rq => Sys2Proof.Machine.execSlotMoveTo rq s
  | .slotClose rq => Sys2Proof.Machine.execSlotClose rq s
  | .autoChunkRelease p c k => Sys2Proof.Machine.execAutoChunkRelease p c k s
  | .streamGateUpdate p c => Sys2Proof.Machine.execStreamGateUpdate p c s
  | .prefetchBlockDelivered slot prefetcher => Sys2Proof.Machine.execPrefetchBlockDelivered slot prefetcher s
  | .cacheWayMask rq => Sys2Proof.Machine.execCacheWayMask rq s
  | .wayRemovalDeferred p => Sys2Proof.Machine.execWayRemovalDeferred p s
  | .sliceFailure slice lost => Sys2Proof.Machine.execSliceFailure slice lost s
  | .dramRefresh waiting => Sys2Proof.Machine.execDramRefresh waiting s
  | .refreshPeriodSelect highest => Sys2Proof.Machine.execRefreshPeriodSelect highest s
  | .dramRetrain waiting => Sys2Proof.Machine.execDramRetrain waiting s
  | .dramCorrectedError group lane row => Sys2Proof.Machine.execDramCorrectedError group lane row s
  | .dramUncorrectable group handle p c core stroke => Sys2Proof.Machine.execDramUncorrectable group handle p c core stroke s
  | .dramRefetchDone p handle => Sys2Proof.Machine.execDramRefetchDone p handle s
  | .dramPatrolScrub group lines errors => Sys2Proof.Machine.execDramPatrolScrub group lines errors s
  | .flashWindowOpen second reads bad => Sys2Proof.Machine.execFlashWindowOpen second reads bad s
  | .flashWindowClose => Sys2Proof.Machine.execFlashWindowClose s
  | .flashReadRetry p handle outcome die block page => Sys2Proof.Machine.execFlashReadRetry p handle outcome die block page s
  | .objectCreate rq => Sys2Proof.Machine.execObjectCreate rq s
  | .objectSeal rq => Sys2Proof.Machine.execObjectSeal rq s
  | .sealComplete handle => Sys2Proof.Machine.execSealComplete handle s
  | .objectClaim rq => Sys2Proof.Machine.execObjectClaim rq s
  | .claimComplete p handle => Sys2Proof.Machine.execClaimComplete p handle s
  | .objectDelete rq => Sys2Proof.Machine.execObjectDelete rq s
  | .deferredDelete handle => Sys2Proof.Machine.execDeferredDelete handle s
  | .objectWindowSel rq => Sys2Proof.Machine.execObjectWindowSel rq s
  | .objectWindow rq => Sys2Proof.Machine.execObjectWindow rq s
  | .readoptObject handle digestMatches => Sys2Proof.Machine.execReadoptObject handle digestMatches s
  | .meshFlitUncorrectable router port p c core stroke => Sys2Proof.Machine.execMeshFlitUncorrectable router port p c core stroke s
  | .peerDataFrame port f => Sys2Proof.Machine.execPeerDataFrame port f s
  | .peerReduceChainFrame port f => Sys2Proof.Machine.execPeerReduceChainFrame port f s
  | .peerReduceOutFrame port f => Sys2Proof.Machine.execPeerReduceOutFrame port f s
  | .peerAckE2e port f => Sys2Proof.Machine.execPeerAckE2e port f s
  | .peerAbort port f => Sys2Proof.Machine.execPeerAbort port f s
  | .peerPathDown port f => Sys2Proof.Machine.execPeerPathDown port f s
  | .peerReserve port f code => Sys2Proof.Machine.execPeerReserve port f code s
  | .peerIdentify port id topology member node partnerPort => Sys2Proof.Machine.execPeerIdentify port id topology member node partnerPort s
  | .peerFrameCrcError port => Sys2Proof.Machine.execPeerFrameCrcError port s
  | .peerNak port ackSeq => Sys2Proof.Machine.execPeerNak port ackSeq s
  | .retryBudgetSpent port => Sys2Proof.Machine.execRetryBudgetSpent port s
  | .peerLaneFail port lane => Sys2Proof.Machine.execPeerLaneFail port lane s
  | .portTrainingDone port ok => Sys2Proof.Machine.execPortTrainingDone port ok s
  | .peerPortFailed port => Sys2Proof.Machine.execPeerPortFailed port s
  | .collTimeout p c core stroke => Sys2Proof.Machine.execCollTimeout p c core stroke s
  | .partitionRun rq => Sys2Proof.Machine.execPartitionRun rq s
  | .partitionReset rq => Sys2Proof.Machine.execPartitionReset rq s
  | .tenantReset rq => Sys2Proof.Machine.execTenantReset rq s
  | .partitionResetDone p => Sys2Proof.Machine.execPartitionResetDone p s
  | .ctxClass rq => Sys2Proof.Machine.execCtxClass rq s
  | .doorbell rq => Sys2Proof.Machine.execDoorbell rq s
  | .beatStart p c k => Sys2Proof.Machine.execBeatStart p c k s
  | .releaseTime p c => Sys2Proof.Machine.execReleaseTime p c s
  | .urgentDoorbellRelease p c => Sys2Proof.Machine.execUrgentDoorbellRelease p c s
  | .powerDutyUpdate means => Sys2Proof.Machine.execPowerDutyUpdate means s
  | .chainSettleEnd tchirix => Sys2Proof.Machine.execChainSettleEnd tchirix s
  | .micInputFailed input => Sys2Proof.Machine.execMicInputFailed input s
  | .atcMapSample atc ticks => Sys2Proof.Machine.execAtcMapSample atc ticks s
  | .beamTable rq => Sys2Proof.Machine.execBeamTable rq s
  | .beamTableApply => Sys2Proof.Machine.execBeamTableApply s
  | .featureFrame source frame x => Sys2Proof.Machine.execFeatureFrame source frame x s
  | .feedBlockDeliver feed x => Sys2Proof.Machine.execFeedBlockDeliver feed x s
  | .tickFrame frame score length x => Sys2Proof.Machine.execTickFrame frame score length x s
  | .candidateExpired => Sys2Proof.Machine.execCandidateExpired s
  | .tickModel rq => Sys2Proof.Machine.execTickModel rq s
  | .playbackBlockRead buffer => Sys2Proof.Machine.execPlaybackBlockRead buffer s
  | .csiFrameStart port vc number ticks corrected => Sys2Proof.Machine.execCsiFrameStart port vc number ticks corrected s
  | .csiLongPacket port vc dataType ecc crcOk samples => Sys2Proof.Machine.execCsiLongPacket port vc dataType ecc crcOk samples s
  | .csiFrameEnd port vc ticks corrected => Sys2Proof.Machine.execCsiFrameEnd port vc ticks corrected s
  | .csiUnknownPacket port vc dataType => Sys2Proof.Machine.execCsiUnknownPacket port vc dataType s
  | .frameTimeout camera => Sys2Proof.Machine.execFrameTimeout camera s
  | .pipeLineService full => Sys2Proof.Machine.execPipeLineService full s
  | .framePublish camera => Sys2Proof.Machine.execFramePublish camera s
  | .exposureReq rq => Sys2Proof.Machine.execExposureReq rq s
  | .ctrlTransferDone camera ok => Sys2Proof.Machine.execCtrlTransferDone camera ok s
  | .ptpSync m => Sys2Proof.Machine.execPtpSync m s
  | .ptpFollowUp m => Sys2Proof.Machine.execPtpFollowUp m s
  | .ptpDelayResp m => Sys2Proof.Machine.execPtpDelayResp m s
  | .ptpDelayReq m => Sys2Proof.Machine.execPtpDelayReq m s
  | .ptpAnnounce m a => Sys2Proof.Machine.execPtpAnnounce m a s
  | .ptpPdelayReq m => Sys2Proof.Machine.execPtpPdelayReq m s
  | .ptpPdelayResp m => Sys2Proof.Machine.execPtpPdelayResp m s
  | .delayReqTimer port stamp => Sys2Proof.Machine.execDelayReqTimer port stamp s
  | .announceTimeout => Sys2Proof.Machine.execAnnounceTimeout s
  | .syncTimeout => Sys2Proof.Machine.execSyncTimeout s
  | .timeSet rq => Sys2Proof.Machine.execTimeSet rq s
  | .sleepCalibration sleepTicks elapsed => Sys2Proof.Machine.execSleepCalibration sleepTicks elapsed s
  | .triggerFire unit => Sys2Proof.Machine.execTriggerFire unit s
  | .trigCfg rq => Sys2Proof.Machine.execTrigCfg rq s
  | .trigCfgOperator rq => Sys2Proof.Machine.execTrigCfgOperator rq s
  | .captureEvent unit source falling ticks => Sys2Proof.Machine.execCaptureEvent unit source falling ticks s
  | .bridgeFrame f => Sys2Proof.Machine.execBridgeFrame f s
  | .macAgeOut vid mac => Sys2Proof.Machine.execMacAgeOut vid mac s
  | .speedAutoStep port => Sys2Proof.Machine.execSpeedAutoStep port s
  | .aes67Packet k => Sys2Proof.Machine.execAes67Packet k s
  | .aes67SampleRelease channel index => Sys2Proof.Machine.execAes67SampleRelease channel index s
  | .aes67TxPacket channel => Sys2Proof.Machine.execAes67TxPacket channel s
  | .igmpMldQuery port group => Sys2Proof.Machine.execIgmpMldQuery port group s
  | .arpNdpIcmp port target v6 echo payload => Sys2Proof.Machine.execArpNdpIcmp port target v6 echo payload s
  | .pcieDoorbell p c value => Sys2Proof.Machine.execPcieDoorbell p c value s
  | .apertureSelect fn k offset value => Sys2Proof.Machine.execApertureSelect fn k offset value s
  | .apertureAccess fn k addr n data => Sys2Proof.Machine.execApertureAccess fn k addr n data s
  | .pcieFlr fn => Sys2Proof.Machine.execPcieFlr fn s
  | .pcieError fn status correctable => Sys2Proof.Machine.execPcieError fn status correctable s
  | .perstN up gts width vfs busMaster => Sys2Proof.Machine.execPerstN up gts width vfs busMaster s
  | .mgmtTlsHandshake conn cert anchor => Sys2Proof.Machine.execMgmtTlsHandshake conn cert anchor s
  | .powerRequest rq => Sys2Proof.Machine.execPowerRequest rq s
  | .descentRetry => Sys2Proof.Machine.execDescentRetry s
  | .hibernateToListen => Sys2Proof.Machine.execHibernateToListen s
  | .listenToAttend pg pass => Sys2Proof.Machine.execListenToAttend pg pass s
  | .attendToActive ack => Sys2Proof.Machine.execAttendToActive ack s
  | .activeToAttend ack => Sys2Proof.Machine.execActiveToAttend ack s
  | .descentFromAttend late => Sys2Proof.Machine.execDescentFromAttend late s
  | .wakeRetry => Sys2Proof.Machine.execWakeRetry s
  | .wakePin => Sys2Proof.Machine.execWakePin s
  | .powerAlarm => Sys2Proof.Machine.execPowerAlarm s
  | .braceStart => Sys2Proof.Machine.execBraceStart s
  | .braceEnd lowestMv durationUs => Sys2Proof.Machine.execBraceEnd lowestMv durationUs s
  | .vaonReset => Sys2Proof.Machine.execVaonReset s
  | .aonBrownout => Sys2Proof.Machine.execAonBrownout s
  | .emergencyStart sensor => Sys2Proof.Machine.execEmergencyStart sensor s
  | .emergencyEnd second => Sys2Proof.Machine.execEmergencyEnd second s
  | .slowedSecond => Sys2Proof.Machine.execSlowedSecond s
  | .thermalTrip sensor tj => Sys2Proof.Machine.execThermalTrip sensor tj s
  | .thermalTripRelease highest => Sys2Proof.Machine.execThermalTripRelease highest s
  | .keyImport rq => Sys2Proof.Machine.execKeyImport rq s
  | .keyDestroy rq => Sys2Proof.Machine.execKeyDestroy rq s
  | .tenantEnrol rq => Sys2Proof.Machine.execTenantEnrol rq s
  | .tenantRelease rq => Sys2Proof.Machine.execTenantRelease rq s
  | .tenantScrub rq => Sys2Proof.Machine.execTenantScrub rq s
  | .tenantScrubDone p => Sys2Proof.Machine.execTenantScrubDone p s
  | .credentials rq => Sys2Proof.Machine.execCredentials rq s
  | .patternKeys rq => Sys2Proof.Machine.execPatternKeys rq s
  | .publishers rq => Sys2Proof.Machine.execPublishers rq s
  | .attestNonce rq => Sys2Proof.Machine.execAttestNonce rq s
  | .attestReport rq => Sys2Proof.Machine.execAttestReport rq s
  | .mgmtTrust rq => Sys2Proof.Machine.execMgmtTrust rq s
  | .securityVersion rq => Sys2Proof.Machine.execSecurityVersion rq s
  | .warmReset rq w => Sys2Proof.Machine.execWarmReset rq w s
  | .coldReset rq => Sys2Proof.Machine.execColdReset rq s
  | .sysResetN lowNs w => Sys2Proof.Machine.execSysResetN lowNs w s
  | .warmResetDeferred w => Sys2Proof.Machine.execWarmResetDeferred w s
  | .coldStart t => Sys2Proof.Machine.execColdStart t s
  | .coldStartThermalHoldEnd ms t => Sys2Proof.Machine.execColdStartThermalHoldEnd ms t s
  | .mcuFailure mcu w => Sys2Proof.Machine.execMcuFailure mcu w s
  | .pllFailure => Sys2Proof.Machine.execPllFailure s
  | .systemDataUncorrectable kind addr handles w => Sys2Proof.Machine.execSystemDataUncorrectable kind addr handles w s
  | .firmwareStage rq => Sys2Proof.Machine.execFirmwareStage rq s
  | .firmwareCommit rq => Sys2Proof.Machine.execFirmwareCommit rq s
  | .traceRing rq => Sys2Proof.Machine.execTraceRing rq s
  | .traceLoadSample vddMv tj mw => Sys2Proof.Machine.execTraceLoadSample vddMv tj mw s
  | .jtagIdcode => Sys2Proof.Machine.execJtagIdcode s
  | .jtagTraceRegion region => Sys2Proof.Machine.execJtagTraceRegion region s
  | .jtagTraceRead => Sys2Proof.Machine.execJtagTraceRead s
  | .jtagBypass code => Sys2Proof.Machine.execJtagBypass code s
  | .portLinkChange port up speed => Sys2Proof.Machine.execPortLinkChange port up speed s
  | .peerEmptyFrame port f => Sys2Proof.Machine.execPeerEmptyFrame port f s
  | .meshRouterMismatch router port hit => Sys2Proof.Machine.execMeshRouterMismatch router port hit s
  | .standbyPllFailure => Sys2Proof.Machine.execStandbyPllFailure s
  | .dramChannelLost group => Sys2Proof.Machine.execDramChannelLost group s
  | .sysResetNFallingEdge => Sys2Proof.Machine.execSysResetNFallingEdge s
  | .heldRequestsNextSecond => Sys2Proof.Machine.execHeldRequestsNextSecond s
  | .regulatorLimitReached => Sys2Proof.Machine.execRegulatorLimitReached s

end Sys2Proof.Machine
end

