-- ==== Sys2Proof/Machine/Step.lean ====
section
/-! DEFINITION. One step of the block: the command at the front of the queue, or one tick of the part's clocks where none waits. -/

namespace Sys2Proof.Machine

/-- One step: the meaning of the oldest waiting command on the state with the rest of the queue; with none waiting, what the part
does of itself in one tick of its clock (assumption 30). -/
def step (s : State) : Host.Outcome State Fault Refusal :=
  match s.pending with
  | [] => settled s s.idle
  | c :: rest => exec c { s with pending := rest }

/-- The table gives no row any bits, so no word spells a command: nothing is put in front (assumption 31). -/
def State.withFetchWord (s : State) (nbits w : Nat) : State :=
  match Sys2Proof.decodeTableWord nbits w with
  | some c => { s with pending := c :: s.pending }
  | none => s

end Sys2Proof.Machine
end

