-- ==== Sys2Proof/Safety.lean ====
section
/-! DEFINITION. What claims about the block speak of: the counters at their widths, runs that serve the queue, a request that passes every
check, and a stroke that may issue; with the tables of the rows that one shared operation serves. -/

namespace Sys2Proof.Machine

/-- NS112, INCREMENT, SECNS, its increment and ATC lie within the widths and the band that the spec gives them
(R386, R447 to R449). -/
def State.CountersHold (s : State) : Prop :=
  s.time.ns112 < 2 ^ 112 ∧ (0x270F00000 ≤ s.time.increment ∧ s.time.increment ≤ 0x271100000) ∧
  s.time.secns < 2 ^ 64 * (1000000000 * 2 ^ 32) ∧ s.time.secInc < 2 ^ 48 ∧ s.afe.atc < 2 ^ 64

/-- A run that serves every command waiting at its start, and stops at none of them. -/
def State.Serves (s t : State) : Prop := Sys2Proof.core.run s.pending.length s = .next t

/-! ### Writes of objects that have rows of their own -/

/-- A row of the table of operations that is a write of one object: the object, its own check, its commit, whether it is written by
WRITE_BLOCK, and its command. -/
structure OwnRow where
  name : String
  check : Check
  commit : Commit
  block : Bool
  command : Request → Instr

/-- The rows that are writes. -/
def ownRows : List OwnRow := [
  ⟨"BEAM_TABLE", checkBeamTable, commitBeamTable, true, .beamTable⟩,
  ⟨"TICK_MODEL", checkTickModel, (fun _ t v s => s.setObj t.part t.index t.sub v), true, .tickModel⟩,
  ⟨"CASCADE_MODELS", checkCascadeModels, (fun _ t v s => s.setObj t.part t.index t.sub v), false, .cascadeModels⟩,
  ⟨"ANSWER_REQUEST", checkAnswerRequest, (fun _ t v s => s.enqueueAnswer t.part false v), true, .answerRequest⟩,
  ⟨"EXPOSURE_REQ", (fun _ _ v s => (if ofBE (v.take 1) = 0 ∨ 3 < ofBE (v.take 1) then 0x0E0A else 0, s)), commitExposureReq, false, .exposureReq⟩,
  ⟨"POWER_REQUEST", checkPowerRequest, commitPowerRequest, false, .powerRequest⟩,
  ⟨"OBJECT_CREATE", checkObjectCreate, commitObjectCreate, false, .objectCreate⟩,
  ⟨"OBJECT_SEAL", checkObjectSeal, commitObjectSeal, false, .objectSeal⟩,
  ⟨"OBJECT_CLAIM", checkObjectClaim, commitObjectClaim, false, .objectClaim⟩,
  ⟨"OBJECT_DELETE", checkObjectDelete, commitObjectDelete, false, .objectDelete⟩,
  ⟨"OBJECT_WINDOW_SEL", checkObjectWindowSel, commitObjectWindowSel, false, .objectWindowSel⟩,
  ⟨"OBJECT_WINDOW", checkObjectWindow, commitObjectWindow, true, .objectWindow⟩,
  ⟨"KV_POOL", checkKvPool, commitKvPool, false, .kvPool⟩,
  ⟨"PARTITION_RUN", checkPartitionRun, commitPartitionRun, false, .partitionRun⟩,
  ⟨"PARTITION_RESET", (fun _ _ _ s => (0, s)), commitReset, false, .partitionReset⟩,
  ⟨"TENANT_RESET", (fun _ _ _ s => (0, s)), commitReset, false, .tenantReset⟩,
  ⟨"PATTERN_LOAD", checkPatternLoad, commitPatternLoad, false, .patternLoad⟩,
  ⟨"PATTERN_UNLOAD", checkPatternUnload, commitPatternUnload, false, .patternUnload⟩,
  ⟨"BINDINGS", checkBindings, commitBindings, true, .bindings⟩,
  ⟨"CTX_CLASS", checkCtxClass, commitCtxClass, false, .ctxClass⟩,
  ⟨"KEY_IMPORT", checkKeyImport, commitKeyImport, false, .keyImport⟩,
  ⟨"KEY_DESTROY", (fun _ _ _ s => (0, s)), commitKeyDestroy, false, .keyDestroy⟩,
  ⟨"CREDENTIALS", checkCredentials, commitCredentials, true, .credentials⟩,
  ⟨"PATTERN_KEYS", checkPatternKeys, commitStore, true, .patternKeys⟩,
  ⟨"PUBLISHERS", checkPublishers, commitStore, true, .publishers⟩,
  ⟨"TENANT_ENROL", checkTenantEnrol, commitTenantEnrol, false, .tenantEnrol⟩,
  ⟨"SECURITY_VERSION", checkSecurityVersion, commitStore, false, .securityVersion⟩,
  ⟨"TENANT_RELEASE", (fun _ _ _ s => (0, s)), commitTenantRelease, false, .tenantRelease⟩,
  ⟨"TENANT_SCRUB", (fun _ _ _ s => (0, s)), commitTenantScrub, false, .tenantScrub⟩,
  ⟨"FIRMWARE_STAGE", checkFirmwareStage, commitFirmwareStage, true, .firmwareStage⟩,
  ⟨"FIRMWARE_COMMIT", checkFirmwareCommit, commitFirmwareCommit, false, .firmwareCommit⟩,
  ⟨"SLOT_IMAGE", checkSlotImage, commitSlotImage, true, .slotImage⟩,
  ⟨"SLOT_MOVE_TO", checkSlotMoveTo, commitSlotMoveTo, false, .slotMoveTo⟩,
  ⟨"SLOT_CLOSE", (fun _ _ _ s => (0, s)), commitSlotClose, false, .slotClose⟩,
  ⟨"DOORBELL", (fun _ t v s => (s.hostDoorbellCode t.i t.j (ofBE v), s)), (fun _ t v s => s.ringDoorbell t.i t.j (ofBE v)), false, .doorbell⟩,
  ⟨"CACHE_WAY_MASK", checkCacheWayMask, commitCacheWayMask, false, .cacheWayMask⟩,
  ⟨"TIME_SET", checkTimeSet, commitTimeSet, false, .timeSet⟩,
  ⟨"TRACE_RING", checkTraceRing, commitStore, false, .traceRing⟩,
  ⟨"TRIG_CFG", checkTrigCfg, commitTrig, false, .trigCfg⟩,
  ⟨"TRIG_CFG_OPERATOR", checkTrigCfgOperator, commitTrig, false, .trigCfgOperator⟩,
  ⟨"ERROR_CLEAR", anyValue, (commitOf "ERROR_CLEAR"), false, .errorClear⟩,
  ⟨"VIOLATION_CLEAR", anyValue, (commitOf "VIOLATION_CLEAR"), false, .violationClear⟩,
  ⟨"REFUSAL_CLEAR", anyValue, (commitOf "REFUSAL_CLEAR"), false, .refusalClear⟩]

/-- What follows the answer of a row: a POWER_REQUEST that begins a descent ends the dictionary (R69). -/
def OwnRow.after (r : OwnRow) (s : State) : State := if r.name = "POWER_REQUEST" then s.finishService else s

/-- A write that has passed every check of R79 and its object's own: `w` sent it, `t` is the object, `s1` the state once it was
admitted, `s2` the state once it was checked. -/
def OwnRow.Accepts (r : OwnRow) (rq : Request) (s : State) (w : Who) (t : Target) (s1 s2 : State) : Prop :=
  names rq r.name = true ∧ s.admitted rq (if r.block then 4 else 2) (fun _ => true) true = .go w s1 ∧
  s1.writeTarget w rq.frame r.block = .inr t ∧ r.check w t rq.frame.payload s1 = (0, s2)

/-! ### Strokes -/

/-- A row of the table of operations that is a stroke: its opcode, what the opcode does, and its command. -/
structure StrokeRow where
  op : Nat
  meaning : Meaning
  command : Nat → Nat → Nat → Instr

/-- The rows that are strokes, PEER_REDUCE apart. -/
def strokeRows : List StrokeRow := [
  ⟨0x00, meaningNop, .nop⟩,
  ⟨0x01, meaningSync, .sync⟩,
  ⟨0x02, meaningSignal, .signal⟩,
  ⟨0x03, meaningWaitTime, .waitTime⟩,
  ⟨0x08, meaningMove, .move⟩,
  ⟨0x09, meaningPrefetch, .prefetch⟩,
  ⟨0x0A, meaningMcast, .mcast⟩,
  ⟨0x0B, meaningGather, .gather⟩,
  ⟨0x0C, meaningScatter, .scatter⟩,
  ⟨0x10, meaningMatmul false, .matmul⟩,
  ⟨0x11, meaningMatmul true, .matmulAcc⟩,
  ⟨0x12, meaningConv2d, .conv2d⟩,
  ⟨0x13, meaningFft, .fft⟩,
  ⟨0x18, meaningEwise, .ewise⟩,
  ⟨0x19, meaningPwl, .pwl⟩,
  ⟨0x1A, meaningReduce, .reduce⟩,
  ⟨0x1B, meaningNorm, .norm⟩,
  ⟨0x1C, meaningSoftmax, .softmax⟩,
  ⟨0x1D, meaningRotate, .rotate⟩,
  ⟨0x1E, meaningConvert, .convert⟩,
  ⟨0x20, meaningAttnDecode, .attnDecode⟩,
  ⟨0x21, meaningAttnPrefill, .attnPrefill⟩,
  ⟨0x22, meaningKvAppend, .kvAppend⟩,
  ⟨0x23, meaningKvPublish, .kvPublish⟩,
  ⟨0x28, meaningStreamStep, .streamStep⟩,
  ⟨0x29, meaningStreamGates, .streamGates⟩,
  ⟨0x2A, meaningStreamRenorm, .streamRenorm⟩,
  ⟨0x2B, meaningStreamMove, .streamMove⟩,
  ⟨0x30, meaningPeerSend, .peerSend⟩,
  ⟨0x3F, meaningEnd, .endStroke⟩]

/-- The stroke at the head of a context's queue on a core passes every check of R152 and waits for nothing: its tokens are there, its
units are free, no context that wins over its own has a head that can issue, its objects are ready (R106, R152, R365). -/
def State.MayIssue (s : State) (op : Nat) (m : Meaning) (p c core : Nat) (t : Site) : Prop :=
  s.headSite op p c core = some t ∧ s.headCode t (m.own t s) = 0 ∧ tokensReady (s.slot t.slot) c (waitTokens t.w) = true ∧
  (m.units t.w).any (s.unitsHeld p core).contains = false ∧ m.ready t s = true ∧ s.passedOver p c core = false ∧
  (s.reachedBinds t (m.binds t)).any (s.gone t) = false ∧ s.accessAll t (s.reached t (m.binds t)) = .ready

end Sys2Proof.Machine
end

