-- ==== Sys2Proof/Certificates/Slice0/Obligations.lean ====
section
/-! DEFINITION. The statements for the provers, each of the commands' effects, of the queue and of the kinds of state the spec names. -/

open Sys2Proof Sys2Proof.Machine

/-! ### The queue, the clock and the counters -/

/-- A step takes the command at the front of the queue and is that command's meaning on the state with the rest of the queue. -/
def Obligations.StepRunsTheFrontCommand : Prop :=
  ∀ (c : Instr) (rest : List Instr) (s : State), step { s with pending := c :: rest } = exec c { s with pending := rest }

/-- With no command waiting, a step is one tick of the part's clocks (assumption 30): where NS112 is in force it adds INCREMENT,
to 112 bits, and where it is not SECNS adds its own increment; in ATTEND and ACTIVE the trace then drains and the streams send. Where the dictionary is not
served nothing but the clocks changes. The model's choice: no command of the table is a tick. -/
def Obligations.IdleStepTicksTheClock : Prop :=
  ∀ s : State, s.pending = [] →
    (s.serving = true ∧ 4 ≤ s.mode → step s = .next (s.settle (s.tick.modAfe (Afe.tick s.mode)).drainTrace.flushStreams)) ∧
    (¬(s.serving = true ∧ 4 ≤ s.mode) → step s = .next (s.settle { s with
      time := if s.time.nsInForce then { s.time with ns112 := (s.time.ns112 + s.time.increment) % 2 ^ 112 }
              else { s.time with secns := s.time.secns + s.time.secInc },
      afe := if 4 ≤ s.mode then { s.afe with atc := (s.afe.atc + (s.afe.phase + 3) / 50) % 2 ^ 64, phase := (s.afe.phase + 3) % 50 }
             else if 2 ≤ s.mode then { s.afe with atc := (s.afe.atc + 1) % 2 ^ 64 } else s.afe }))

/-- Every command answers a next state and leaves the queue behind it as it was: nothing that a partner or a user sends stops the part
(R83), and a command's effect is on everything but the queue. -/
def Obligations.NoCommandStopsTheBlock : Prop :=
  ∀ (c : Instr) (s : State), ∃ t, exec c s = .next t ∧ t.pending = s.pending

/-- Every command that waits is served, first in first out, in as many steps as there are commands, and the queue is then empty. -/
def Obligations.EveryWaitingCommandIsServed : Prop :=
  ∀ s : State, ∃ t, s.Serves t ∧ t.pending = []

/-- From every state, reachable or not, whose counters lie in their widths, every step leaves them so: NS112 in 112 bits, INCREMENT within
100 ppm of nominal, SECNS and its increment in their fields, ATC in 64 bits. -/
def Obligations.EveryStepKeepsTheCounters : Prop :=
  ∀ s t : State, s.CountersHold → step s = .next t → t.CountersHold

/-- After reset the part stands in ATTEND with its dictionary served, after one cold start from power-on; slots 0 to 63 are ACTIVE and
64 to 71 STANDBY, no partition is defined, no key is held, no object exists, every log is empty, and the counters lie in their widths. What the spec gives no reset value for is
the model's choice (assumptions 1 and 5). -/
def Obligations.ResetStandsInAttend : Prop :=
  State.reset.CountersHold ∧ State.reset.mode = 4 ∧ State.reset.serving = true ∧ State.reset.ras.reason = 0x0D01 ∧ State.reset.ras.coldStarts = 1 ∧
  (∀ n, n < 64 → (State.reset.slot n).state = 1) ∧ (∀ n, 64 ≤ n → n < 72 → (State.reset.slot n).state = 2) ∧
  (∀ p, p < 8 → (State.reset.part p).state = 0 ∧ State.reset.keys.getD p none = none) ∧
  State.reset.objects = [] ∧ State.reset.errorLog.recs = [] ∧ State.reset.violationLog.recs = [] ∧ State.reset.refusalLog.recs = []

/-! ### Memory, byte orders and logs -/

/-- A stored byte is read back, a store leaves every byte outside the stored range as it was, and two canonical memories that read alike at every
address are the same data. -/
def Obligations.MemoryReadsWhatWasStored : Prop :=
  (∀ (m : List Host.Cell) (a : Nat) (b : Bytes), memWf m = true →
    memRead (memWrite m a b) a b.length = b ∧ ∀ k, (k < a ∨ a + b.length ≤ k) → memGet (memWrite m a b) k = memGet m k) ∧
  (∀ m n : List Host.Cell, memWf m = true → memWf n = true → (∀ a, memGet m a = memGet n a) → m = n)

/-- Network byte order and little-endian order are read back as they were written, and each byte has its place. -/
def Obligations.ByteOrdersReadBack : Prop :=
  ∀ n v : Nat, (be n v).length = n ∧ (le n v).length = n ∧ ofBE (be n v) = v % 256 ^ n ∧ ofLE (le n v) = v % 256 ^ n ∧
    ∀ i, i < n → (be n v)[i]? = some (byteOf (v / 256 ^ (n - 1 - i))) ∧ (le n v)[i]? = some (byteOf (v / 256 ^ i))

/-- A log never holds more records than its ring, whatever is written to it; a record that repeats the newest one within a second adds to
its REPEATS and writes no new record, and any other stands newest and counts in its view (R81). -/
def Obligations.LogRingHoldsItsRecords : Prop :=
  ∀ (cap : Nat) (r : LogRec) (l : Log), 0 < cap → l.recs.length ≤ cap → (l.add cap r).recs.length ≤ cap ∧
    ((∃ n rest, l.recs = n :: rest ∧ n.code = r.code ∧ n.scope = r.scope ∧ n.source = r.source ∧ n.atNs ≤ r.atNs ∧ r.atNs ≤ n.atNs + 1000000000 ∧
        l.add cap r = { l with recs := { n with repeats := n.repeats + 1 } :: rest }) ∨
     ((l.add cap r).recs.head? = some r ∧ (l.add cap r).count = bump l.count (viewOf r.scope)))

/-- Emptying a view of a log takes every record of that view and no other record, and zeroes the view's COUNT and LOST alone (R82). -/
def Obligations.ClearEmptiesOneView : Prop :=
  ∀ (v u : Nat) (l : Log), v < l.count.length → v < l.lost.length → u ≠ v →
    (∀ r ∈ (l.clear v).recs, viewOf r.scope ≠ v) ∧ (∀ r ∈ l.recs, viewOf r.scope ≠ v → r ∈ (l.clear v).recs) ∧
    (l.clear v).count.getD v 1 = 0 ∧ (l.clear v).lost.getD v 1 = 0 ∧
    (l.clear v).count.getD u 0 = l.count.getD u 0 ∧ (l.clear v).lost.getD u 0 = l.lost.getD u 0 ∧ (l.clear v).total = l.total

/-! ### The dictionary -/

/-- A write of an object that has a row of its own, where it passes every check of R79 and the object's own check: a VOLATILE object's value is
committed at once and the request is answered OK; a SAVED object's write waits for its flash program; and where the object's own check finds a
code, the request is aborted with that code and nothing is committed. The rows are those of `ownRows`, each with its own check and commit; what
follows the answer is nothing, but that a POWER_REQUEST that begins a descent ends the dictionary (R69).
Completes: BEAM_TABLE, TICK_MODEL, CASCADE_MODELS, ANSWER_REQUEST, EXPOSURE_REQ, POWER_REQUEST, OBJECT_CREATE, OBJECT_SEAL, OBJECT_CLAIM,
OBJECT_DELETE, OBJECT_WINDOW_SEL, OBJECT_WINDOW, KV_POOL, PARTITION_RUN, PARTITION_RESET, TENANT_RESET, PATTERN_LOAD, PATTERN_UNLOAD, BINDINGS,
CTX_CLASS, KEY_IMPORT, KEY_DESTROY, CREDENTIALS, PATTERN_KEYS, PUBLISHERS, TENANT_ENROL, SECURITY_VERSION, TENANT_RELEASE, TENANT_SCRUB,
FIRMWARE_STAGE, FIRMWARE_COMMIT, SLOT_IMAGE, SLOT_MOVE_TO, SLOT_CLOSE, DOORBELL, CACHE_WAY_MASK, TIME_SET, TRACE_RING, TRIG_CFG, TRIG_CFG_OPERATOR,
ERROR_CLEAR, VIOLATION_CLEAR, REFUSAL_CLEAR. -/
def Obligations.OwnWritesCommitOrAbort : Prop :=
  ∀ r ∈ ownRows, ∀ (rq : Request) (s : State) (w : Who) (t : Target) (s1 s2 : State),
    (r.Accepts rq s w t s1 s2 → t.row.per ≠ .saved →
      exec (r.command rq) s = .next (s.settle (r.after ((r.commit w t rq.frame.payload s2).ok rq w)))) ∧
    (r.Accepts rq s w t s1 s2 → t.row.per = .saved → exec (r.command rq) s = .next (s.settle (r.after (s2.queueSave rq w t)))) ∧
    (∀ code, names rq r.name = true → s.admitted rq (if r.block then 4 else 2) (fun _ => true) true = .go w s1 → s1.writeTarget w rq.frame r.block = .inr t →
      r.check w t rq.frame.payload s1 = (code + 1, s2) → exec (r.command rq) s = .next (s.settle (r.after (s2.abort rq w (code + 1)))))

/-- A request that fails a check of R79 from the object on (presence, access, writability, type, length, range) is aborted with that check's code by
every row that writes an object, and the commit is not made. An abort answers with its code, counts it and logs it in the violation log, and changes nothing else: no object, mode,
slot, partition, key, clock or device. -/
def Obligations.FailedChecksCommitNothing : Prop :=
  (∀ r ∈ ownRows, ∀ (rq : Request) (s : State) (w : Who) (s1 : State) (code : Nat), names rq r.name = true →
    s.admitted rq (if r.block then 4 else 2) (fun _ => true) true = .go w s1 → s1.writeTarget w rq.frame r.block = .inl code →
    exec (r.command rq) s = .next (s.settle (r.after (s1.abort rq w code)))) ∧
  (∀ (rq : Request) (w : Who) (code : Nat) (s : State),
    let t := s.abort rq w code
    t = { s with svc := t.svc, sent := t.sent, violationLog := t.violationLog, trace := t.trace } ∧
    Sent.frame rq.source (s.sign (responseTo rq.frame w.tagged code 0 [])) ∈ t.sent ∧
    t.svc.counts = bump (bump s.svc.counts 1) 7 ∧
    t.violationLog = s.violationLog.add 1024 (s.record code w.scope (sourceCode rq.source) s.svc.detail))

/-- What commits leave: a value is read back as it was written and every other object keeps its own; the bytes that the object window takes stand in the object at its place and no
other byte changes; a seal leaves the object SEALED with its digest; the destruction of a key leaves the partition none and its objects RETAINED; a pattern is gone from its context once
unloaded; and the three clears empty the sender's view of their log and change nothing else. -/
def Obligations.CommitsLeaveWhatTheyName : Prop :=
  (∀ (p i sub : Nat) (v : Bytes) (s : State), (s.dict.map (·.1)).Pairwise (· < ·) →
    (s.setObj p i sub v).obj p i sub = v ∧ ((s.setObj p i sub v).dict.map (·.1)).Pairwise (· < ·) ∧
    (∀ p' i' sub', okey p' i' sub' ≠ okey p i sub → (s.setObj p i sub v).obj p' i' sub' = s.obj p' i' sub') ∧
    s.setObj p i sub v = { s with dict := (s.setObj p i sub v).dict }) ∧
  (∀ (w : Who) (t : Target) (v : Bytes) (s : State) (o : Obj), s.objOf (s.selection w.owner).1 = some o → memWf o.content = true →
    ∃ x, (commitObjectWindow w t v s).objOf (s.selection w.owner).1 = some x ∧ memRead x.content (s.selection w.owner).2.1 v.length = v ∧
      ∀ k, (k < (s.selection w.owner).2.1 ∨ (s.selection w.owner).2.1 + v.length ≤ k) → memGet x.content k = memGet o.content k) ∧
  (∀ (w : Who) (t : Target) (v : Bytes) (s : State) (o : Obj), s.objOf (memberAt t.row.mem v 0) = some o →
    ∃ x, (commitObjectSeal w t v s).objOf (memberAt t.row.mem v 0) = some x ∧ x.state = 2 ∧ x.digest = chunkTree o ∧ x.content = o.content ∧ x.size = o.size) ∧
  (∀ (w : Who) (t : Target) (v : Bytes) (s : State), ofBE v ≠ 0 → (commitKeyDestroy w t v s).keys.getD t.i none = none ∧
    ∀ o ∈ (commitKeyDestroy w t v s).objects, o.owner = t.i → o.deleting = false → o.state = 5) ∧
  (∀ (w : Who) (t : Target) (v : Bytes) (s : State), ofBE v ≠ 0 → ((commitPatternUnload w t v s).ctx t.i t.j).pattern = none) ∧
  (∀ (w : Who) (t : Target) (v : Bytes) (s : State) (n : Nat), ofBE v ≠ 0 → w.view = some n →
    commitOf "ERROR_CLEAR" w t v s = { s with errorLog := s.errorLog.clear n } ∧
    commitOf "VIOLATION_CLEAR" w t v s = { s with violationLog := s.violationLog.clear n } ∧
    commitOf "REFUSAL_CLEAR" w t v s = { s with refusalLog := s.refusalLog.clear n })

/-- READ: an admitted read of a readable object of at most 256 bytes, that is no DOMAIN, is answered OK with its type and value; one of a longer
value, or of a DOMAIN, is aborted with TOO_LARGE, and one that fails a check with that check's code. One that comes behind a request of its sender that is not answered yet waits for it, and
one whose share of the dictionary queue is full is aborted with QUEUE_FULL. Completes: READ. -/
def Obligations.ReadAnswersTheValue : Prop :=
  (∀ (rq : Request) (s s1 : State) (w : Who), s.admitted rq 1 (fun p => p.isEmpty) = .go w s1 →
    (∀ t, s1.readAccess w rq.frame = .inr t → t.row.ty ≠ 14 → (s1.valueOf w t).1.length ≤ 256 →
      exec (.read rq) s = .next (s.settle ((s1.valueOf w t).2.respond rq w 0 t.row.ty (s1.valueOf w t).1))) ∧
    (∀ t, s1.readAccess w rq.frame = .inr t → t.row.ty ≠ 14 → 256 < (s1.valueOf w t).1.length →
      exec (.read rq) s = .next (s.settle ((s1.valueOf w t).2.abort rq w 0x0E0B))) ∧
    (∀ t, s1.readAccess w rq.frame = .inr t → t.row.ty = 14 → exec (.read rq) s = .next (s.settle (s1.abort rq w 0x0E0B))) ∧
    (∀ code, s1.readAccess w rq.frame = .inl code → exec (.read rq) s = .next (s.settle (s1.abort rq w code)))) ∧
  (∀ (rq : Request) (s : State) (w : Who), s.listens rq.source = true → rq.frame.op = 1 → rq.defect = .none → rq.frame.version = 1 →
    (s.countOnnum 0).sender rq = some (.inr w) → (s.countOnnum 0).seqVerdict w rq.frame.seq = .fresh →
    (s.shareFull w = true → exec (.read rq) s = .next (s.settle ((s.countOnnum 0).abort rq w 0x0E18))) ∧
    (s.shareFull w = false → reservedOk rq.frame = true → rq.frame.payload = [] → ((s.countOnnum 0).acceptSeq w rq.frame.seq).behind rq w = true →
      exec (.read rq) s = .next (s.settle (((s.countOnnum 0).acceptSeq w rq.frame.seq).queueRequest rq w false))))

/-- WRITE of an object with no row of its own: an admitted write that passes every check is committed and answered, or waits for its
flash program where the object is SAVED; SAVED_WRITE_PROGRAMMED then commits the oldest of those writes and answers it, aborts it with the code
of its check where a write in between has made its value illegal (assumption 15), or aborts it with SAVE_FAILED, executes what its sender has
sent since, and while a brace holds does none of these. A dictionary that closes ends once that is done (R69). Completes: WRITE, SAVED_WRITE_PROGRAMMED. -/
def Obligations.WritesCommitAndAreSaved : Prop :=
  (∀ (rq : Request) (s s1 s2 : State) (w : Who) (t : Target), s.admitted rq 2 (fun _ => true) = .go w s1 →
    s1.writeTarget (s1.elevate rq w) rq.frame false = .inr t → checkAny w t rq.frame.payload s1 = (0, s2) →
    (t.row.per ≠ .saved → exec (.write rq) s = .next (s.settle ((commitAny w t rq.frame.payload s2).ok rq w).resetAsked.finishService)) ∧
    (t.row.per = .saved → exec (.write rq) s = .next (s.settle (s2.queueSave rq w t).finishService))) ∧
  (∀ (s : State) (e : Saving) (rest : List Saving) (t : Target), s.svc.saving = e :: rest → s.power.braced = false →
    let s1 := (s.reach (e.beginNs * 2 ^ 32)).modSvc fun x => { x with saving := rest }
    (e.target = some t → (checkAny e.who t e.value s1).1 = 0 → exec (.savedWriteProgrammed true) s =
      .next (s.settle ((((commitAny e.who t e.value s1).modRas fun x => { x with savedGen := x.savedGen + 1, savedCopy := 1 - x.savedCopy }).ok
        e.request e.who e.braced).afterSave t e.value).serveAll.finishService)) ∧
    (e.target = some t → (checkAny e.who t e.value s1).1 ≠ 0 → exec (.savedWriteProgrammed true) s =
      .next (s.settle ((checkAny e.who t e.value s1).2.abort e.request e.who (checkAny e.who t e.value s1).1 e.braced).serveAll.finishService)) ∧
    exec (.savedWriteProgrammed false) s = .next (s.settle (s1.abort e.request e.who 0x0E17 e.braced).serveAll.finishService)) ∧
  (∀ (s : State) (ok : Bool), s.power.braced = true → exec (.savedWriteProgrammed ok) s = .next (s.settle s))

/-- A block transfer opens, moves and ends: READ_BLOCK starts to send the value's snapshot; WRITE_BLOCK opens a holding area and answers WINDOW 16 and
SEGMENT_SIZE 1,024; a SEGMENT of new bytes goes on from the bytes received or shows a gap, and the one with LAST that leaves none ends the transfer;
SEGMENT_ACK goes on from NEXT_OFFSET, or ends the transfer at its end; the gap timer names the first missing byte; and 500 ms of silence abort a
write with BLOCK_TIMEOUT. A write whose transfer ends with its length or its CRC-32 wrong commits nothing: the transfer aborts with BLOCK_CRC; one
that is right is written whole, behind the earlier writes of its object (R67, R71 to R74). Completes: READ_BLOCK, WRITE_BLOCK, SEGMENT, SEGMENT_ACK, SEGMENT_GAP_TIMER,
BLOCK_TIMEOUT. -/
def Obligations.BlockTransfersMoveAndEnd : Prop :=
  (∀ (rq : Request) (s s1 : State) (w : Who) (t : Target), s.admitted rq 3 (fun p => p.length == 4) = .go w s1 → s1.readAccess w rq.frame = .inr t →
    t.row.name ≠ "ATTEST_REPORT" → t.row.name ≠ "ATTEST_REPORT_DEVICE" → t.row.name ≠ "OBJECT_WINDOW" →
    exec (.readBlock rq) s = .next (s.settle ((s1.valueOf w t).2.startRead rq w t (s1.valueOf w t).1))) ∧
  (∀ (rq : Request) (s s1 : State) (w : Who) (t : Target), s.admitted rq 4 (fun p => p.length == 8) = .go w s1 →
    s1.writeAccess (s1.elevate rq w) rq.frame true = .inr t → t.row.fitsLength (ofBE (rq.frame.payload.take 4)) = true → t.row.name ≠ "OBJECT_WINDOW" →
    s1.blockBusy w.owner true t = 0 → ∃ u, exec (.writeBlock rq) s = .next u ∧
      Sent.frame rq.source (s1.sign (responseTo rq.frame w.tagged 0 0 (be 2 16 ++ be 2 1024))) ∈ u.sent ∧
      ∃ b, b ∈ u.svc.blocks ∧ b.owner = w.owner ∧ b.write = true ∧ b.index = t.index ∧ b.sub = t.sub ∧
        b.total = ofBE (rq.frame.payload.take 4) ∧ b.crc = ofBE (rq.frame.payload.drop 4) ∧ b.value = []) ∧
  (∀ (rq : Request) (s s1 : State) (w : Who) (b : Block), s.admitted rq 8 (fun p => decide (5 ≤ p.length) && decide (p.length ≤ 1028)) = .go w s1 →
    w.isAnon = false → (s1.svc.blocks.find? fun b => b.write && b.owner == w.owner && b.index == rq.frame.index && b.sub == rq.frame.sub) = some b →
    let off := ofBE (rq.frame.payload.take 4)
    let s2 := s1.setBlock b (b.take_ rq.frame)
    off ≤ b.value.length + 16384 → b.value.length < off + (rq.frame.payload.length - 4) → b.sinceAck ≠ 15 →
    (¬(rq.frame.flags.testBit 1 = true ∧ off ≤ b.value.length) → exec (.segment rq) s = .next (s.settle s2.finishService)) ∧
    (rq.frame.flags.testBit 1 = true → off ≤ b.value.length →
      exec (.segment rq) s = .next (s.settle (s2.finishBlock (b.take_ rq.frame) rq w).finishService))) ∧
  (∀ (b : Block) (f : Frame), ofBE (f.payload.take 4) ≤ b.value.length →
    (b.take_ f).value = b.value ++ (f.payload.drop 4).drop (b.value.length - ofBE (f.payload.take 4)) ∧ (b.take_ f).gap = false) ∧
  (∀ (b : Block) (f : Frame), b.value.length < ofBE (f.payload.take 4) → (b.take_ f).value = b.value ∧ (b.take_ f).gap = true) ∧
  (∀ (rq : Request) (s s1 : State) (w : Who) (b : Block), s.admitted rq 9 (fun p => p.length == 4) = .go w s1 →
    (s1.svc.blocks.find? fun b => !b.write && b.owner == w.owner && b.index == rq.frame.index && b.sub == rq.frame.sub) = some b →
    (ofBE rq.frame.payload < b.total → exec (.segmentAck rq) s = .next (s.settle (s1.continueRead b (ofBE rq.frame.payload)))) ∧
    (ofBE rq.frame.payload = b.total → exec (.segmentAck rq) s = .next (s.settle (s1.modSvc fun x => { x with blocks := x.blocks.erase b })))) ∧
  (∀ (k : Nat) (s : State) (b : Block), s.svc.blocks[k]? = some b → b.write = true →
    (b.gap = true → ∃ u, exec (.segmentGapTimer k) s = .next u ∧ Sent.frame b.who.source (s.sign b.ack) ∈ u.sent ∧ b.ack.payload = be 4 b.value.length) ∧
    exec (.blockTimeout k) s = .next (s.settle (s.abortBlock b 0x0E12))) ∧
  (∀ (b : Block) (rq : Request) (w : Who) (s : State),
    (b.value.length ≠ b.total ∨ crc32 b.value ≠ b.crc → s.finishBlock b rq w = s.abortBlock b 0x0E11) ∧
    (b.value.length = b.total → crc32 b.value = b.crc →
      let whole : Request := { rq with frame := { rq.frame with op := 4, typ := b.typ, payload := b.value } }
      let s1 := s.modSvc fun x => { x with blocks := x.blocks.erase b }
      (s1.behind whole w = false → s.finishBlock b rq w = s1.finishWrite whole w true) ∧
      (s1.behind whole w = true → s.finishBlock b rq w = s1.queueRequest whole w true)))

/-- SUBSCRIBE to a readable object within the limits makes a subscription with the next identity and answers it; MODE 0 takes it away; a
period sends the value, as long as fewer than 16 notifications are unanswered; a response takes its notification away; a notification is sent
again up to twice; and a stream with 16 unanswered for a second is dropped with SUBSCRIPTION_DROPPED (R75, R76). Completes: SUBSCRIBE, SUBSCRIPTION_PERIOD,
NOTIFY_RESPONSE, NOTIFY_RESEND_TIMER, SUBSCRIPTION_DROPPED. -/
def Obligations.SubscriptionsNotifyAndEnd : Prop :=
  (∀ (rq : Request) (s s1 : State) (w : Who) (t : Target),
    s.admitted rq 5 (fun p => p.length == 8 && ofBE (slice p 1 3) == 0) = .go w s1 → s1.find w rq.frame.index rq.frame.sub = .inr t →
    t.row.rd = true → (rq.frame.typ = 0 ∨ rq.frame.typ = t.row.ty) → ofBE (rq.frame.payload.take 1) = 2 →
    modeOk 2 (ofBE (rq.frame.payload.drop 4)) t = true → s1.subOf w t = none → s1.subsFull w = false → ∃ u, exec (.subscribe rq) s = .next u ∧
      Sent.frame rq.source (s1.sign (responseTo rq.frame w.tagged 0 0 (be 4 s1.svc.nextSub))) ∈ u.sent ∧ u.svc.nextSub = s1.svc.nextSub + 1 ∧
      ∃ e, e ∈ u.svc.subs ∧ e.id = s1.svc.nextSub ∧ e.who = w ∧ e.index = t.index ∧ e.sub = t.sub ∧ e.mode = 2 ∧ e.unanswered = []) ∧
  (∀ (rq : Request) (s s1 : State) (w : Who) (t : Target),
    s.admitted rq 5 (fun p => p.length == 8 && ofBE (slice p 1 3) == 0) = .go w s1 → s1.find w rq.frame.index rq.frame.sub = .inr t →
    t.row.rd = true → (rq.frame.typ = 0 ∨ rq.frame.typ = t.row.ty) → ofBE (rq.frame.payload.take 1) = 0 →
    ∃ u, exec (.subscribe rq) s = .next u ∧ ∀ e, s1.subOf w t = some e → ∀ x ∈ u.svc.subs, x.id ≠ e.id) ∧
  (∀ (id : Nat) (s : State) (e : Subscription), (s.pullSignals.svc.subs.find? fun e => e.id == id) = some e → e.mode = 2 → e.unanswered.length < 16 →
    let v := s.pullSignals.subValue e
    exec (.subscriptionPeriod id) s = .next (s.settle ((v.2.modSub e.id fun x => { x with held := none, last := v.1 }).notify e 0 (v.1.take notifyRoom)))) ∧
  (∀ (rq : Request) (s : State) (w : Who), s.listens rq.source = true → rq.frame.op = 6 → notifyResponse rq = true → rq.frame.version = 1 → rq.defect = .none →
    (s.countOnnum 0).sender rq = some (.inr w) → ∃ u, exec (.notifyResponse rq) s = .next u ∧
      ∀ e ∈ u.svc.subs, e.who.owner = w.owner → ∀ y ∈ e.unanswered, y.seq ≠ rq.frame.seq) ∧
  (∀ (id seq : Nat) (s : State) (e : Subscription) (u : Unanswered), (s.svc.subs.find? fun e => e.id == id) = some e →
    (e.unanswered.find? fun u => u.seq == seq) = some u →
    (u.attempts < 3 → exec (.notifyResendTimer id seq) s = .next (s.settle ((s.sendNotify e.who u.frame).2.modSub id fun x =>
      { x with unanswered := x.unanswered.map fun y => if y.seq = seq then { y with attempts := y.attempts + 1, pos := u.pos.or (s.sendNotify e.who u.frame).1 } else y }))) ∧
    (3 ≤ u.attempts → exec (.notifyResendTimer id seq) s = .next (s.settle s))) ∧
  (∀ (id : Nat) (s : State) (e : Subscription), (s.svc.subs.find? fun e => e.id == id) = some e → e.mode = 3 → 16 ≤ e.unanswered.length →
    ∃ u, exec (.subscriptionDropped id) s = .next u ∧ (∀ x ∈ u.svc.subs, x.id ≠ id) ∧
      u = s.settle ((s.notify e 0x0E1B []).modSvc fun x => { x with subs := x.subs.filter fun y => y.id != id }))

/-- SESSION_OPEN that names an installed credential, within the limits: where its signature verifies it opens a session with the next identity, of the class
it asks for, and where it does not it is aborted with ACCESS_DENIED and opens none; SESSION_CLOSE answers and ends the sender's session; and a
session without a valid frame for SESSION_IDLE_S closes (R62, R66). Completes: SESSION_OPEN, SESSION_CLOSE, SESSION_IDLE_TIMEOUT. -/
def Obligations.SessionsOpenAndClose : Prop :=
  (∀ (rq : Request) (s s1 : State) (w : Who) (k : Bytes), s.admitted rq 0x10 openPayload = .go w s1 → w.isAnon = true →
    let p := rq.frame.payload
    let tenant := if ofBE (p.take 1) = 1 then some (ofBE (slice p 1 1)) else none
    s1.openKey (ofBE (p.take 1)) (ofBE (slice p 1 1)) (ofBE (slice p 4 4)) = some k → s1.sessionsFull tenant = false →
    ∃ u, exec (.sessionOpen rq) s = .next u ∧
      (if Config.verifies k (p.take 105) (p.drop 105) = true then u.svc.nextSession = s1.svc.nextSession + 1 ∧
        (∃ e, e ∈ u.svc.sessions ∧ e.id = s1.svc.nextSession ∧ e.tenant = tenant ∧ e.source = rq.source ∧ e.credential = ofBE (slice p 4 4) ∧
          ∃ (d : Nat) (sig : Bytes), e.key = sessionKey d (slice p 8 97) (slice p 8 97) (publicBytes d) ∧
            Sent.frame rq.source (responseTo rq.frame w.tagged 0 0 ((be 4 s1.svc.nextSession ++ publicBytes d) ++ sig)) ∈ u.sent)
       else Sent.frame rq.source (responseTo rq.frame w.tagged 0x0E06 0 []) ∈ u.sent ∧
        u.svc.sessions.map (·.id) = s1.svc.sessions.map (·.id))) ∧
  (∀ (rq : Request) (s s1 : State) (w : Who) (id : Nat), s.admitted rq 0x11 (fun p => p.isEmpty) = .go w s1 → w.owner = .session id →
    exec (.sessionClose rq) s = .next (s.settle ((s1.ok rq w).closeSession id))) ∧
  (∀ (id : Nat) (s : State) (e : Session), (s.svc.sessions.find? fun e => e.id == id) = some e →
    exec (.sessionIdleTimeout id) s =
      .next (s.settle ((s.reach ((e.lastFrameNs + s.cfg 0x1250 3 * 1000000000) * 2 ^ 32)).closeSession id))) ∧
  (∀ (id : Nat) (s : State), ∀ e ∈ (s.closeSession id).svc.sessions, e.id ≠ id)

/-- The PCIe window: REQ_SUBMIT of a whole frame while none is pending serves the frame and leaves the window free again unless it waits; one while a
request is pending is logged as WINDOW_BUSY; a write of NOTIFY_TAIL moves the tail; a read of WINDOW_STATUS returns the two bits and clears the overflow; and the
requests held under R550 are taken up at the next whole second (R59 to R61). Completes: REQ_SUBMIT, NOTIFY_TAIL, WINDOW_STATUS_READ, HELD_REQUESTS_NEXT_SECOND. -/
def Obligations.WindowServesRequests : Prop :=
  (∀ (fn length : Nat) (f : Frame) (tagOk : Bool) (s : State), fn < 9 → s.listens (.pcie fn) = true →
    ((s.svc.windows.getD fn {}).reqPending = true →
      exec (.reqSubmit fn length f tagOk) s = .next (s.settle (s.logViolation 0x0E19 (if fn = 0 then 0xFF else fn - 1) (sourceCode (.pcie fn)) []).finishService)) ∧
    ((s.svc.windows.getD fn {}).reqPending = false → 20 ≤ length → length ≤ 4096 → frameLength f ≤ length →
      let s1 := s.modSvc fun x => { x with windows := x.windows.modify fn fun x => { x with reqPending := true, rspLen := 0, reqBuf := wireBytes f } }
      let s2 := s1.serveFrame { source := .pcie fn, frame := f, tagOk := tagOk, defect := .none }
      exec (.reqSubmit fn length f tagOk) s =
        .next (s.settle (s2.modSvc fun x => { x with windows := x.windows.modify fn fun x => { x with reqPending := s2.windowWaits fn } }).finishService))) ∧
  (∀ (fn value : Nat) (s : State), fn < s.svc.windows.length → fn < 9 → 4 ≤ s.mode → value < (s.svc.windows.getD fn {}).ringBytes →
    ∃ u, exec (.notifyTail fn 0x2018 value) s = .next u ∧ (u.svc.windows.getD fn {}).tail = value ∧
      u = { s.settle s with svc := { s.svc with windows := u.svc.windows, subs := u.svc.subs } }) ∧
  (∀ (fn : Nat) (s : State), fn < s.svc.windows.length → fn < 9 → 4 ≤ s.mode → ∃ u, exec (.windowStatusRead fn) s = .next u ∧
    (u.svc.windows.getD fn {}).overflow = false ∧
    Sent.pcieRead fn (le 4 (b01 (s.svc.windows.getD fn {}).reqPending + 2 * b01 (s.svc.windows.getD fn {}).overflow)) ∈ u.sent) ∧
  (∀ s : State, exec .heldRequestsNextSecond s = .next (s.settle (State.finishService (State.serveAll (s.svc.heldReqs.foldl (fun s e => match e.1.frame.op with
      | 3 => s.answerReadBlock e.1 e.2
      | 4 => s.answerWriteBlock e.1 e.2
      | _ => s.answerOpen e.1 e.2)
    ((s.reach ((s.nowNs / 1000000000 + 1) * 1000000000 * 2 ^ 32)).modSvc fun x => { x with heldReqs := [] }))))))

/-! ### Strokes and submissions -/

/-- A stroke at the head that passes every check of R152, waits for nothing and is of the least rank that can issue (R365) issues: it takes its tokens and its units and runs. It holds of every opcode;
a PEER_REDUCE that has issued then starts its chain.
Completes: NOP, SYNC, SIGNAL, WAIT_TIME, MOVE, PREFETCH, MCAST, GATHER, SCATTER, MATMUL, MATMUL_ACC, CONV2D, FFT, EWISE, PWL, REDUCE, NORM, SOFTMAX,
ROTATE, CONVERT, ATTN_DECODE, ATTN_PREFILL, KV_APPEND, KV_PUBLISH, STREAM_STEP, STREAM_GATES, STREAM_RENORM, STREAM_MOVE, PEER_SEND, END, PEER_REDUCE. -/
def Obligations.ReadyStrokesIssue : Prop :=
  (∀ r ∈ strokeRows, ∀ (p c core : Nat) (s : State) (t : Site), s.MayIssue r.op r.meaning p c core t →
    exec (r.command p c core) s = .next (s.settle (s.launch r.meaning t))) ∧
  (∀ (p c core : Nat) (s : State) (t : Site), s.MayIssue 0x31 meaningPeerReduce p c core t →
    exec (.peerReduce p c core) s = .next (s.settle ((s.launch meaningPeerReduce t).startReduce p c core)))

/-- A stroke that issues and meets no fault is running with the results of its own meaning: what it will write, its signals, its units and its flags;
it has left the head of its core's queue and taken its tokens, and but for lines of the cache no object, setting, clock or mode has changed. It holds
of any meaning that has no effect of its own before the stroke completes. -/
def Obligations.LaunchedStrokeRunsWithItsResults : Prop :=
  ∀ (m : Meaning) (s : State) (t : Site), t.p < s.parts.length → s.splits t = false → (∀ (t' : Site) (s' : State), (m.run t' s').2 = s') →
    let took := ((s.modSlot t.slot fun x => takeTokens x t.c (waitTokens t.w)).modRun t.p t.c t.core fun r =>
      { r with todo := r.todo.drop 1, lastIssued := r.lastIssued + b01 (isLast t.w),
               gate := if s.ctxClass t.p t.c = 1 then (t.pat.gateOf t.core t.idx).or r.gate else r.gate, stalls := [] }).fillQueue t.p t.c t.core
    let seen := ((took.countSlot t.slot 0).countPart t.p 0 1).glimpse t.p
    let e := (m.run t seen).1
    let u := s.launch m t
    e.fault = 0 →
      (∃ r, r ∈ (u.part t.p).running ∧ r.ctx = t.c ∧ r.core = t.core ∧ r.stroke = t.idx ∧ r.writes = e.writes ∧ r.signals = e.signals ∧
        r.flags = e.flags ∧ r.units = m.units t.w ++ e.units) ∧
      u = { s with slots := u.slots, parts := u.parts, freeCount := u.freeCount, tiers := u.tiers } ∧ u.tiers = { s.tiers with lines := u.tiers.lines }

/-- A stroke that fails a check of R152 at the head executes nothing: it ends its submission with the check's code. A stroke that waits for a token, a unit
or something of its own stays at the head and changes nothing, but that the wait for a late block of a prefetcher is counted once (R326); one that a head of
lesser rank passes over changes nothing (R365). -/
def Obligations.RefusedAndWaitingStrokesDoNothing : Prop :=
  ∀ r ∈ strokeRows, ∀ (p c core : Nat) (s : State) (t : Site), s.headSite r.op p c core = some t →
    (s.headCode t (r.meaning.own t s) ≠ 0 →
      exec (r.command p c core) s = .next (s.settle (s.refuseStroke t (s.headCode t (r.meaning.own t s))))) ∧
    (s.headCode t (r.meaning.own t s) = 0 →
      tokensReady (s.slot t.slot) c (waitTokens t.w) = false ∨ (r.meaning.units t.w).any (s.unitsHeld p core).contains = true ∨ r.meaning.ready t s = false →
      exec (r.command p c core) s = .next (s.settle (s.late t))) ∧
    (s.headCode t (r.meaning.own t s) = 0 → tokensReady (s.slot t.slot) c (waitTokens t.w) = true → (r.meaning.units t.w).any (s.unitsHeld p core).contains = false →
      r.meaning.ready t s = true → s.passedOver p c core = true → exec (r.command p c core) s = .next (s.settle s))

/-- A running stroke that waits for nothing more completes; SYNC_COMPLETE completes every member's SYNC once each waits with the peal, and a WAIT_TIME completes
at its deadline, which the clock has then reached. What has completed is no longer running, its results stand in the memories of the cores and in the
objects, and its core has one more step ended where it was the last of one, and all of its part of the submission where it was END (R108, R154, R156,
R157). Completes: STROKE_COMPLETE, SYNC_COMPLETE, WAIT_TIME_DEADLINE. -/
def Obligations.StrokesComplete : Prop :=
  (∀ (p c core stroke : Nat) (s : State) (r : Running), s.runningAt p c core stroke = some r → s.mayComplete p r = true →
    exec (.strokeComplete p c core stroke) s = .next (s.settle (s.completeStroke p r)) ∧ (r.word0 % 256 ≠ 0x0A → s.completeStroke p r = s.finishStroke p r)) ∧
  (∀ (p : Nat) (s : State) (r : Running),
    let u := s.finishStroke p r
    let done := r.writes.foldl (fun s w => s.applyWrite w) s
    (∀ x ∈ (u.part p).running, x ∈ (s.part p).running.erase r) ∧
    (∀ n, (u.slot n).spad = (done.slot n).spad ∧ (u.slot n).acc = (done.slot n).acc ∧ (u.slot n).stream = (done.slot n).stream) ∧
    u.objects.map (·.content) = done.objects.map (·.content) ∧
    ∀ f x, (s.ctx p r.ctx).flight = some f → f.run? r.core = some x → ∃ g y, (u.ctx p r.ctx).flight = some g ∧ g.run? r.core = some y ∧
      y.steps = x.steps + b01 (isLast [r.word0]) ∧ y.ended = (x.ended || opcodeOf [r.word0] == 0x3F)) ∧
  (∀ (p c peal k : Nat) (s : State) (pat : Loaded), (s.ctx p c).pattern = some pat → pat.peal peal ≠ [] →
    (∀ m ∈ pat.peal peal, ∃ r ∈ s.waitingSyncs p c peal k, r.core = m) →
    exec (.syncComplete p c peal k) s = .next (s.settle ((s.waitingSyncs p c peal k).foldl (fun s r => s.finishStroke p r) s))) ∧
  (∀ (p c core : Nat) (s : State) (r : Running) (d : Nat),
    ((s.part p).running.find? fun r => r.ctx == c && r.core == core && r.untilNs.isSome) = some r → r.untilNs = some d →
    exec (.waitTimeDeadline p c core) s = .next (s.settle ((s.reach (d * 2 ^ 32)).finishStroke p r)))

/-- A signal adds 1 to a token counter below 255 and leaves every other counter as it is; at 255 it adds nothing, and the submission of the context ends with
TOKEN_OVERFLOW, which names the stroke that signalled where it is the submission's own (R108, R153). So a counter never leaves its 8 bits. -/
def Obligations.TokenCountersHoldEightBits : Prop :=
  ∀ (p slot c k : Nat) (signaller : Option (Nat × Nat)) (s : State), slot < s.slots.length → k < 8 → 8 * c + k < (s.slot slot).tokens.length →
    ((s.slot slot).token c k < 255 → ((s.addToken p slot c k signaller).slot slot).token c k = (s.slot slot).token c k + 1 ∧
      ∀ c' k', k' < 8 → (c', k') ≠ (c, k) → ((s.addToken p slot c k signaller).slot slot).token c' k' = (s.slot slot).token c' k') ∧
    (255 ≤ (s.slot slot).token c k → s.addToken p slot c k signaller = s.stopFlight p c 0x0103 (signaller.getD ((s.slot slot).logical, 0xFFFFFFFF)).1
      (signaller.getD ((s.slot slot).logical, 0xFFFFFFFF)).2) ∧
    ((∀ x ∈ (s.slot slot).tokens, x ≤ 255) → ∀ x ∈ ((s.addToken p slot c k signaller).slot slot).tokens, x ≤ 255)

/-- A tile of a preemptible stroke that is not its last ends: its results stand before the next tile starts, and the position moves on (R107, R146). Where a ready
stroke of lesser rank wants its unit the stroke then gives the unit up and marks its submission PREEMPTED, and it goes on where it stood when its rank and its
units allow (R365); and a stroke at the head, or a SYNC, that has waited TOKEN_WAIT_LIMIT_US ends the submission with TOKEN_TIMEOUT (R108, R159).
Completes: TILE_BOUNDARY, TOKEN_TIMEOUT. -/
def Obligations.TilesYieldAndTokensTimeOut : Prop :=
  (∀ (p c core stroke : Nat) (s : State) (r : Running), s.runningAt p c core stroke = some r → preemptOk [r.word0] = true → r.preempted = false →
    r.tile + 1 < r.tiles → s.heldBack p r = false →
    let t := s.passTile p r
    t.1 = { r with writes := r.writes.filter fun w => decide (r.tile < w.tile), tile := r.tile + 1 } ∧
    (r.word0 % 256 ≠ 0x0A → ∀ n, (t.2.slot n).spad = (((r.writes.filter fun w => decide (w.tile ≤ r.tile)).foldl (fun s w => s.applyWrite w) s).slot n).spad) ∧
    ((List.range 16).find? (t.2.wanted p core t.1) = none → exec (.tileBoundary p c core stroke) s = .next (s.settle t.2)) ∧
    (∀ k, (List.range 16).find? (t.2.wanted p core t.1) = some k → exec (.tileBoundary p c core stroke) s = .next (s.settle
      ((((t.2.setPreempted p t.1 true).modFlight p r.ctx fun f => { f with marks := f.marks ||| 16 }).countCtx p r.ctx 4).capture p 5
        ([byteOf r.core, byteOf r.ctx, byteOf k, 0] ++ le 4 r.stroke))))) ∧
  (∀ (p c core stroke : Nat) (s : State) (r : Running), s.runningAt p c core stroke = some r → preemptOk [r.word0] = true → r.preempted = true →
    (s.mayResume p core r = true → exec (.tileBoundary p c core stroke) s = .next (s.settle (s.setPreempted p r false))) ∧
    (s.mayResume p core r = false → exec (.tileBoundary p c core stroke) s = .next (s.settle s))) ∧
  (∀ (p c core : Nat) (s : State) (f : Flight) (r : Running), (s.ctx p c).flight = some f → f.stop = none →
    ((s.part p).running.find? fun r => r.ctx == c && r.core == core && r.sync.isSome) = some r →
    exec (.tokenTimeout p c core) s = .next (s.settle (s.stopFlight p c 0x0104 core r.stroke))) ∧
  (∀ (p c core : Nat) (s : State) (f : Flight) (x : CoreRun) (pat : Loaded) (n i : Nat) (rest : List Nat), (s.ctx p c).flight = some f → f.stop = none →
    ((s.part p).running.find? fun r => r.ctx == c && r.core == core && r.sync.isSome) = none → f.run? core = some x → (s.ctx p c).pattern = some pat →
    s.slotOf p core = some n → x.todo = i :: rest → f.started = true → tokensReady (s.slot n) c (waitTokens (pat.stroke i)) = false →
    exec (.tokenTimeout p c core) s = .next (s.settle (s.stopFlight p c 0x0104 core i)))

/-- Once the gate's stroke has completed, a layer whose counts are clear or watched goes on: the evaluation is recorded and the gate opens. A trip that may re-run waits
for the drain and then queues the wide range before the strokes that are left; one that may not is recorded with its reason and keeps the narrow results
(R214, R216, R217). Completes: SAT_GATE_DECISION. -/
def Obligations.GateDecidesTheLayer : Prop :=
  ∀ (p c core : Nat) (s : State) (f : Flight) (pat : Loaded) (r : CoreRun) (layer e : Nat), (s.ctx p c).flight = some f → (s.ctx p c).pattern = some pat →
    f.run? core = some r → r.gate = some (layer, e) →
    (s.part p).running.any (fun x => x.ctx == c && x.core == core && x.stroke == (pat.rerunCore e core).1) = false →
    let out := s.outcome pat r layer (some e)
    let reason := s.noRerun p c pat f r layer (some e)
    let busy := (s.part p).running.any fun x => x.ctx == c && x.core == core
    (out ≠ 2 → exec (.satGateDecision p c core) s = .next (s.settle ((s.recordLayer p c core layer out 0).modRun p c core fun r => { r with gate := none }))) ∧
    (out = 2 → reason = 0 → busy = false →
      let wide := pat.rerunCore e core
      exec (.satGateDecision p c core) s = .next (s.settle (((s.recordLayer p c core layer 2 0).modRun p c core fun r =>
        { r with gate := none, rerun := r.rerun + 1, ranWide := layer :: r.ranWide, wide := some (layer, e, wide.2.1, wide.2.2),
                 todo := (List.range wide.2.2).map (wide.2.1 + ·) ++ r.todo }).fillQueue p c core))) ∧
    (out = 2 → reason = 0 → busy = true → exec (.satGateDecision p c core) s = .next (s.settle s)) ∧
    (out = 2 → reason ≠ 0 → exec (.satGateDecision p c core) s = .next (s.settle
      ((s.recordLayer p c core layer 2 reason).modRun p c core fun r => { r with gate := none })))

/-- A submission moves from its release to its completion: a beat releases what waits in a real-time context, of which all but what can start at once count as
deferred (R374, R375), and a release time one best-effort submission (R373); a step that has ended on every core goes through its boundary, and the next step
follows (R156); a submission that has ended on every core, or was stopped and has no stroke left that holds a unit, ends with its completion, and the context
dispatches its next (R157, R371); and the first doorbell that the urgent path holds is accepted in a partition that is RUNNING, once nothing is in
flight and the interval has passed (R378). Completes: BEAT_START, RELEASE_TIME, STEP_BOUNDARY, SUBMISSION_COMPLETE, URGENT_DOORBELL_RELEASE. -/
def Obligations.SubmissionsRunToCompletion : Prop :=
  (∀ (p c k : Nat) (s : State), s.ctxClass p c = 2 → ((s.part p).state = 2 ∨ (s.part p).state = 5) → s.ns ≤ s.beatStart p c k →
    let b := s.beatStart p c k
    let s0 := s.reach (b * 2 ^ 32)
    let waits := (s0.ctx p c).queue.filter fun x => x.released.isNone
    let busy := (s0.ctx p c).flight.isSome || (s0.ctx p c).queue.any fun x => x.released.isSome
    let s1 := waits.foldl (fun s x => (s.released p c x b none).2) s0
    exec (.beatStart p c k) s = .next (s.settle ((s1.modCtx p c fun y =>
      { y with queue := y.queue.map fun q => if q.released.isSome then q else { q with released := some b, deadline := some (s1.beatStart p c (k + 1)) },
               counts := bumpBy y.counts 3 (if busy then waits.length else waits.length - 1) }).dispatchAll p c))) ∧
  (∀ (p c : Nat) (s : State) (q : Submission), ((s.ctx p c).queue.find? fun x => x.released.isNone && x.flags.testBit 0) = some q → s.ctxClass p c = 1 →
    let r := (s.reach (q.releaseNs * 2 ^ 32)).released p c q (s.reach (q.releaseNs * 2 ^ 32)).ns none
    exec (.releaseTime p c) s = .next (s.settle
      ((r.2.modCtx p c fun x => { x with queue := x.queue.map fun y => if y = q then r.1 else y }).dispatchAll p c))) ∧
  (∀ (p c : Nat) (s : State) (f : Flight), (s.ctx p c).flight = some f → f.stepEnded = true → exec (.stepBoundary p c) s = .next (s.settle
    (if f.cores.all (·.ended) then s.boundary p c f else (s.boundary p c f).nextStep p c))) ∧
  (∀ (p c : Nat) (s : State) (f : Flight), (s.ctx p c).flight = some f → p ≠ s.cascadePart →
    ((s.submissionComplete p c).ctx p c).flight.map (·.sub.index) ≠ some f.sub.index →
    exec (.submissionComplete p c none none) s = .next (s.settle (s.submissionComplete p c).promoteAll)) ∧
  (∀ (p c : Nat) (s : State) (f : Flight), (s.ctx p c).flight = some f → f.stop = none → f.cores.all (·.ended) = true → (f.started = true → f.stepEnded = true) →
    ((s.part p).running.filter fun r => r.ctx == c) = [] →
    let s1 := if f.started then s.boundary p c f else s
    ∀ g, (s1.ctx p c).flight = some g → s.submissionComplete p c = (s1.finishFlight p c g g.stop).dispatchAll p c) ∧
  (∀ (p c : Nat) (s : State) (f : Flight) (stop : Nat × Nat × Nat), (s.ctx p c).flight = some f → f.stop = some stop →
    ((s.part p).running.filter fun r => r.ctx == c) = [] →
    let s1 := s.modPart p fun x => { x with running := x.running.filter fun r => r.ctx != c }
    s.submissionComplete p c = ((((s1.kvAbort p c).streamAbort p c).finishFlight p c f (some stop)).dispatchAll p c)) ∧
  (∀ (p c v : Nat) (rest : List Nat) (s : State), (s.ctx p c).held = v :: rest → (s.part p).state = 2 → (s.ctx p c).flight = none → (s.ctx p c).queue = [] →
    let due := match (s.ctx p c).lastAcceptNs with
      | some t => t + 1000 * s.ctxCfg p c 0 0x0B
      | none => 0
    exec (.urgentDoorbellRelease p c) s = .next (s.settle (((s.reach (due * 2 ^ 32)).modCtx p c fun x => { x with held := rest }).acceptTo p c v)))

/-- A doorbell that a context takes is accepted to its value, over Onnum as over PCIe, and answered over Onnum only where ACK_REQ asks; one that is
refused moves nothing: it is aborted with its code over Onnum, and logged with it over PCIe (R77, R372, R488). Completes: PCIE_DOORBELL, ONNUM_DOORBELL. -/
def Obligations.DoorbellsAreAcceptedOrRefused : Prop :=
  (∀ (p c v : Nat) (s : State), 4 ≤ s.mode → p < 8 → c < 16 → s.area p 0x50 1 ≠ 1 →
    (s.hostDoorbellCode p c v = 0 → exec (.pcieDoorbell p c v) s = .next (s.settle (s.ringDoorbell p c v))) ∧
    (s.hostDoorbellCode p c v ≠ 0 → exec (.pcieDoorbell p c v) s = .next (s.settle (s.logViolation (s.hostDoorbellCode p c v) p (0x10 + p) [])))) ∧
  (∀ (rq : Request) (s s1 : State) (w : Who) (t : Target), s.admitted rq 7 (fun p => p.length == 4) = .go w s1 → w.isAnon = false →
    s1.resolve w rq.frame.index rq.frame.sub = .inr t → t.row.name = "DOORBELL" →
    let v := ofBE rq.frame.payload
    (s1.hostDoorbellCode t.i t.j v = 0 → exec (.onnumDoorbell rq) s = .next (s.settle
      (if rq.frame.flags.testBit 0 then (s1.ringDoorbell t.i t.j v).ok rq w else s1.ringDoorbell t.i t.j v))) ∧
    (s1.hostDoorbellCode t.i t.j v ≠ 0 → exec (.onnumDoorbell rq) s = .next (s.settle (s1.abort rq w (s1.hostDoorbellCode t.i t.j v)))))

/-- The chunks of a stream context: at a chunk's release the part writes its features and submits it, or its gate first (R287); a gate submission that has completed
moves each fed slot's gate and the chunk goes on, submitted by the part where AUTO is TRUE and masked where the host submitted it (R289, assumption 67); and a
prefetcher that waits for no credit delivers its next block (R292). Completes: AUTO_CHUNK_RELEASE, STREAM_GATE_UPDATE, PREFETCH_BLOCK_DELIVERED. -/
def Obligations.ChunksAreReleasedAndDelivered : Prop :=
  (∀ (p c k : Nat) (s : State) (o : Obj), s.autoChunks p c = true → (s.ctx p c).chunkIndex ≤ k → 4 ≤ s.mode → (s.part p).state = 2 → s.ns ≤ s.chunkRelease p c k →
    let s1 := (s.reach (s.chunkRelease p c k * 2 ^ 32)).modCtx p c fun x =>
      { x with chunkIndex := k + 1, latency := some ((s.reach (s.chunkRelease p c k * 2 ^ 32)).chunkLatency p), lastRelease := s.chunkRelease p c k }
    let s2 := s1.writeFeatures p k (s1.chunkCfg p c 0) o
    s1.boundIn (s.ctx p c).binds 65529 = some o → 2 * (64 + s1.chunkCfg p c 0 * 2049 * ((2 * s1.cfg 0x2220 1 + 63) / 64 * 64)) ≤ o.size →
    (s2.gateContext p c = none → exec (.autoChunkRelease p c k) s = .next (s.settle (s2.releaseChunk p c k ((s2.fedSlots p).map fun e => (e.1, 0))))) ∧
    (∀ g, s2.gateContext p c = some g → exec (.autoChunkRelease p c k) s = .next (s.settle (s2.submitGate p c g k)))) ∧
  (∀ (p c k code : Nat) (s : State), (s.ctx p c).gating = some (k, some code) →
    let r := (s.modCtx p c fun x => { x with gating := none }).moveGates p c code
    (s.autoChunks p c = true → exec (.streamGateUpdate p c) s = .next (s.settle (r.2.releaseChunk p c k r.1))) ∧
    (s.autoChunks p c = false → exec (.streamGateUpdate p c) s = .next (s.settle (r.2.submitMasked p c r.1)))) ∧
  (∀ (p c g : Nat) (s : State) (sub : Submission) (rest : List Submission), (s.ctx p c).gating = none → s.gateContext p c = some g →
    (s.ctx p c).queue = sub :: rest → (s.ctx p c).flight = none → sub.released.isSome = true → s.awaitsGate p c sub = true →
    exec (.streamGateUpdate p c) s = .next (s.settle (s.submitGate p c g sub.seq))) ∧
  (∀ (slot k : Nat) (s : State) (f : Prefetcher) (pat : Loaded) (o : Obj), (s.slot slot).prefetchers.getD k none = some f →
    (s.ctx f.part f.ctx).pattern = some pat → s.objOf f.handle = some o → o.state ≠ 4 → s.requested slot f pat = true →
    s.replacing.any (fun x => x.part == f.part && (dCores f.desc pat f.core).contains x.logical) = false →
    exec (.prefetchBlockDelivered slot k) s =
      .next (s.settle (((s.deliverBlock slot k f pat o).countFree f.part slot ([8], [])).countFlits f.part slot)))

/-! ### Power modes -/

/-- An idle part descends: where the conditions of R29 hold and nothing refuses, the descent to ATTEND, or from ATTEND to the effective floor, starts, and the
dictionary answers what it has accepted and ends first where it leaves ATTEND (R69, R506). A refuser is recorded once, with POWER_REFUSALS and its count, and
the descent waits; a brace holds it without a record; and it is tried again when its refuser has cleared (R510, R511). A part that is not idle does
nothing. Completes: ACTIVE_IDLE_HOLD_EXPIRY, ATTEND_IDLE_HOLD_EXPIRY, CHIME_REJECT_HOLD_EXPIRY, DESCENT_RETRY. -/
def Obligations.IdlePartsDescend : Prop :=
  (∀ s : State, s.activeIdle = true → s.power.braced = false → s.refuser 4 false = none →
    exec .activeIdleHoldExpiry s = .next (s.settle (s.modPower fun x => { x with down := some (4, 1), refused := none, wanted := none, since := s.nowTicks }))) ∧
  (∀ s : State, s.attendIdle = true → s.effectiveFloor < 4 → s.power.braced = false → s.refuser s.effectiveFloor false = none →
    let t := (s.modPower fun x => { x with down := some (s.effectiveFloor, 1), refused := none, wanted := none, since := s.nowTicks }).closeService.finishService
    (s.power.shortHold ≠ 2 → exec .attendIdleHoldExpiry s = .next (s.settle t)) ∧
    (s.power.shortHold = 2 → exec .chimeRejectHoldExpiry s = .next (s.settle t))) ∧
  (∀ s : State, (s.power.shortHold = 2 → exec .attendIdleHoldExpiry s = .next (s.settle s.finishService)) ∧
    (s.power.shortHold ≠ 2 → exec .chimeRejectHoldExpiry s = .next (s.settle s.finishService)) ∧
    (s.activeIdle = false → exec .activeIdleHoldExpiry s = .next (s.settle s)) ∧
    (s.attendIdle = false → exec .attendIdleHoldExpiry s = .next (s.settle s.finishService) ∧ exec .chimeRejectHoldExpiry s = .next (s.settle s.finishService))) ∧
  (∀ (s : State) (r : Refuser), s.activeIdle = true → s.power.braced = false → s.refuser 4 false = some r →
    (s.power.refused = some (r.code, 4) → exec .activeIdleHoldExpiry s = .next (s.settle s)) ∧
    (s.power.refused ≠ some (r.code, 4) → exec .activeIdleHoldExpiry s = .next (s.settle
      ((s.recordRefusal r 4 1).modPower fun x => { x with refused := some (r.code, 4) })) ∧
      (s.recordRefusal r 4 1).refusalLog = s.refusalLog.add 1024 (s.record r.code r.scope r.source ([byteOf s.mode, 4, 1, 0] ++ be 2 r.what)) ∧
      (s.recordRefusal r 4 1).power.counts = bump s.power.counts 6)) ∧
  (∀ s : State, s.activeIdle = true → s.power.braced = true →
    exec .activeIdleHoldExpiry s = .next (s.settle (s.modPower fun x => { x with refused := some (0x0B07, 4) }))) ∧
  (∀ (s : State) (code : Nat), s.power.refused = some (code, 4) → s.power.braced = false → s.refuser 4 false = none → s.activeIdle = true →
    exec .descentRetry s = .next (s.settle (s.modPower fun x => { x with down := some (4, 1), refused := none, wanted := none, since := s.nowTicks }).finishService)) ∧
  (∀ (s : State) (code target : Nat), target < 4 → s.power.refused = some (code, target) → s.power.braced = false → s.refuser target false = none → s.attendIdle = true →
    exec .descentRetry s = .next (s.settle
      (s.modPower fun x => { x with down := some (target, 1), refused := none, wanted := none, since := s.nowTicks }).closeService.finishService)) ∧
  (∀ (s : State) (r : Refuser) (target : Nat), s.power.refused = some (r.code, target) → s.refuser target false = some r →
    exec .descentRetry s = .next (s.settle s.finishService))

/-- WAKE_N and the alarm wake the part from below ATTEND to the target they name, the alarm once: it clears its ENABLE. In HIBERNATE, and elsewhere below ATTEND
where the target is ATTEND, the first wake gives the reason and the target; a later one raises the target at most (R500, R507). A failed wake is tried
again (R501). Completes: WAKE_PIN, POWER_ALARM, WAKE_RETRY. -/
def Obligations.WakeSourcesRaiseTheTarget : Prop :=
  (∀ s : State, s.mode = 1 → s.power.up = none → exec .wakePin s = .next (s.settle ((s.setObj 0 0x1400 4 [byteOf 2]).modPower fun x =>
    { x with up := some (s.cfg 0x1400 5), since := s.nowTicks, shortHold := 0 }))) ∧
  (∀ (s : State) (up : Nat), 1 ≤ s.mode → s.mode < 4 → (s.mode = 1 ∨ 4 ≤ s.cfg 0x1400 5) → s.power.up = some up →
    exec .wakePin s = .next (s.settle (s.modPower fun x => { x with up := some (max (s.cfg 0x1400 5) up), shortHold := 0 }))) ∧
  (∀ s : State, (s.mode = 2 ∨ s.mode = 3) → 4 ≤ s.cfg 0x1400 5 → s.power.up = none → exec .wakePin s = .next (s.settle ((s.setObj 0 0x1400 4 [byteOf 2]).modPower fun x =>
    { x with up := some (s.cfg 0x1400 5), since := s.nowTicks, shortHold := 0 }))) ∧
  (∀ s : State, ofBE ((s.obj 0 0x1400 3).take 1) ≠ 0 →
    let v := s.obj 0 0x1400 3
    exec .powerAlarm s = .next (s.settle
      (((s.reach ((ofTime96 (slice v 1 12)).getD 0 * 2 ^ 32)).setObj 0 0x1400 3 (0 :: v.drop 1)).wake (ofBE (v.drop 13)) 3))) ∧
  (∀ s : State, ofBE ((s.obj 0 0x1400 3).take 1) = 0 → exec .powerAlarm s = .next (s.settle s)) ∧
  (∀ s : State, s.power.failed = true → exec .wakeRetry s = .next (s.settle (s.modPower fun x =>
    { x with failed := false, retries := x.retries + 1, since := s.nowTicks })))

/-- The sequencer's transitions end in the mode they name: HIBERNATE to LISTEN resets ATC and counts an epoch (R502), LISTEN or LISTEN_RETAIN to ATTEND serves the
dictionary again (R503), ATTEND to ACTIVE and back switch the slots (R504, R505), and a descent from ATTEND ends its request (R506). Where SOC_PG, or the
acknowledgement of the supply, does not come, the transition is undone, SUPPLY_LATE is recorded, and the mode is as it was (R501). Completes:
HIBERNATE_TO_LISTEN, LISTEN_TO_ATTEND, ATTEND_TO_ACTIVE, ACTIVE_TO_ATTEND, DESCENT_FROM_ATTEND. -/
def Obligations.TransitionsReachTheirMode : Prop :=
  (∀ (s : State) (target : Nat), s.power.up = some target → s.mode = 1 → s.power.braced = false →
    ∃ u, exec .hibernateToListen s = .next u ∧ u.mode = 2 ∧ u.afe.atc = 12288 ∧ u.afe.epoch = s.afe.epoch + 1 ∧ u.objects = s.objects ∧ u.keys = s.keys) ∧
  (∀ (s : State) (pass : List Nat), (s.mode = 2 ∨ s.mode = 3) → s.power.up = some 4 → s.power.failed = false → s.power.braced = false →
    exec (.listenToAttend true pass) s = .next (s.settle ((s.spend 600).entersAttend s.mode pass).finishService)) ∧
  (∀ (s : State) (from_ : Nat) (pass : List Nat), (s.entersAttend from_ pass).mode = 4 ∧ (s.power.wanted = none → (s.entersAttend from_ pass).serving = true)) ∧
  (∀ (s : State) (pass : List Nat), s.mode = 2 → s.power.up = some 4 → s.power.failed = false → s.power.braced = false →
    let s1 := (s.supplyLate 2 4 170).modPower fun x => if x.retries < 3 then { x with failed := true } else { x with up := none, retries := 0 }
    s1.mode = 2 ∧ exec (.listenToAttend false pass) s = .next (s.settle s1.finishService)) ∧
  (∀ s : State, s.mode = 4 → s.ascend = true → s.power.down = none → s.power.failed = false → s.power.braced = false →
    let on := { (((s.spend 2500).slotsOff s.chimeSlots).enter 5) with ascend := false }.modPower fun x => { x with retries := 0 }
    on.mode = 5 ∧ exec (.attendToActive true) s = .next (s.settle
      (((List.range 8).foldl (fun s p => s.dispatchPart p) ((List.range 8).foldl (fun s p => s.serveNext p) on).promoteAll).settleWanted).finishService)) ∧
  (∀ s : State, s.mode = 4 → s.ascend = true → s.power.down = none → s.power.failed = false → s.power.braced = false →
    let late := s.supplyLate 4 5 2400
    late.mode = 4 ∧
    (s.power.retries < 3 → exec (.attendToActive false) s = .next (s.settle (late.modPower fun x => { x with failed := true }).finishService)) ∧
    (3 ≤ s.power.retries → exec (.attendToActive false) s = .next (s.settle ({ late with ascend := false }.modPower fun x => { x with retries := 0 }).finishService))) ∧
  (∀ (s : State) (origin : Nat), s.power.down = some (4, origin) → s.mode = 5 → s.power.braced = false → s.refuser 4 false = none →
    let off := ((s.spend 1000).stopCams (s.cfg 0x2300 5)).slotsOff s.chimeSlots
    let on := ((off.enter 4).modPower fun x => { x with down := none, since := off.nowTicks }).contactServer
    on.mode = 4 ∧ on.power.down = none ∧ exec (.activeToAttend true) s = .next (s.settle on.finishService) ∧
    let late := (s.slotsOff s.chimeSlots).supplyLate 5 4 1000
    exec (.activeToAttend false) s = .next (s.settle (late.modPower fun x => { x with down := none }).finishService) ∧ late.mode = 5) ∧
  (∀ (s : State) (target origin : Nat), s.power.down = some (target, origin) → s.mode = 4 → s.power.braced = false →
    s.refuser target (origin == 2) = none → ∃ u, exec (.descentFromAttend none) s = .next u ∧ u.mode = target ∧ u.power.down = none)

/-- A brace, an emergency and their second are counted and end: the brace holds until VAON recovers, and its record then tells the lowest level
and the time (R516, R517); an emergency begins at 102 °C or with PWR_ALERT_N and holds at least to the whole second that ends it (R523); a second in which
either held adds 1 to every partition's count of slowed seconds (R524); and the regulator's limit is counted (R513). Completes: BRACE_START, BRACE_END,
EMERGENCY_START, EMERGENCY_END, SLOWED_SECOND, REGULATOR_LIMIT_REACHED. -/
def Obligations.BracesAndEmergenciesHoldAndEnd : Prop :=
  (∀ s : State, s.power.braced = false → ∃ u, exec .braceStart s = .next u ∧ u.power.braced = true ∧ u.power.slowed = true ∧
    u.power.counts = bump s.power.counts 9 ∧ u.mode = s.mode ∧ u.slots = s.slots ∧ u.objects = s.objects) ∧
  (∀ (s : State) (mv us : Nat), s.power.braced = true → ∃ u, exec (.braceEnd mv us) s = .next u ∧ u.power.braced = false ∧ u.mode = s.mode ∧ u.slots = s.slots ∧
    ∀ r rest, s.power.store = [] → s.errorLog.recs = r :: rest → r.code = 0x0B09 → u.errorLog.recs = { r with detail := be 2 mv ++ be 4 us } :: rest) ∧
  (∀ (s : State) (n : Nat) (tj : Int), s.power.emergency = false → 4 ≤ s.mode → 1020 ≤ tj →
    exec (.emergencyStart (some (n, tj))) s = .next (s.settle
      ((((s.countPower 10).modPower fun x => { x with emergency := true, slowed := true, emergencyAtNs := s.nowNs })).logError
        0x0B0B 0xFF 0 (byteOf n :: be 2 (unsigned 16 tj))))) ∧
  (∀ s : State, s.power.emergency = false → 4 ≤ s.mode →
    exec (.emergencyStart none) s = .next (s.settle
      ((((s.countPower 10).modPower fun x => { x with emergency := true, slowed := true, emergencyAtNs := s.nowNs })).logError
        0x0B0C 0xFF 0 []))) ∧
  (∀ (s : State) (second : Nat), s.power.emergency = true → s.power.emergencyAtNs + 1000000000 ≤ second * 1000000000 →
    exec (.emergencyEnd second) s = .next (s.settle
      ((s.reach (second * 1000000000 * 2 ^ 32)).modPower fun x => { x with emergency := false }))) ∧
  (∀ (s : State) (second : Nat), s.power.emergency = true → second * 1000000000 < s.power.emergencyAtNs + 1000000000 →
    exec (.emergencyEnd second) s = .next (s.settle s)) ∧
  (∀ s : State, s.power.slowed = true → exec .slowedSecond s = .next (s.settle (s.modPower fun x =>
    { x with slowed := x.braced || x.emergency, view := x.view.map fun v => bump v 2 }))) ∧
  (∀ s : State, s.power.slowed = false → exec .slowedSecond s = .next (s.settle s)) ∧
  (∀ s : State, exec .regulatorLimitReached s = .next (s.settle (s.modPower fun x => { x with counts := bump x.counts 11 })))

/-- Every 100 µs each partition's duty falls by a sixteenth where its mean is above its share, to no less than a quarter, rises by one where it is below nine
tenths of it, and is whole where the partition does not run; only the power manager's state changes (R521). Completes: POWER_DUTY_UPDATE. -/
def Obligations.DutyFollowsTheCap : Prop :=
  ∀ (s : State) (means : List Nat), ∃ u, exec (.powerDutyUpdate means) s = .next u ∧ u = s.settle { s with power := u.power } ∧
    u.power.duty.length = s.power.duty.length ∧
    ∀ p, p < s.power.duty.length →
      let was := s.power.duty.getD p 16
      let cap := s.capShares.getD p 0
      let mean := means.getD p 0
      u.power.duty.getD p 16 = (if s.running p = false then 16 else if cap < mean then max 4 (was - 1) else if 10 * mean < 9 * cap then min 16 (was + 1) else was)

/-! ### Starts and resets -/

/-- A loss of VAON, a brownout of the always-on rail, a trip and a long low of the reset pin throw the part down with their reason: nothing is served, every
key, session and log is gone, the counters stand at 0 and the part waits for its cold start (R514, R518, R525, R554, R598). A low of the reset pin
of 1 µs to 10 ms asks for a warm reset, and its falling edge starts the timer. Completes: VAON_RESET, AON_BROWNOUT, THERMAL_TRIP, SYS_RESET_N,
SYS_RESET_N_FALLING_EDGE. -/
def Obligations.ResetsTakeEverythingDown : Prop :=
  (∀ (reason : Nat) (s : State), (s.fall reason).mode = 0 ∧ (s.fall reason).serving = false ∧ (s.fall reason).ras.cold = some reason ∧
    (s.fall reason).keys = List.replicate 8 none ∧ (s.fall reason).svc = {} ∧ (s.fall reason).errorLog = {} ∧ (s.fall reason).violationLog = {} ∧
    (s.fall reason).time.ns112 = 0 ∧ (s.fall reason).pending = s.pending) ∧
  (∀ s : State, exec .vaonReset s = .next (s.settle (s.fall 0x0B0F)) ∧ exec .aonBrownout s = .next (s.settle (s.fall 0x0B0E))) ∧
  (∀ (s : State) (sensor : Nat) (tj : Int), sensor ≤ 28 → 1150 ≤ tj → exec (.thermalTrip sensor tj) s = .next (s.settle
    ((s.fall 0x0B0D).modPower fun x => { x with tripped := true }))) ∧
  (∀ (s : State) (lowNs : Nat) (w : WarmTest), s.ras.cold = none →
    let m := lowNs * (950000 + s.free.1 % 100001) / 1000000
    let s1 := s.free.2.modRas fun x => { x with pinLow := false, refclk := false }
    exec (.sysResetN lowNs w) s = .next (s.settle (if m < 1000 then s1 else if m ≤ 10000000 then s1.requestReset 0x0D05 false w else s1.fall 0x0D04))) ∧
  (∀ s : State, exec .sysResetNFallingEdge s = .next (s.settle (s.modRas fun x => { x with pinLow := true, refclk := x.refclk || s.mode == 1 })))

/-- After a thermal trip no cold start begins until every sensor reads below 95 °C (R525); the start that follows a fall comes up in ATTEND with the fall's reason, or
serves the recovery dictionary where an image has no bank (R557, R562, R563); it waits without a root PLL, and where it is too cold, and goes on when its hold
ends (R603). Completes: COLD_START, COLD_START_THERMAL_HOLD_END, THERMAL_TRIP_RELEASE. -/
def Obligations.ColdStartsFollowAFall : Prop :=
  (∀ (s : State) (t : SelfTest), s.power.tripped = true → exec (.coldStart t) s = .next (s.settle s)) ∧
  (∀ (s : State) (h : Int), s.power.tripped = true →
    (h < 950 → exec (.thermalTripRelease h) s = .next (s.settle (s.modPower fun x => { x with tripped := false }))) ∧
    (950 ≤ h → exec (.thermalTripRelease h) s = .next (s.settle s))) ∧
  (∀ (s : State) (t : SelfTest) (reason : Nat), s.power.tripped = false → s.ras.cold = some reason →
    let s1 := s.modRas fun x => { x with plls := pllStates t.plls, recovery := false }
    ((pllStates t.plls).contains 1 = false → exec (.coldStart t) s = .next (s.settle s1)) ∧
    ((pllStates t.plls).contains 1 = true → t.cold = false → exec (.coldStart t) s = .next (s.settle (s1.bringUp t))) ∧
    ((pllStates t.plls).contains 1 = true → t.cold = true → exec (.coldStart t) s = .next (s.settle (s1.modRas fun x => { x with held := true })))) ∧
  (∀ (s : State) (t : SelfTest),
    let u := s.bringUp t
    u.ras.reason = s.ras.cold.getD 0x0D01 ∧ (u.ras.recovery = true ∨ (u.mode = 4 ∧ u.serving = true ∧ u.ras.recovery = false ∧ u.ras.cold = none))) ∧
  (∀ (s : State) (ms : Nat) (t : SelfTest), s.ras.held = true → t.cold = false →
    let s1 := s.modRas fun x => { x with held := false, holdMs := min ms 60000 }
    let s2 := { s1 with time := { s1.time with secns := s1.time.secns + min ms 60000 * 1000000 * 2 ^ 32 } }
    exec (.coldStartThermalHoldEnd ms t) s = .next (s.settle
      ({ s2 with time := { s2.time with secns := s2.time.secns + 2800000000 * 2 ^ 32 } }.bringUp t))) ∧
  (∀ (s : State) (ms : Nat) (t : SelfTest), s.ras.held = true → t.cold = true →
    let s1 := s.modRas fun x => { x with held := false, holdMs := 60000 }
    let s2 := { s1 with time := { s1.time with secns := s1.time.secns + 60000 * 1000000 * 2 ^ 32 } }
    let up := { s2 with time := { s2.time with secns := s2.time.secns + 2800000000 * 2 ^ 32 } }.bringUp t
    (ms < 60000 → exec (.coldStartThermalHoldEnd ms t) s = .next (s.settle s)) ∧
    (60000 ≤ ms → exec (.coldStartThermalHoldEnd ms t) s = .next (s.settle
      ((List.range 8).foldl (fun s g => s.logError 0x0D0B 0xFF 0 ([byteOf g] ++ be 2 (unsigned 16 t.tj) ++ be 2 (unsigned 16 t.tj))) up))))

/-- A reset that is asked for begins at once, or waits for a brace or a flash program to end and then begins; one that meets a cold start in progress does
not restart it, and a warm one is counted as ignored (R555). Completes: WARM_RESET, COLD_RESET, WARM_RESET_DEFERRED. -/
def Obligations.ResetRequestsBeginOrWait : Prop :=
  (∀ (s : State) (reason : Nat) (cold : Bool) (w : WarmTest), s.ras.cold = none →
    (s.power.braced = false → w.programming = false → s.requestReset reason cold w = if cold then s.fall reason else s.warmStart reason w) ∧
    (s.power.braced = true → s.ras.deferred = none → s.requestReset reason cold w = (s.modRas fun x => { x with deferred := some (reason, cold) }))) ∧
  (∀ (s : State) (reason : Nat) (cold : Bool) (w : WarmTest), s.ras.deferred = some (reason, cold) → s.power.braced = false → (cold = true ∨ w.programming = false) →
    let s1 := s.modRas fun x => { x with deferred := none }
    exec (.warmResetDeferred w) s = .next (s.settle (if cold then s1.fall reason else s1.warmStart reason w))) ∧
  (∀ (s : State) (reason : Nat) (w : WarmTest), s.ras.cold = none → w.programming = true → s.ras.deferred = none →
    s.requestReset reason false w = (s.modRas fun x => { x with deferred := some (reason, false) })) ∧
  (∀ (s : State) (reason : Nat) (w : WarmTest) (c : Nat), s.ras.cold = some c →
    s.requestReset reason true w = s ∧ s.requestReset reason false w = (s.modRas fun x => { x with counts := bump x.counts 5 })) ∧
  (∀ (rq : Request) (s s1 : State) (w : Who) (t : Target) (x : WarmTest), s.admitted rq 2 (fun _ => true) = .go w s1 → s1.writeTarget w rq.frame false = .inr t →
    t.row.per ≠ .saved → ofBE rq.frame.payload = 1 → s1.ras.asked = none →
    let s2 := fun (reason : Nat) (cold : Bool) => (s1.modRas fun y => { y with asked := some (reason, cold) }).ok rq w
    (names rq "WARM_RESET" = true → exec (.warmReset rq x) s =
      .next (s.settle (((s2 0x0D03 false).modRas fun y => { y with asked := none }).requestReset 0x0D03 false x))) ∧
    (names rq "COLD_RESET" = true → exec (.coldReset rq) s =
      .next (s.settle (((s2 0x0D02 true).modRas fun y => { y with asked := none }).requestReset 0x0D02 true {}))))

/-- Spares take over: a control microcontroller's duty passes to the spare and is counted and logged, or a warm start follows where none is left, and the failure of the
spare changes nothing but its state (R568); a root PLL in use passes to a good standby, whose own failure changes nothing but its state, or a cold start
follows (R569); and a lost line of system data is rebuilt, damages the objects it held, or forces a warm start (R570). Completes: MCU_FAILURE, PLL_FAILURE,
STANDBY_PLL_FAILURE, SYSTEM_DATA_UNCORRECTABLE. -/
def Obligations.SparesTakeOver : Prop :=
  (∀ (s : State) (mcu duty k : Nat) (w : WarmTest), 4 ≤ s.mode → s.ras.mcus.getD mcu (3, 7) = (1, duty) →
    let s1 := s.modRas fun y => { y with mcus := y.mcus.set mcu (3, 7) }
    ((s1.ras.mcus.findIdx? fun e => e.1 == 2) = some k → exec (.mcuFailure mcu w) s = .next (s.settle
      (((s1.modRas fun y => { y with mcus := y.mcus.set k (1, duty) }).countRas 2).logError 0x0D0C 0xFF 0 [byteOf mcu, byteOf duty]))) ∧
    ((s1.ras.mcus.findIdx? fun e => e.1 == 2) = none → exec (.mcuFailure mcu w) s = .next (s.settle (s1.requestReset 0x0D07 false w)))) ∧
  (∀ (s : State) (mcu duty : Nat) (w : WarmTest), 4 ≤ s.mode → s.ras.mcus.getD mcu (3, 7) = (2, duty) →
    exec (.mcuFailure mcu w) s = .next (s.settle (s.modRas fun y => { y with mcus := y.mcus.set mcu (3, 7) }))) ∧
  (∀ (s : State) (i : Nat), 4 ≤ s.mode → s.ras.plls.findIdx? (· == 1) = some i → (s.ras.plls.set i 3).getD (1 - i) 3 = 2 →
    let s1 := ((s.modRas fun x => { x with plls := (x.plls.set i 3).set (1 - i) 1 }).countRas 3).clockFault
    exec .pllFailure s = .next (s.settle (({ s1.free.2 with
      time := { s1.time with ns112 := s1.time.ns112 + s1.free.1 % (326 * 2 ^ 32 + 1) - 163 * 2 ^ 32 } }).logError 0x0D0D 0xFF 0 []))) ∧
  (∀ (s : State) (i : Nat), 4 ≤ s.mode → s.ras.plls.findIdx? (· == 1) = some i → (s.ras.plls.set i 3).getD (1 - i) 3 ≠ 2 →
    exec .pllFailure s = .next (s.settle ((s.modRas fun x => { x with plls := x.plls.set i 3 }).fall 0x0D08))) ∧
  (∀ s : State, 4 ≤ s.mode → exec .standbyPllFailure s = .next (s.settle (s.modRas fun x => { x with plls := x.plls.map fun k => if k = 2 then 3 else k }))) ∧
  (∀ (s : State) (addr : Nat) (handles : List Nat) (w : WarmTest), 4 ≤ s.mode →
    exec (.systemDataUncorrectable 0 addr handles w) s = .next (s.settle (((s.modTiers fun t =>
      { t with windowOpen := false, flash := { t.flash with map := t.flash.saved } }).countRas 4).logError 0x0D0F 0xFF 0 ([0] ++ be 8 addr))) ∧
    exec (.systemDataUncorrectable 1 addr handles w) s = .next (s.settle ((s.countRas 4).logError 0x0D0F 0xFF 0 ([1] ++ be 8 addr))) ∧
    exec (.systemDataUncorrectable 2 addr handles w) s = .next (s.settle
      (handles.foldl (fun s h => match s.objOf h with
        | some o => s.damage o 0x0207
        | none => s) s)) ∧
    exec (.systemDataUncorrectable 3 addr handles w) s = .next (s.settle (s.requestReset 0x0D06 false w)))

/-! ### Slots, tiers, objects and tenants -/

/-- An ACTIVE slot that fails is retired with its reason, an uncorrectable error logged first, and belongs to no partition; where there is a replacement it joins the
partition and is made ready for the logical core (R112, R113). A slot in any other state is left as it was. A corrected error found by the patrol is counted and
logged, and a line without one changes nothing (R99); and a replacement in service takes the logical core's place in the map, with what was held for it (R114,
R284). Completes: SRAM_UNCORRECTABLE, LOGIC_SELF_CHECK_MISMATCH, UNIT_TIMEOUT, CORE_REPLACEMENT_DONE, SCRATCHPAD_PATROL. -/
def Obligations.FailedSlotsAreRetiredAndReplaced : Prop :=
  (∀ (slot reason : Nat) (s : State), (s.slot slot).state ≠ 1 → s.retireSlot slot reason = s) ∧
  (∀ (slot reason : Nat) (s : State), slot < s.slots.length → (s.slot slot).state = 1 → (s.slot slot).part = 0xFF → s.replacementOf slot false = none →
    ((s.retireSlot slot reason).slot slot).state = 3 ∧ ((s.retireSlot slot reason).slot slot).reason = reason ∧ ((s.retireSlot slot reason).slot slot).part = 0xFF ∧
    (s.retireSlot slot reason).ras.counts = bump s.ras.counts 0 ∧ (s.retireSlot slot reason).objects = s.objects) ∧
  (∀ (slot reason k : Nat) (s : State), slot < s.slots.length → (s.slot slot).state = 1 → (s.slot slot).part < 8 →
    (s.replacing.find? fun r => r.slot == slot) = none → s.replacementOf slot true = some k →
    let u := s.retireSlot slot reason
    (u.slot slot).state = 3 ∧ (u.slot slot).reason = reason ∧ (u.slot slot).part = 0xFF ∧ (u.slot k).state = 1 ∧ (u.slot k).part = (s.slot slot).part ∧
    ∃ r ∈ u.replacing, r.part = (s.slot slot).part ∧ r.logical = (s.slot slot).logical ∧ r.retired = slot ∧ r.slot = k) ∧
  (∀ (slot : Nat) (acc : Bool) (bank line : Nat) (s : State), (s.slot slot).state = 1 → exec (.sramUncorrectable slot acc bank line) s = .next (s.settle
    ((s.logError (if acc then 0x010A else 0x0109) 0xFF 0 ([byteOf slot, byteOf bank] ++ be 2 line)).retireSlot slot (if acc then 3 else 2)))) ∧
  (∀ (slot : Nat) (s : State), exec (.logicSelfCheckMismatch slot) s = .next (s.settle (s.retireSlot slot 4)) ∧
    exec (.unitTimeout slot) s = .next (s.settle (s.retireSlot slot 5))) ∧
  (∀ (slot bank line bit : Nat) (s : State), slot < s.slots.length → s.powered slot = true → ∃ u, exec (.scratchpadPatrol slot bank line (some bit)) s = .next u ∧
    (u.slot slot).ceCount = (s.slot slot).ceCount + 1 ∧ (u.slot slot).spad = (s.slot slot).spad ∧
    u.errorLog = s.errorLog.add 1024 (s.record 0x010B 0xFF 0 ([byteOf slot, byteOf bank] ++ be 2 line ++ [byteOf bit]))) ∧
  (∀ (slot bank line : Nat) (s : State), exec (.scratchpadPatrol slot bank line none) s = .next (s.settle s)) ∧
  (∀ (p logical : Nat) (s : State) (r : Replacement), (s.replacing.find? fun r => r.part == p && r.logical == logical) = some r → (s.slot r.slot).state = 1 →
    let held := s.slot r.retired
    let s0 := { s with replacing := s.replacing.erase r }
    let s1 := (s0.modSlot r.slot fun x =>
      { x.scrub with part := p, logical := logical, spad := held.spad, acc := held.acc, stream := held.stream, tokens := held.tokens }).modSlot r.retired Slot.scrub
    let s2 := (s1.modPart p fun x => { x with map := x.map.set logical (some r.slot), mapGen := x.mapGen + 1 }).mapChanged.traceSlot r.slot
    let s3 := s2.modPart p fun x => { x with running := x.running.map (Running.redirect r.retired r.slot) }
    let records := decide (2 ≤ s3.cores p) && (s3.openSlots p).any fun id => (s3.streamSlot id).home == logical && (s3.streamSlot id).buddyValid
    exec (.coreReplacementDone p logical) s = .next (s.settle (((s3.recoveryCopy (1 + b01 records)).recoverSlots p logical r.written).settleMoves p)))

/-- The cache, the refresh of the DRAM and the flash window: deferred ways change once nothing is in flight, and the lines in the ways that go leave the cache (R295); a
slice that fails is retired, and served by the spare where that is free (R299, R300); the refresh period follows the hottest sensor, with its hysteresis, and a
refresh or retraining turn that an access waits for is a stall of its partition (R305); and the window opens at a whole second with the work that the
translation layer does in it, closes FLASH_WINDOW_MS later, and never where that is the whole second (R312). Completes: WAY_REMOVAL_DEFERRED, SLICE_FAILURE,
DRAM_REFRESH, DRAM_RETRAIN, REFRESH_PERIOD_SELECT, FLASH_WINDOW_OPEN, FLASH_WINDOW_CLOSE. -/
def Obligations.CacheRefreshAndWindowFollowTheirRules : Prop :=
  (∀ (p : Nat) (s : State), s.anyFlight p = false →
    exec (.wayRemovalDeferred p) s = .next (s.settle (s.settleWays p)) ∧ (s.settleWays p).tiers.ways = s.tiers.ways.set p (s.area p 0x60 1) ∧
    (∀ l ∈ (s.settleWays p).tiers.lines, l ∈ s.tiers.lines ∧ (l.part = p → (s.area p 0x60 1).testBit l.way = true)) ∧
    s.settleWays p = { s with tiers := (s.settleWays p).tiers }) ∧
  (∀ (p : Nat) (s : State), s.anyFlight p = true → exec (.wayRemovalDeferred p) s = .next (s.settle s)) ∧
  (∀ (slice : Nat) (s : State), slice < 16 → s.tiers.slices.length = 17 → s.tiers.slices.getD slice 3 % 8 = 1 → s.tiers.slices.getD 16 3 % 8 = 2 →
    ∃ u, exec (.sliceFailure slice []) s = .next u ∧ u.tiers.slices.getD slice 0 = 3 + 8 * 31 ∧
      u.tiers.slices.getD 16 0 = 1 + 8 * (s.tiers.slices.getD slice 3 / 8) ∧ u.ras.counts = bump s.ras.counts 1 ∧ u.objects = s.objects) ∧
  (∀ (slice : Nat) (s : State), slice < 16 → s.tiers.slices.length = 17 → s.tiers.slices.getD slice 3 % 8 = 1 → s.tiers.slices.getD 16 3 % 8 ≠ 2 →
    ∃ u, exec (.sliceFailure slice []) s = .next u ∧ u.tiers.slices = s.tiers.slices.set slice (3 + 8 * 31) ∧ u.ras.counts = bump s.ras.counts 1 ∧
      u.objects = s.objects) ∧
  (∀ (p : Nat) (s : State), exec (.dramRefresh (some p)) s = .next (s.settle (s.stallSome p 6)) ∧ exec (.dramRetrain (some p)) s = .next (s.settle (s.stallSome p 6)) ∧
    exec (.dramRefresh none) s = .next (s.settle s) ∧ exec (.dramRetrain none) s = .next (s.settle s)) ∧
  (∀ (h : Int) (s : State), ∃ u, exec (.refreshPeriodSelect h) s = .next u ∧
    u.tiers = { s.tiers with hot := if 850 < h then true else if h ≤ 800 then false else s.tiers.hot } ∧ u.objects = s.objects ∧ u.mode = s.mode) ∧
  (∀ (second : Nat) (reads : List (Nat × Nat)) (bad : List Nat) (s : State),
    let s1 := s.reach (max second ((s.nowNs + 1000000000 - 1) / 1000000000) * 1000000000 * 2 ^ 32)
    let u := ((s1.modTiers fun t => { t with windowOpen := true, windowAtNs := s1.nowNs }).countReads reads).maintain bad
    exec (.flashWindowOpen second reads bad) s = .next (s.settle u) ∧ u.tiers.windowOpen = true ∧ u.tiers.slices = s.tiers.slices ∧ u.objects = s.objects ∧
    u.tiers.flash.saved = u.tiers.flash.map ∧ u.tiers.flash.rewrite = [] ∧ (∀ b ∈ bad, b ∈ u.tiers.badBlocks)) ∧
  (∀ s : State, 1000 ≤ s.cfg 0x2100 4 → exec .flashWindowClose s = .next (s.settle s)) ∧
  (∀ s : State, s.tiers.windowOpen = true → s.cfg 0x2100 4 < 1000 → exec .flashWindowClose s = .next (s.settle
    ((s.reach ((s.tiers.windowAtNs + 1000000 * s.cfg 0x2100 4) * 2 ^ 32)).modTiers fun t => { t with windowOpen := false })))

/-- A memory error is counted and reaches what it touched: a corrected one its group, lane and row (R307); an uncorrectable line of a SEALED object is read again from
flash, and that of any other damages the object and fails the stroke whose access it was (R308); the reread ends the wait; a lost channel leaves its group FAILED
(R572); and a page that the flash retries or rebuilds is counted, and one that it cannot give back fails the claims on its object, which is DAMAGED (R315).
Completes: DRAM_CORRECTED_ERROR, DRAM_PATROL_SCRUB, DRAM_UNCORRECTABLE, DRAM_REFETCH_DONE, DRAM_CHANNEL_LOST, FLASH_READ_RETRY. -/
def Obligations.MemoryErrorsAreCountedAndHandled : Prop :=
  (∀ (g lane row : Nat) (s : State), g < 8 → lane < 80 → exec (.dramCorrectedError g lane row) s = .next (s.settle (s.dramCorrected g lane row)) ∧
    (g < s.tiers.groups.length → ((s.dramCorrected g lane row).tiers.groups.getD g {}).corrected = (s.tiers.groups.getD g {}).corrected + 1) ∧
    (s.dramCorrected g lane row).objects = s.objects) ∧
  (∀ (g lines : Nat) (s : State), g < s.tiers.groups.length → ∃ u, exec (.dramPatrolScrub g lines []) s = .next u ∧
    (u.tiers.groups.getD g {}).patrol.head? = some (s.nowNs, lines) ∧ u.objects = s.objects ∧ u.errorLog = s.errorLog) ∧
  (∀ (g handle p c core stroke : Nat) (s : State) (o : Obj), s.objOf handle = some o → o.kind = 1 → (o.state = 3 ∨ o.state = 5 ∨ o.state = 6) → o.digest ≠ [] →
    let s1 := (s.modGroup g fun x => { x with uncorrectable := x.uncorrectable + 1 }).logError 0x0209 0xFF 0 []
    exec (.dramUncorrectable g handle p c core stroke) s = .next (s.settle ((s1.stall p 5 core).modTiers fun t => { t with refetch := t.refetch ++ [(p, o.handle)] }))) ∧
  (∀ (g handle p c core stroke : Nat) (s : State) (o : Obj), s.objOf handle = some o → o.kind ≠ 1 →
    let s1 := ((s.modGroup g fun x => { x with uncorrectable := x.uncorrectable + 1 }).logError 0x0209 0xFF 0 []).damage o 0x0209
    (s1.runningAt p c core stroke = none → exec (.dramUncorrectable g handle p c core stroke) s = .next (s.settle s1)) ∧
    (∀ r, s1.runningAt p c core stroke = some r → exec (.dramUncorrectable g handle p c core stroke) s = .next (s.settle
      (((s1.modPart p fun x => { x with running := x.running.erase r }).tearAll r.writes).stopFlight p c 0x0209 core stroke)))) ∧
  (∀ (p handle : Nat) (s : State), exec (.dramRefetchDone p handle) s = .next (s.settle (s.modTiers fun t => { t with refetch := t.refetch.erase (p, handle) }))) ∧
  (∀ (g : Nat) (s : State), g < s.tiers.groups.length → ∃ u, exec (.dramChannelLost g) s = .next u ∧ (u.tiers.groups.getD g {}).state = 3 ∧
    u = s.settle { s with tiers := u.tiers }) ∧
  (∀ (p handle die block page : Nat) (s : State), exec (.flashReadRetry p handle 0 die block page) s = .next (s.settle (s.stallSome p 3)) ∧
    exec (.flashReadRetry p handle 1 die block page) s = .next (s.settle
      (((((s.stallSome p 3).stallSome p 4).modTiers fun t => { t with rebuilt := t.rebuilt + 1 }).rebuildPage ((die * 8192 + block) * 1024 + page)).logError
        0x020E 0xFF 0 ([byteOf die] ++ be 2 block ++ be 2 page))) ∧
    ∀ o, (((s.stallSome p 3).stallSome p 4).logError 0x020F 0xFF 0 []).objOf handle = some o → exec (.flashReadRetry p handle 2 die block page) s = .next (s.settle
      ((((((s.stallSome p 3).stallSome p 4).logError 0x020F 0xFF 0 []).failWaiters o 0x020F).failClaims o 0x020F).damage o 0x020F)))

/-- An object's life: a seal whose programs complete in a maintenance window leaves it READY with its owner's claim, PUBLIC only where its publisher's signature
verifies (R312, R320); a claim completes for its holder with its copy in DRAM, or, where a chunk read from flash fails the digest, fails with the object DAMAGED
(R319, R323), and the next promotion and the loads that waited go on (R36, R420); a RETAINED object whose key and digest agree is taken
back, and any other fails (R329). A deleted object that no other partition claims and no submission names is gone with its deletion; one that others claim
stays for them without its owner's claim, and one that a submission names stays (R324). Completes: SEAL_COMPLETE, CLAIM_COMPLETE, DEFERRED_DELETE,
READOPT_OBJECT. -/
def Obligations.ObjectsAreSealedClaimedAndDeleted : Prop :=
  (∀ (handle : Nat) (s : State) (o : Obj), s.objOf handle = some o → o.state = 2 →
    let good : Bool := !o.pub || (match keyIn (s.obj 0 (0x3052 + 0x100 * o.owner) 3) o.keyId with
      | some k => Config.verifies k o.digest o.sig
      | none => false)
    (s.tiers.windowOpen = true → exec (.sealComplete handle) s = .next (s.settle
      (((s.programObject o).modObj o.owner o.index fun x =>
        { x with state := 3, residence := 2, pub := o.pub && good, claims := [{ part := o.owner, level := 1, done := true }] }).objectEvent
          o.owner handle 2 0 (if good then 0 else 0x0211)))) ∧
    (s.tiers.windowOpen = false → exec (.sealComplete handle) s = .next (s.settle s))) ∧
  (∀ (p handle : Nat) (s : State), (s.objOf handle = none → exec (.claimComplete p handle) s = .next (s.settle s.settlePromotion)) ∧
    ∀ o, s.objOf handle = some o →
      exec (.claimComplete p handle) s = .next (s.settle (((s.completeClaim p o).settlePromotion).reloadPart p)) ∧
      ∀ cl, o.claim? p = some cl → cl.done = false → (o.state = 3 ∨ o.state = 6) →
        (o.kind = 1 → o.residence ≠ 2 → chunkTree o ≠ o.digest → s.completeClaim p o = (s.failClaims o 0x0207).damage o 0x0207) ∧
        (o.kind ≠ 1 ∨ o.residence = 2 ∨ chunkTree o = o.digest →
          let s1 := ((s.promoteCopy p cl.level o).modObj o.owner o.index fun x =>
            { x with residence := 2, claims := x.claims.map fun y => if y.part = p then { y with done := true } else y }).objectEvent p o.handle 3 cl.level 0
          s.completeClaim p o = if cl.release then s1.dropClaim p o else s1)) ∧
  (∀ (handle : Nat) (s : State) (o : Obj), s.objOf handle = some o → exec (.deferredDelete handle) s = .next (s.settle (s.finishDelete o.owner o.index))) ∧
  (∀ (handle : Nat) (s : State) (o : Obj), s.objOf handle = some o → s.readoptTurn o = true → o.keyCheck = s.keys.getD o.owner none → o.digest = o.digestNow →
    exec (.readoptObject handle true) s = .next (s.settle
      ((s.modObj o.owner o.index Obj.readopt).objectEvent o.owner handle 7 0 0).fillPinned) ∧
    exec (.readoptObject handle false) s = .next (s.settle (s.readoptFails o))) ∧
  (∀ (handle : Nat) (digestMatches : Bool) (s : State) (o : Obj), s.objOf handle = some o → s.readoptTurn o = true →
    o.keyCheck ≠ s.keys.getD o.owner none ∨ o.digest ≠ o.digestNow → exec (.readoptObject handle digestMatches) s = .next (s.settle (s.readoptFails o))) ∧
  (∀ (owner index : Nat) (s : State) (o : Obj), s.objAt owner index = some o →
    (o.deleting = true → (∀ c ∈ o.claims, c.part = owner) → s.inFlight o.handle = false → s.finishDelete owner index = s.vanish o) ∧
    (o.deleting = true → ¬(∀ c ∈ o.claims, c.part = owner) → s.inFlight o.handle = false →
      s.finishDelete owner index = s.modObj owner index fun x => { x with claims := x.claims.filter fun c => c.part != owner }) ∧
    (o.deleting = false ∨ s.inFlight o.handle = true → s.finishDelete owner index = s))

/-- A reset partition comes back to its earlier state once its scrub is complete, and a scrubbed tenant's partition is then counted and logged as done. A nonce arms
one report of its sender's, which takes it and is signed (R542, R543); and the management anchors are written by MANAGEMENT, or, while there are none, from the PCIe
physical function (R541). Completes: PARTITION_RESET_DONE, TENANT_SCRUB_DONE, ATTEST_NONCE, ATTEST_REPORT, MGMT_TRUST. -/
def Obligations.TenantsAreResetScrubbedAndAttested : Prop :=
  (∀ (p : Nat) (s : State), (s.part p).state = 4 → exec (.partitionResetDone p) s = .next (s.settle (s.endReset p))) ∧
  (∀ (p : Nat) (s : State), (s.part p).state ≠ 4 → exec (.partitionResetDone p) s = .next (s.settle s)) ∧
  (∀ (p origin : Nat) (s : State), s.sec.scrubbing.getD p none = some origin → exec (.tenantScrubDone p) s = .next (s.settle
    (((s.modSec fun x => { x with scrubbing := x.scrubbing.set p none }).countSec 3).logError 0x0C05 0xFF 0 ([byteOf p] ++ be 4 (s.epoch p) ++ [byteOf origin])))) ∧
  (∀ (rq : Request) (s s1 : State) (w : Who) (t : Target), (names rq "ATTEST_NONCE" = true ∨ names rq "ATTEST_NONCE_DEVICE" = true) →
    s.admitted rq 2 (fun _ => true) = .go w s1 → s1.writeTarget w rq.frame false = .inr t → t.row.per ≠ .saved →
    ∃ u, exec (.attestNonce rq) s = .next u ∧ u.sec.nonces.head? = some (w.owner, attestPart t, rq.frame.payload)) ∧
  (∀ (rq : Request) (s s1 : State) (w : Who) (t : Target) (e : Owner × Nat × Bytes), (names rq "ATTEST_REPORT" = true ∨ names rq "ATTEST_REPORT_DEVICE" = true) →
    s.admitted rq 3 (fun b => b.length == 4) = .go w s1 → s1.resolve w rq.frame.index rq.frame.sub = .inr t →
    (s1.sec.nonces.find? fun e => e.1 == w.owner && e.2.1 == attestPart t) = some e → s1.blockBusy w.owner false t = 0 →
    let s2 := (s1.modSec fun x => { x with nonces := x.nonces.erase e }).countSec 4
    exec (.attestReport rq) s = .next (s.settle ((s2.report (attestPart t) e.2.2).2.startRead rq w t (s2.report (attestPart t) e.2.2).1))) ∧
  (∀ (p : Nat) (nonce : Bytes) (s : State), let r := s.report p nonce
    ∃ sig : Bytes, sig.length = 96 ∧ r.1 = s.reportHead nonce p ++ (if p = 0xFF then List.replicate 287 0 else s.reportTail p) ++ sig ∧
      r.2 = { s with freeCount := r.2.freeCount }) ∧
  (∀ (rq : Request) (s s1 s2 : State) (w : Who) (t : Target), names rq "MGMT_TRUST" = true → s.admitted rq 4 (fun _ => true) true = .go w s1 →
    s1.writeTarget (if w.owner = .fn 0 ∧ s1.obj 0 0x1B10 1 = [] then { w with management := true } else w) rq.frame true = .inr t →
    checkMgmtTrust w t rq.frame.payload s1 = (0, s2) → exec (.mgmtTrust rq) s = .next (s.settle (s2.queueSave rq w t)))

/-! ### Peer links -/

/-- A legal frame that arrives in order on a port that is up, for this member, is acknowledged in the next slot and taken by the row of its operation; a frame for another
member goes on towards it (R344, R349). One that came before is counted and acknowledged again, one beyond a gap is discarded, and so is one without payload while
the gap stands (R344). An illegal one, or one out of order with no gap, is a violation: logged, counted, and the port retrains (R348). -/
def Obligations.PeerFramesAreDeliveredInOrder : Prop :=
  ∀ (k : Nat) (f : PeerFrame) (ops : List Nat) (deliver : PeerFrame → State → State) (s : State), (s.port k).up = true → ops.contains f.op = true →
    let s1 := s.countPort k 1
    let behind := (f.linkSeq + 65536 - ((s1.port k).rxSeq + 1) % 65536) % 65536
    (s.peer.frameOk ops f = true →
      (f.lines ≠ 0 → behind = 0 →
        let s2 := (s1.modPort k fun x => { x with rxSeq := f.linkSeq, gap := false }).takeHeader k f
        s.arrive k f ops deliver = (if f.dst = s2.peer.index then deliver f s2 else s2.toMember f.dst f).emitIdle k) ∧
      (f.lines ≠ 0 → 32768 ≤ behind → s.arrive k f ops deliver = (s1.countPort k 3).emitIdle k) ∧
      (f.lines ≠ 0 → behind ≠ 0 → behind < 32768 → (s1.port k).gap = true → s.arrive k f ops deliver = s1) ∧
      (f.lines ≠ 0 → behind ≠ 0 → behind < 32768 → (s1.port k).gap = false → s.arrive k f ops deliver = s1.peerViolation k f) ∧
      (f.lines = 0 → (s1.port k).gap = true → s.arrive k f ops deliver = s1) ∧
      (f.lines = 0 → (s1.port k).gap = false →
        let s2 := s1.takeHeader k f
        s.arrive k f ops deliver = if f.dst = s2.peer.index then deliver f s2 else s2.toMember f.dst f)) ∧
    (s.peer.frameOk ops f = false → s.arrive k f ops deliver = s1.peerViolation k f) ∧
    (k < s.peer.ports.length → ((s.peerViolation k f).port k).state = 6 ∧ (s.peerViolation k f).objects = s.objects ∧ (s.peerViolation k f).slots = s.slots ∧
      (s.peerViolation k f).violationLog = s.violationLog.add 1024 (s.record 0x0308 0xFF (0x30 + k) (byteOf k :: (peerHeader f).take 8)))

/-- Each row of a peer-link frame hands the frame to its own taking, in the order of the link (R344); nothing is taken on a port that is down. A SEND frame that its
destination takes stands in the core's share at its line, and no other core's memory and no object changes; the last one raises its token and is answered (R352). Completes: PEER_DATA_FRAME,
PEER_REDUCE_CHAIN_FRAME, PEER_REDUCE_OUT_FRAME, PEER_ACK_E2E, PEER_ABORT, PEER_PATH_DOWN, PEER_RESERVE. -/
def Obligations.PeerRowsTakeTheirFrames : Prop :=
  (∀ (k code : Nat) (f : PeerFrame) (s : State),
    exec (.peerDataFrame k f) s = .next (s.settle (s.arrive k f [1] fun f s => s.takeSend f)) ∧
    exec (.peerReduceChainFrame k f) s = .next (s.settle (s.arrive k f [2] fun f s => s.takeReduce f)) ∧
    exec (.peerReduceOutFrame k f) s = .next (s.settle (s.arrive k f [3] fun f s => s.takeReduce f)) ∧
    exec (.peerAckE2e k f) s = .next (s.settle (s.arrive k f [4] fun f s => s.takeAckE2e f)) ∧
    exec (.peerAbort k f) s = .next (s.settle (s.arrive k f [5] fun f s => s.takeAbort f)) ∧
    exec (.peerPathDown k f) s = .next (s.settle (s.arrive k f [6] fun f s =>
      let h := (f.detail / 256 % 16, f.detail % 4)
      if s.peer.down.contains h then s else s.modPeer fun q => { q with down := q.down ++ [h] })) ∧
    exec (.peerReserve k f code) s = .next (s.settle (s.arrive k f [7] fun f s =>
      match s.peer.pairs.find? fun e => e.1 == f.pair && e.2.2.2.testBit f.src with
      | none => s
      | some (_, p, c, _) => (s.modPeer fun x => { x with outcomes := x.outcomes ++ [(f.pair, f.src, code)] }).resolvePair p c))) ∧
  (∀ (k code : Nat) (f : PeerFrame) (s : State), (s.port k).up = false →
    ∀ c ∈ [Instr.peerDataFrame k f, .peerReduceChainFrame k f, .peerReduceOutFrame k f, .peerAckE2e k f, .peerAbort k f, .peerPathDown k f, .peerReserve k f code,
      .peerEmptyFrame k f], exec c s = .next (s.settle s)) ∧
  (∀ (f : PeerFrame) (s : State) (p c mask n : Nat), s.peer.late f = false → kvGet s.peer.refused (f.pair * 16 + f.src) ≠ some f.xferSeq →
    (s.peer.pairs.find? fun e => e.1 == f.pair) = some (f.pair, p, c, mask) → mask.testBit f.src = true → f.dstCore < s.cores p →
    s.slotOf p f.dstCore = some n → n < s.slots.length → f.dstLine + f.lines ≤ s.ctxCfg p c 0 4 →
    let t := s.takeSend { f with last := false }
    (t.slot n).spad = memWrite (s.slot n).spad ((s.ctxCfg p c 0 3 + f.dstLine) * 64) (slice f.payload 0 (64 * f.lines)) ∧
    (∀ m, m ≠ n → (t.slot m).spad = (s.slot m).spad) ∧ t.objects = s.objects ∧
    (f.last = false → s.takeSend f = t) ∧
    (f.last = true → s.takeSend f = (if f.signalEn then t.addToken p n c f.token none else t).ackTransfer f 0))

/-- The link layer of a port: an empty frame and a NAK free the replay buffer, and a NAK resends; the first bad frame of a gap is answered with one NAK (R344); a spent retry
budget retrains the port (R345); a failed lane is replaced by the spare, or retrains the port or, with too few lanes left, fails it (R346); training that ends brings
the port up with the partner the constellation names, or leaves it down, and a retrain that fails fails it (R347); and a collective whose timer runs out fails, or is
extended once while a port recovers (R355). Completes: PEER_EMPTY_FRAME, PEER_NAK, RETRY_BUDGET_SPENT, PEER_FRAME_CRC_ERROR, PEER_LANE_FAIL,
PORT_TRAINING_DONE, PEER_IDENTIFY, PEER_PORT_FAILED, COLL_TIMEOUT. -/
def Obligations.PortsRetryTrainAndFail : Prop :=
  (∀ (k : Nat) (f : PeerFrame) (s : State), (s.port k).up = true → f.lines = 0 ∨ 16 < f.lines →
    let s1 := s.countPort k 1
    let ok := s.peer.frameOk [1, 2, 3, 4, 5, 6, 7, 8] f
    (ok = true → (s1.port k).gap = false → exec (.peerEmptyFrame k f) s = .next (s.settle
      (if f.nak then (s1.takeAck k f.ackSeq).resend k else s1.takeAck k f.ackSeq))) ∧
    (ok = true → (s1.port k).gap = true → exec (.peerEmptyFrame k f) s = .next (s.settle s1)) ∧
    (ok = false → exec (.peerEmptyFrame k f) s = .next (s.settle (s1.peerViolation k f)))) ∧
  (∀ (k ack : Nat) (s : State), (s.port k).up = true → exec (.peerNak k ack) s = .next (s.settle ((s.takeAck k ack).resend k)) ∧
    exec (.retryBudgetSpent k) s = .next (s.settle (s.retrain k))) ∧
  (∀ (k : Nat) (s : State), (s.port k).up = true →
    (((s.countPort k 2).port k).gap = true → exec (.peerFrameCrcError k) s = .next (s.settle (s.countPort k 2))) ∧
    (((s.countPort k 2).port k).gap = false → exec (.peerFrameCrcError k) s = .next (s.settle
      (((s.countPort k 2).modPort k fun x => { x with gap := true, nak := true }).emitIdle k)))) ∧
  (∀ (k lane : Nat) (s : State), (s.port k).up = true → (s.port k).laneStates.getD lane 60 % 8 = 1 → (s.port k).laneStates.getD 4 60 % 8 ≠ 2 →
    let good := ((s.port k).laneStates.filter fun v => v % 8 == 1).length - 1
    let s1 := (s.modPort k fun x => { x with laneStates := x.laneStates.set lane (laneCode 3 7) }).modPort k fun x => { x with lanes := good }
    exec (.peerLaneFail k lane) s = .next (s.settle (if 3 ≤ good then s1.retrain k else s1.portFailed k))) ∧
  (∀ (k lane : Nat) (s : State), (s.port k).up = true → (s.port k).laneStates.getD lane 60 % 8 = 1 → (s.port k).laneStates.getD 4 60 % 8 = 2 →
    let s1 := s.modPort k fun x => { x with laneStates := (x.laneStates.set lane (laneCode 3 7)).set 4 (laneCode 1 ((s.port k).laneStates.getD lane 60 / 8)) }
    exec (.peerLaneFail k lane) s = .next (s.settle (((s1.countPort k 5).logError 0x0307 0xFF (0x30 + k) [byteOf k, byteOf lane]).resend k))) ∧
  (∀ (k : Nat) (s : State), ((s.port k).state = 2 → exec (.portTrainingDone k false) s = .next (s.settle (s.modPort k fun x => { x with state := 1 }))) ∧
    ((s.port k).state = 6 → exec (.portTrainingDone k false) s = .next (s.settle (s.portFailed k))) ∧
    ((s.port k).state = 2 ∨ (s.port k).state = 6 → exec (.portTrainingDone k true) s = .next (s.settle
      (s.emitFrame k (s.control 8 (s.peer.neighbour s.peer.index k) 0 0 0))))) ∧
  (∀ (k id topology member node port : Nat) (s : State), (s.port k).state = 2 ∨ (s.port k).state = 6 →
    (id = s.peer.id ∧ topology = s.peer.topology ∧ member = s.peer.neighbour s.peer.index k →
      let s1 := s.modPort k fun x => { x with state := (if x.faultUpTo.isSome then 4 else 3), partnerNode := node, partnerPort := port, gap := false }
      exec (.peerIdentify k id topology member node port) s = .next (s.settle (((s1.port k).replay.foldl (fun s f => s.emitFrame k f) s1).flushHeld k))) ∧
    (¬(id = s.peer.id ∧ topology = s.peer.topology ∧ member = s.peer.neighbour s.peer.index k) →
      exec (.peerIdentify k id topology member node port) s = .next (s.settle
        ((s.modPort k fun x => { x with state := 1 }).logError 0x0309 0xFF (0x30 + k) (byteOf k :: be 4 node))))) ∧
  (∀ (k : Nat) (s : State), exec (.peerPortFailed k) s = .next (s.settle (s.portFailed k))) ∧
  (∀ (p c core stroke : Nat) (s : State) (x : Coll), (s.peer.colls.find? fun x => x.p == p && x.c == c && x.core == core && x.stroke == stroke) = some x →
    let busy := (s.portsOf x).any fun k => (s.port k).state == 4 || (s.port k).state == 5 || (s.port k).state == 6
    (busy = true → x.extended = false → exec (.collTimeout p c core stroke) s =
      .next (s.settle (((s.modColl x fun x => { x with extended := true }).2).countPeer p 6))) ∧
    (busy = false ∨ x.extended = true → exec (.collTimeout p c core stroke) s = .next (s.settle (s.failColl x 0x0302 1 true))))

/-- A flit that the mesh cannot correct, and a router that disagrees with its copy, are counted and logged (R334), and the stroke whose transfer was lost is stopped with
MESH_ERROR on its submission, no longer running: it, the PREFETCH whose block was lost, or the step whose buddy copies were (assumption 66). A router
mismatch stops every stroke whose transfer it touched the same way. Completes: MESH_FLIT_UNCORRECTABLE, MESH_ROUTER_MISMATCH. -/
def Obligations.MeshErrorsStopTheTransfer : Prop :=
  (∀ (router port p c core stroke : Nat) (s : State),
    let s1 := (s.modPeer fun q => { q with meshErrors := bump q.meshErrors 1 }).logError 0x0301 0xFF 0 [byteOf router, byteOf port]
    (s1.runningAt p c core stroke = none → s1.prefetches p c core stroke = true → exec (.meshFlitUncorrectable router port p c core stroke) s =
      .next (s.settle ((s1.dropPrefetch p c core stroke).stopFlight p c 0x0301 core stroke))) ∧
    (s1.runningAt p c core stroke = none → s1.prefetches p c core stroke = false → stroke = 0xFFFFFFFF → s1.leaving p c core ≠ [] →
      exec (.meshFlitUncorrectable router port p c core stroke) s = .next (s.settle
        (((s1.leaving p c core).foldl (fun s id => s.modStream id fun x => { x with buddyValid := false }) s1).stopFlight p c 0x0301 core stroke))) ∧
    (s1.runningAt p c core stroke = none → s1.prefetches p c core stroke = false → stroke ≠ 0xFFFFFFFF ∨ s1.leaving p c core = [] →
      exec (.meshFlitUncorrectable router port p c core stroke) s = .next (s.settle s1)) ∧
    (∀ r, s1.runningAt p c core stroke = some r → exec (.meshFlitUncorrectable router port p c core stroke) s = .next (s.settle
      ((((s1.modPart p fun x => { x with running := x.running.erase r }).tearAll r.writes).modPeer fun q =>
        { q with colls := q.colls.filter fun x => !(x.p == p && x.c == c && x.core == core && x.stroke == stroke) }).stopFlight p c 0x0301 core stroke)))) ∧
  (∀ (router port : Nat) (s : State), 4 ≤ s.mode →
    let s1 := fun (n : Nat) => (s.modPeer fun q => { q with meshErrors := bumpBy q.meshErrors 1 n }).logError 0x0301 0xFF 0 [byteOf router, byteOf port]
    exec (.meshRouterMismatch router port []) s = .next (s.settle (s1 0)) ∧
    ∀ (p c core stroke : Nat) (r : Running), (s1 1).runningAt p c core stroke = some r →
      exec (.meshRouterMismatch router port [(p, c, core, stroke)]) s = .next (s.settle
        (((((s1 1).modPart p fun x => { x with running := x.running.erase r }).tearAll r.writes).modPeer fun q =>
          { q with colls := q.colls.filter fun x => !(x.p == p && x.c == c && x.core == core && x.stroke == stroke) }).stopFlight p c 0x0301 core stroke)))

/-! ### The part as a Gong client -/

/-- As an Onnum client the part contacts the server, opens a session and asks: each response to a request of its own takes it a step further or ends what waits with a
code (R35, R41), and an answering request moves its value in segments, ends with its final response or a refusal, and waits for a new session where its own has closed
(R71); a request with no response is sent again up to twice; after 50 ms it ends as ANSWER_UNREACHABLE (R70); and the server's answer tokens are relayed once and
answered each time under the session's tag (R63, R76). Completes: ONNUM_CLIENT_RESPONSE, CLIENT_RETRY_TIMER, PEER_UNREACHABLE_TIMEOUT, ANSWER_TOKENS_RELAY. -/
def Obligations.GongClientAsksTriesAgainAndRelays : Prop :=
  (∀ (id status : Nat) (b : Bytes) (s : State) (r : ClientReq), (s.svc.clients.find? fun e => e.id == id) = some r → 4 ≤ s.mode →
    let s1 := s.modSvc fun x => { x with clients := x.clients.filter fun e => e.id != id }
    (r.purpose = .readNode → (status ≠ 0 ∨ ofBE b ≠ s.cfg 0x1310 5) → exec (.onnumClientResponse id status b) s = .next (s.settle (s1.failWaiting 0x0010))) ∧
    (r.purpose = .readNode → status = 0 → ofBE b = s.cfg 0x1310 5 →
      exec (.onnumClientResponse id status b) s = .next (s.settle (s1.modCascade fun x => { x with contacted := true }).clientStep)) ∧
    (r.purpose = .openSession → (status ≠ 0 ∨ b.length < 4) → exec (.onnumClientResponse id status b) s = .next (s.settle (s1.failWaiting 0x0013))) ∧
    (r.purpose = .openSession → status = 0 → 4 ≤ b.length →
      let s2 := s1.modCascade fun x => { x with
        session := some (ofBE (b.take 4)), tokenSeqs := [],
        sessionKey := sessionKey x.ephemeral (slice b 4 97) (publicBytes x.ephemeral) (slice b 4 97) }
      exec (.onnumClientResponse id status b) s = .next (s.settle
        (s2.sendClient .subscribeTokens [] { op := 5, index := 0x1311, sub := 2, payload := [3, 0, 0, 0] ++ be 4 0 }).clientStep)) ∧
    (r.purpose = .subscribeTokens → exec (.onnumClientResponse id status b) s = .next (s.settle s1)) ∧
    (r.purpose = .answer → status = 0 → b = [] → exec (.onnumClientResponse id status b) s = .next (s.settle (s1.bellEnds 0 0xFE))) ∧
    (r.purpose = .answer → status = 0 → b ≠ [] → exec (.onnumClientResponse id status b) s = .next (s.settle (s1.moveAnswer r b))) ∧
    (r.purpose = .answer → status ≠ 0 → status ≠ 0x0E0D → exec (.onnumClientResponse id status b) s = .next (s.settle (s1.bellEnds status 0xFE))) ∧
    (r.purpose = .answer → status = 0x0E0D → exec (.onnumClientResponse id status b) s = .next (s.settle
      (s1.modCascade fun x => { x with session := none, waiting := r.value :: x.waiting }).clientStep))) ∧
  (∀ (id : Nat) (s : State) (r : ClientReq), (s.svc.clients.find? fun e => e.id == id) = some r → 4 ≤ s.mode →
    (r.attempts < 3 → r.sentTo = none → exec (.clientRetryTimer id) s = .next (s.settle ((s.modSvc fun x =>
      { x with clients := x.clients.map fun e => if e.id = id then { e with attempts := e.attempts + 1 } else e }).send (.client (s.cfg 0x1310 5) (s.obj 0 0x1310 13) r.frame)))) ∧
    (3 ≤ r.attempts ∨ r.sentTo ≠ none → exec (.clientRetryTimer id) s = .next (s.settle s))) ∧
  (∀ (id : Nat) (s : State) (r : ClientReq), (s.svc.clients.find? fun e => e.id == id) = some r → r.sentTo = none →
    let s1 := s.modSvc fun x => { x with clients := x.clients.filter fun e => e.id != id }
    (r.purpose = .answer → exec (.peerUnreachableTimeout id) s = .next (s.settle (s1.bellEnds 0x0010 0xFE))) ∧
    (r.purpose = .subscribeTokens → exec (.peerUnreachableTimeout id) s = .next (s.settle s1)) ∧
    (r.purpose = .readNode ∨ r.purpose = .openSession → exec (.peerUnreachableTimeout id) s = .next (s.settle (s1.failWaiting 0x0010)))) ∧
  (∀ (n : TokenNotify) (s : State) (id : Nat), s.cascade.session = some id → 4 ≤ s.mode →
    let f : Frame := { op := 6, response := true, flags := 4, session := id, seq := n.seq, index := 0x1311, sub := 2 }
    let answer : State → State := fun u => u.send (.client (u.cfg 0x1310 5) (u.obj 0 0x1310 13) { f with tag := tagOf u.cascade.sessionKey f })
    (n.seq ∉ s.cascade.tokenSeqs → exec (.answerTokensRelay n) s = .next (s.settle
      (answer ((s.answerTokens s.cascadePart n.tokens).modCascade fun x => { x with tokenSeqs := (n.seq :: x.tokenSeqs).take 64 })))) ∧
    (n.seq ∈ s.cascade.tokenSeqs → exec (.answerTokensRelay n) s = .next (s.settle (answer s))))

/-! ### Listening -/

/-- The listening chain from its inputs to its feeds: a chain settles at its first valid index; a failed input is counted and logged, and the spare takes over
the listening input; a reading of ATC against NS112 is kept, with its rate held to 200 ppm of nominal; a beam table takes effect whole; a feature frame is made once its last
sample has arrived; and a feed's block goes to its core with its token (R383 to R388, R398, R403, R407). Completes: CHAIN_SETTLE_END, MIC_INPUT_FAILED,
ATC_MAP_SAMPLE, BEAM_TABLE_APPLY, FEATURE_FRAME, FEED_BLOCK_DELIVER. -/
def Obligations.ListeningRunsFromInputsToFeeds : Prop :=
  (∀ s : State, s.afe.tcx.settled = false → s.afe.tcx.running = true → 2 ≤ s.mode →
    let S := settleTick s.afe.tcx.s0 (s.cfg 0x2230 11) s.tcxDiv
    let V := firstValid S s.tcxDiv 1536
    ∃ u, exec (.chainSettleEnd true) s = .next u ∧ u.afe.tcx.settled = true ∧ u.afe.tcx.s = S ∧ u.afe.tcx.next = V ∧
      u.afe.preroll.next = max s.afe.preroll.next V ∧ u = { s.settle s with afe := u.afe }) ∧
  (∀ s : State, s.afe.array.settled = false → s.afe.array.running = true → 4 ≤ s.mode →
    let S := settleTick s.afe.array.s0 (s.cfg 0x2200 5) s.arrayDiv
    ∃ u, exec (.chainSettleEnd false) s = .next u ∧ u.afe.array.settled = true ∧ u.afe.array.s = S ∧ u.afe.array.next = firstValid S 8 512 ∧
      u.afe.arrayOwn.next = firstValid S s.arrayDiv (ticksPer (s.cfg 0x2200 3)) ∧ u.afe.tcx = s.afe.tcx ∧ u.afe.preroll = s.afe.preroll ∧
      u = { s.settle s with afe := u.afe }) ∧
  (∀ (k : Nat) (s : State), k ≤ 33 → s.afe.micFailed.contains k = false →
    let s1 := (s.modAfe fun x => { x with micFailed := k :: x.micFailed, counts := bump x.counts 1 }).logAon 0 0x0702 0xFF (if k < 32 then 0 else 0x50) [byteOf k]
    (k ≠ 32 ∨ s.afe.spare = true → exec (.micInputFailed k) s = .next (s.settle s1)) ∧
    (k = 32 → s.afe.spare = false → exec (.micInputFailed k) s = .next (s.settle
      ((s1.modAfe fun x => { x with spare := true, tcx := { s0 := x.atc }, counts := bump x.counts 2 }).logAon 0 0x0703 0xFF 0x50 [byteOf 32])))) ∧
  (∀ (atc ticks : Nat) (s : State), 4 ≤ s.mode → ∃ u, exec (.atcMapSample atc ticks) s = .next u ∧ u.afe.map = some (atc, ticks, b01 s.timeValid) ∧
    nominalRatio - nominalRatio / 5000 ≤ u.afe.ratio ∧ u.afe.ratio ≤ nominalRatio + nominalRatio / 5000 ∧ u.objects = s.objects ∧ u.slots = s.slots) ∧
  (∀ s : State, (∀ i t, s.afe.waiting = some (i, t) → exec .beamTableApply s = .next (s.settle (s.applyTable i t))) ∧
    (s.afe.waiting = none → exec .beamTableApply s = .next (s.settle s))) ∧
  (∀ (source frame : Nat) (x : Sound) (s : State) (l : List Nat), 4 ≤ (s.hear x).mode → (s.hear x).frameInput source frame = some l →
    exec (.featureFrame source frame x) s = .next (s.settle ((s.hear x).modAfe fun y => { y with
      counts := bump y.counts 6,
      features := kvSet y.features source (some (((frame, melFrame ((s.hear x).cfg 0x2220 1) l) :: (kvGet y.features source).getD []).take 32)) }))) ∧
  (∀ (k slot : Nat) (x : Sound) (s : State) (f : Feed),
    let h := s.hear x
    let p := h.cascadePart
    let c := h.feedCfg k 3
    let r := h.feedOverrun k f
    let rb := max 1 (h.feedCfg k 7)
    h.afe.feeds[k]? = some f → h.slotOf p (h.feedCfg k 4) = some slot → 4 ≤ h.mode → h.feedCfg k 0 ≠ 0 → r.1.on = true →
    r.2.feedReady k r.1 = true → h.powered slot = true → (r.1.block < rb ∨ (h.slot slot).token c (h.feedCfg k 10) ≠ 0) →
    h.feedCfg k 5 * 64 + rb * h.blockBytes k ≤ h.ctxCfg p c 0 4 * 64 → h.feedCfg k 11 ≠ 1 →
    let at_ := h.ctxCfg p c 0 3 * 64 + h.feedCfg k 5 * 64 + r.1.block % rb * h.blockBytes k
    let s1 := r.2.modSlot slot fun y => { y with
      spad := memWrite y.spad at_ (r.2.feedBlock k r.1),
      tokens := if decide (rb ≤ r.1.block) = true then y.tokens.modify (8 * c + h.feedCfg k 10) (· - 1) else y.tokens }
    let s2 := s1.addToken p slot c (h.feedCfg k 9 % 8) none
    let f1 : Feed := { r.1 with block := r.1.block + 1, index := r.1.index + s2.feedCfg k 6, fresh := false, gap := false, on := !(s2.feedCfg k 2 == 1 && s2.afe.held != some r.1.cand) }
    exec (.feedBlockDeliver k x) s = .next (s.settle (s2.modAfe fun y => { y with feeds := y.feeds.set k f1 })))

/-- Tick holds one candidate at a time: a phrase at the threshold raises one where none is held, and counts as held back where one is; below the threshold there is
none (R411, R412); a candidate that expires is counted, logged and no longer held (R412). A playback block is read where its token is there, and plays as zeros and counts an
underrun where it is not (R423). Completes: TICK_FRAME, CANDIDATE_EXPIRED, PLAYBACK_BLOCK_READ. -/
def Obligations.CandidatesAreHeldOneAtATime : Prop :=
  (∀ (frame score length : Nat) (x : Sound) (s : State),
    let h := s.hear x
    2 ≤ h.mode → 160 * frame + 400 ≤ h.afe.preroll.next → score ≤ 255 → 1 ≤ length → length ≤ 200 →
    (score < h.cfg 0x2230 2 → exec (.tickFrame frame score length x) s = .next (s.settle h)) ∧
    (h.cfg 0x2230 2 ≤ score → h.afe.held.isSome = true → exec (.tickFrame frame score length x) s = .next (s.settle (h.countWake 3))) ∧
    (h.cfg 0x2230 2 ≤ score → h.afe.held = none → exec (.tickFrame frame score length x) s = .next (s.settle (h.raiseCandidate frame score length)))) ∧
  (∀ s : State, (s.afe.held = none → exec .candidateExpired s = .next (s.settle s)) ∧
    (s.afe.held.isSome = true → ∃ u, exec .candidateExpired s = .next u ∧ u.afe.held = none ∧ u.afe.counts = bump s.afe.counts 0 ∧ u.power.shortHold = 0 ∧
      u.mode = s.mode ∧ u.slots = s.slots ∧ u.objects = s.objects)) ∧
  (∀ (k : Nat) (s : State), 4 ≤ s.mode → k < 16 →
    (∀ b t, s.ringBlock s.cascadePart k (s.afe.played.getD k 0) = some (b, t) →
      exec (.playbackBlockRead k) s = .next (s.settle ((t.modAfe fun x => { x with played := bump x.played k }).send (.audio k b)))) ∧
    (s.ringBlock s.cascadePart k (s.afe.played.getD k 0) = none → exec (.playbackBlockRead k) s = .next (s.settle
      ((s.modAfe fun x => { x with counts := bump x.counts 5, played := bump x.played k }).send (.audio k [])))))

/-! ### Cameras -/

/-- A frame from its start to its publication: at FS an enabled camera closes what it was receiving and opens the next frame, with the credits of its outputs where the
acceptance test passes, and drops it whole where it does not or a credit is missing (R427, R430, R437); a good line enters the frame's FIFO, a line whose header is lost is
replaced, and a line too many is flagged and a lost header there logged (R427, R83); FE and the frame timeout close the frame; the pipeline takes one line at a time (R429); a
frame whose lines have all left it is published, record last, with its tokens and its doorbell (R435 to R437); and the transfers of a slot that are done take effect, or go back
to wait (R441, R442). Completes: CSI_FRAME_START, CSI_LONG_PACKET, CSI_FRAME_END, CSI_UNKNOWN_PACKET, FRAME_TIMEOUT, PIPE_LINE_SERVICE, FRAME_PUBLISH,
CTRL_TRANSFER_DONE. -/
def Obligations.CamerasTakeFramesWhole : Prop :=
  (∀ (port vc number ticks k : Nat) (s : State), s.camOn port vc = some k → s.camRuns k = true →
    let s1 := (s.reach ticks).closeFrame k false
    let n := (s1.cam k).seq
    16 ≤ s1.camCfg k 10 →
    let f : CamFrame := { seq := n, csi := number, fsNs := s1.nowNs, valid := s1.timeValid, ctl := s1.camControls k }
    let opened := fun (slots : List (Option Nat)) (now : Nat) (s : State) => (s.modCam k fun x =>
      { x with state := 2, seq := n + 1, recving := some n, frames := x.frames ++ [{ f with slots := slots }],
               periodNs := if x.lastFsNs = 0 then 0 else now - x.lastFsNs, lastFsNs := now }).openSlot k n
    let outs := ((s1.camControls k).drop 8).take 4
    (∀ l t, s1.acceptsFrame k = true → s1.takeCredits k outs = some (l, t) →
      exec (.csiFrameStart port vc number ticks false) s = .next (s.settle (opened l t.nowNs t))) ∧
    (s1.acceptsFrame k = true → s1.takeCredits k outs = none →
      exec (.csiFrameStart port vc number ticks false) s = .next (s.settle ((opened [] s1.nowNs s1).dropFrame k n 3))) ∧
    (s1.acceptsFrame k = false →
      exec (.csiFrameStart port vc number ticks false) s = .next (s.settle ((opened [] s1.nowNs s1).dropFrame k n 1)))) ∧
  (∀ (port vc k : Nat) (samples : List Nat) (s : State) (f : CamFrame), s.camOn port vc = some k → s.camRuns k = true → (s.cam k).current? = some f →
    let ty := s.camCfg k 4
    (f.arrived < ofBE (f.ctl.getD 13 []) → samples.length = (if ty = 0x1E then 2 * ofBE (f.ctl.getD 12 []) else ofBE (f.ctl.getD 12 [])) →
      exec (.csiLongPacket port vc ty 0 true samples) s = .next (s.settle
        (s.pushLine k f.seq { samples := samples.map fun v => v * 2 ^ (inputShift ty).getD 0 % 16384 }))) ∧
    (f.arrived < ofBE (f.ctl.getD 13 []) → exec (.csiLongPacket port vc ty 2 true samples) s = .next (s.settle
      (((((s.camViolation k 0x0805 ([byteOf port, byteOf vc] ++ be 2 f.arrived)).countCam k 6).modFrame k f.seq fun f =>
        { f with flags := f.flags ||| 64, replaced := f.replaced + 1 })).pushLine k f.seq
          { samples := ((s.camViolation k 0x0805 ([byteOf port, byteOf vc] ++ be 2 f.arrived)).countCam k 6).standIn k f, real := false }))) ∧
    (ofBE (f.ctl.getD 13 []) ≤ f.arrived → f.flags.testBit 1 = false → exec (.csiLongPacket port vc ty 0 true samples) s = .next (s.settle
      ((s.countCam k 11).modFrame k f.seq fun f => { f with flags := f.flags ||| 2 }))) ∧
    (ofBE (f.ctl.getD 13 []) ≤ f.arrived → exec (.csiLongPacket port vc ty 2 true samples) s = .next (s.settle
      (s.camViolation k 0x0805 ([byteOf port, byteOf vc] ++ be 2 f.arrived)))) ∧
    (∀ ticks, exec (.csiFrameEnd port vc ticks false) s = .next (s.settle ((s.reach ticks).closeFrame k true)))) ∧
  (∀ (port vc ticks k : Nat) (s : State), s.camOn port vc = some k → s.camRuns k = true → (s.cam k).current? = none →
    exec (.csiFrameEnd port vc ticks false) s = .next (s.settle (s.camViolation k 0x0807 [byteOf port, byteOf vc]))) ∧
  (∀ (port vc ty : Nat) (s : State), 4 ≤ s.mode → s.camOn port vc = none → exec (.csiUnknownPacket port vc ty) s = .next (s.settle
    ((s.countCam (2 * port) 14).camViolation (2 * port) 0x0806 [byteOf port, byteOf vc, byteOf ty]))) ∧
  (∀ (k : Nat) (s : State), (s.camRuns k = true → exec (.frameTimeout k) s = .next (s.settle (s.closeFrame k false))) ∧
    (s.camRuns k = false → exec (.frameTimeout k) s = .next (s.settle s))) ∧
  (∀ (full : List Nat) (s : State) (k seq : Nat) (l : CamLine) (rest : List (Nat × CamLine)),
    (((List.range 8).map fun i => (s.image.served + 1 + i) % 8).find? fun k => !(s.cam k).fifo.isEmpty && !full.contains k) = some k →
    (s.cam k).fifo = (seq, l) :: rest → exec (.pipeLineService full) s = .next (s.settle
      ((({ s with image := { s.image with served := k } }).modCam k fun x => { x with fifo := rest }).modFrame k seq fun f => { f with lines := f.lines ++ [l] }))) ∧
  (∀ (k : Nat) (s : State) (f : CamFrame), ((s.cam k).frames.find? fun f => f.closed && !f.dropped && decide (f.lines.length = f.arrived)) = some f →
    4 ≤ s.mode → s.camOwner k < 8 →
    let p := s.camOwner k
    let outs := (f.slots.zip ((f.ctl.drop 8).take 4)).zipIdx
    let written := outs.foldl (fun s e => match e.1.1 with
      | some i => s.writeOutput k e.2 i f e.1.2
      | none => s) s
    let signalled := outs.foldl (fun s e => match e.1.1, s.outCore k e.1.2 with
      | some _, some slot => s.addToken p slot (outField e.1.2 20) (outField e.1.2 22 % 8) none
      | _, _ => s) written
    let out := (signalled.modCam k fun x => { x with
      frames := x.frames.filter (fun e => e.seq != f.seq), drops := x.drops.filter (fun d => decide (f.seq < d.1)), lastCode := 0,
      outIdx := x.outIdx.zipIdx.map fun e => if ((f.slots.getD e.2 none)).isSome then e.1 + 1 else e.1 }).countCam k 0
    let v0 := f.ctl.getD 8 []
    let bell : Bool := outField v0 0 == 1 && outField v0 24 == 1
    (bell = true → exec (.framePublish k) s = .next (s.settle (out.selfSubmit p (outField v0 20) (f.seq % 2 ^ 32) (outField v0 25)).2)) ∧
    (bell = false → exec (.framePublish k) s = .next (s.settle out))) ∧
  (∀ (k o i : Nat) (f : CamFrame) (v : Bytes) (s : State) (b : Obj), s.objOf (outField v 1) = some b →
    let at_ := outField v 2 + i % (max 1 (outField v 4)) * outField v 3
    s.writeOutput k o i f v = s.modObj b.owner b.index fun x =>
      let m := memWrite x.content (at_ + if o = 0 then 20480 else 4096) (tensorOf v f.image)
      { x with content := memWrite (if o = 0 then memWrite m (at_ + 256) f.stats else m) at_ (s.frameRecord k o f v) }) ∧
  (∀ (k : Nat) (s : State), 4 ≤ s.mode → (s.cam k).slotE.isSome = true ∨ (s.cam k).slotG.isSome = true → k < s.image.cams.length →
    ∃ u, exec (.ctrlTransferDone k true) s = .next u ∧ (u.cam k).slotE = none ∧ (u.cam k).slotG = none ∧
      (u.cam k).sentGen = max (((s.cam k).slotE.map (·.gen)).getD 0) (((s.cam k).slotG.map (·.gen)).getD 0) ∧
      (∀ v, (s.cam k).slotE = some v → (u.cam k).effE.head? = some ((s.cam k).slotSeq + s.cfg (0x6001 + 0x20 * k) 3, v)) ∧
      (∀ v, (s.cam k).slotG = some v → (u.cam k).effG.head? = some ((s.cam k).slotSeq + s.cfg (0x6001 + 0x20 * k) 4, v)) ∧
      u = { s.settle s with image := u.image, sent := u.sent } ∧
      u.sent = .bus (s.field 0 (0x6001 + 0x20 * k) 1 0) (s.field 0 (0x6001 + 0x20 * k) 1 1) (s.slotWrites k) :: s.sent) ∧
  (∀ (k : Nat) (s : State) (v : CamSetting), 4 ≤ s.mode → (s.cam k).slotE = some v → k < s.image.cams.length →
    ∃ u, exec (.ctrlTransferDone k false) s = .next u ∧ (u.cam k).slotE = none ∧ (u.cam k).slotG = none ∧ (u.cam k).effE = (s.cam k).effE ∧
      ((s.cam k).waitE = none → v.failed < 2 → (u.cam k).waitE = some { v with failed := v.failed + 1 }) ∧
      (2 ≤ v.failed → (u.cam k).failedReqs = (s.cam k).failedReqs + 1))

/-! ### Time -/

/-- A time message that is not well formed is discarded, counted and logged by every row of the table that takes one, and the clock goes on. One that is well formed, of the domain and for the
part is taken by its own rule (R455 to R458, R463); and the timers send, lose the master or enter HOLDOVER as they name (R449, R460). Completes: PTP_SYNC,
PTP_FOLLOW_UP, PTP_DELAY_RESP, PTP_DELAY_REQ, PTP_ANNOUNCE, PTP_PDELAY_REQ, PTP_PDELAY_RESP, DELAY_REQ_TIMER, ANNOUNCE_TIMEOUT, SYNC_TIMEOUT,
SLEEP_CALIBRATION. -/
def Obligations.TimeMessagesAreTakenOrDiscarded : Prop :=
  (∀ (m : PtpMsg) (a : Announce) (s : State), PtpMsg_wellFormed m = false →
    ∀ c ∈ [Instr.ptpSync m, .ptpFollowUp m, .ptpDelayResp m, .ptpDelayReq m, .ptpAnnounce m a, .ptpPdelayReq m, .ptpPdelayResp m],
      exec c s = .next (s.settle ((s.reach m.stamp).malformedTime m))) ∧
  (∀ (m : PtpMsg) (s : State), PtpMsg_wellFormed m = true → m.domain = s.cfg 0x1610 3 → m.toUs = true → m.egress = none →
    let at_ := fun (k : Nat) => (s.reach m.stamp).countPtp k
    (∀ a : Announce, (at_ 4).inProfile 1 m.logInterval = true → exec (.ptpAnnounce m a) s = .next (s.settle
      ((at_ 4).modTime fun x => { x with masters := { port := m.port, identity := m.source, data := a } :: x.masters.filter fun y => !(y.port == m.port && y.identity == m.source) }).choose)) ∧
    ((at_ 0).inProfile 0 m.logInterval = true →
      (m.twoStep = true → exec (.ptpSync m) s = .next (s.settle
        ((at_ 0).keepPtp { typ := 0, port := m.port, source := m.source, sequenceId := m.sequenceId, stamp := m.stamp, correction := m.correction }))) ∧
      (m.twoStep = false → (at_ 0).following = true → (at_ 0).fromParent m = true →
        exec (.ptpSync m) s = .next (s.settle ((at_ 0).syncMeasured m.port m.stamp m.origin m.correction)))) ∧
    (∀ k, (at_ 1).keptFor 0 m.source m.sequenceId = some k → (at_ 1).following = true → (at_ 1).fromParent m = true →
      exec (.ptpFollowUp m) s = .next (s.settle ((at_ 1).syncMeasured k.port k.stamp m.origin (k.correction + m.correction)))) ∧
    ((at_ 1).keptFor 0 m.source m.sequenceId = none → exec (.ptpFollowUp m) s = .next (s.settle ((at_ 1).malformedTime m))) ∧
    (∀ k d, (at_ 2).inProfile 2 m.logInterval = true → (at_ 2).keptFor 1 0 m.sequenceId = some k → (at_ 2).time.syncDelta = some d →
      exec (.ptpDelayResp m) s = .next (s.settle ((at_ 2).modTime fun x =>
        { x with paths := last8 ((d + ((m.receipt : Rat) - nsOf k.stamp - corrNs m.correction)) / 2) x.paths }))) ∧
    ((at_ 3).peerDelay = true → exec (.ptpPdelayReq m) s = .next (s.settle ((at_ 3).send (.ptp m.port 3 m.sequenceId 0)))) ∧
    (∀ q, m.typ ≠ 10 → (at_ 3).keptFor 2 0 m.sequenceId = some q → m.twoStep = false → exec (.ptpPdelayResp m) s = .next (s.settle
      ((at_ 3).linkMeasured m.port (((nsOf m.stamp - nsOf q.stamp) - ((m.origin : Rat) - (m.receipt : Rat)) - corrNs m.correction) / 2))))) ∧
  (∀ (m : PtpMsg) (s : State) (r q : PtpKept), PtpMsg_wellFormed m = true → m.domain = s.cfg 0x1610 3 → m.toUs = true → m.egress = none → m.typ = 10 →
    let s1 := (s.reach m.stamp).countPtp 3
    s1.keptFor 3 m.source m.sequenceId = some r → s1.keptFor 2 0 m.sequenceId = some q → exec (.ptpPdelayResp m) s = .next (s.settle
      (s1.linkMeasured r.port (((nsOf r.stamp - nsOf q.stamp) - ((m.origin : Rat) - (r.origin : Rat)) - corrNs (r.correction + m.correction)) / 2)))) ∧
  (∀ (m : PtpMsg) (s : State) (e : Nat), PtpMsg_wellFormed m = true → m.egress = some e → (s.reach m.stamp).cfg 0x1610 7 = 1 →
    let s1 := s.reach m.stamp
    (m.domain = s.cfg 0x1610 3 → exec (.ptpDelayReq m) s = .next (s.settle (s1.cross m (residence m.stamp e) true))) ∧
    (m.domain ≠ s.cfg 0x1610 3 → exec (.ptpDelayReq m) s = .next (s.settle ((s1.countPtp 6).cross m (residence m.stamp e) true)))) ∧
  (∀ (port stamp : Nat) (s : State), let s1 := s.reach stamp
    s1.peerDelay = false → s1.following = true → s1.time.parent.map (·.port) = some port →
    exec (.delayReqTimer port stamp) s = .next (s.settle
      (((s1.modTime fun x => { x with ptpSeq := (x.ptpSeq + 1) % 65536 }).keepPtp { typ := 1, port := port, source := 0, sequenceId := s.time.ptpSeq, stamp := stamp }).send (.ptp port 1 s.time.ptpSeq 0)))) ∧
  (∀ (s : State) (p : Master), s.time.parent = some p → exec .announceTimeout s = .next (s.settle
    (((s.modTime fun x => { x with masters := x.masters.filter fun y => !(y.port == p.port && y.identity == p.identity) }).holdover 1).choose))) ∧
  (∀ s : State, exec .syncTimeout s = .next (s.settle (s.holdover 2))) ∧
  (∀ (n e : Nat) (s : State), 0 < n → s.time.nsInForce = true → ∃ u, exec (.sleepCalibration n e) s = .next u ∧
    u.time.sleepPpb = roundEven (((e : Rat) / ((n : Rat) * 0x773594000000) - 1) * 1000000000) ∧ u = { s.settle s with time := u.time })

/-- A time recovery steps NS112 and loads SECNS with it, counts its generation and enters the state given; the deadlines of submissions and the ends of
waits move with it, and so do the moments from which a span is measured (assumption 24); HOLDOVER is entered from TRACKING and LOCKED alone, and is counted (R460, R462). -/
def Obligations.TimeRecoveriesKeepOneTime : Prop :=
  (∀ (step : Int) (case_ state : Nat) (s : State),
    let u := s.recover step case_ state
    u.time.ns112 = ((s.time.ns112 : Int) + step).toNat % 2 ^ 112 ∧ u.time.secns = u.time.ns112 ∧ u.time.generation = s.time.generation + 1 ∧ u.time.state = state ∧
    let d := step / 2 ^ 32
    (∀ p c, (u.ctx p c).queue = (s.ctx p c).queue.map (Submission.stepped d) ∧
      (u.ctx p c).flight.map (·.sub) = (s.ctx p c).flight.map fun f => f.sub.stepped d) ∧
    (∀ p, (u.part p).running = (s.part p).running.map (Running.stepped d (u.time.ns112 / 2 ^ 32))) ∧
    u.slots = s.slots.map (fun x => { x with errors := x.errors.map fun e => (e.1, ((e.2 : Int) + d).toNat) }) ∧
    u.objects = s.objects ∧ u.mode = s.mode ∧ u.keys = s.keys) ∧
  (∀ (why : Nat) (s : State), (s.time.state ≠ 2 → s.time.state ≠ 3 → s.holdover why = s) ∧
    (s.time.state = 2 ∨ s.time.state = 3 → (s.holdover why).time.state = 4 ∧ (s.holdover why).time.counts = bump s.time.counts 10 ∧
      (s.holdover why).time.ns112 = s.time.ns112))

/-- An armed trigger unit fires at its target: it counts, keeps the time, moves its target by its period or is DONE, and drives its pins and its doorbell; one that is not armed does
nothing (R467, R468). A capture unit stamps an event of its source and edge, and counts as lost one that comes within 100 ns of the last or finds its ring full (R470, R471).
Completes: TRIGGER_FIRE, CAPTURE_EVENT. -/
def Obligations.TriggersFireAndCapturesStamp : Prop :=
  (∀ (t : Nat) (s : State), t < 16 → 4 ≤ s.mode → s.time.nsInForce = true →
    let u := s.time.triggers.getD t {}
    (u.state = 1 → exec (.triggerFire t) s = .next (s.settle
      (((((s.reach u.target).modTrig t fun x => { x with
        firings := x.firings + 1, lastFired := some u.target, state := if s.trigPeriod t = 0 then 3 else 1,
        target := if s.trigPeriod t = 0 then u.target else (u.target + s.trigPeriod t) % 2 ^ 112 }).trigPins t).trigDoorbell t)))) ∧
    (u.state ≠ 1 → exec (.triggerFire t) s = .next (s.settle s))) ∧
  (∀ (n src ticks : Nat) (falling : Bool) (s : State), n < 16 → n < s.time.captures.length → 4 ≤ s.mode → s.time.nsInForce = true →
    s.field 0 (0x1780 + n) 2 0 ≠ 0 → s.field 0 (0x1780 + n) 2 1 = src →
    (let e := s.field 0 (0x1780 + n) 2 2
     if src < 4 then (if falling then e = 2 ∨ e = 3 else e = 1 ∨ e = 3) else falling = false) →
    let x := s.time.captures.getD n {}
    let y := fun (u : State) => u.time.captures.getD n {}
    ((∀ t, x.lastAt = some t → t + 100 * 2 ^ 32 ≤ ticks) → x.undelivered.length < 256 → ∃ u, exec (.captureEvent n src falling ticks) s = .next u ∧
      (y u).undelivered = x.undelivered ++ [time96 (ticks / 2 ^ 32) s.timeValid ++ le 4 (ticks % 2 ^ 32) ++ le 4 ((x.seq + 1) % 2 ^ 32) ++
        le 2 (s.time.generation % 65536) ++ [byteOf src, byteOf (b01 (decide (src < 4) && falling) + 2 * b01 x.lostBefore)]] ∧
      (y u).seq = x.seq + 1 ∧ (y u).lost = x.lost ∧ (y u).lostBefore = false ∧ u = { s.settle s with time := u.time }) ∧
    ((∃ t, x.lastAt = some t ∧ ticks < t + 100 * 2 ^ 32) ∨ 256 ≤ x.undelivered.length → ∃ u, exec (.captureEvent n src falling ticks) s = .next u ∧
      (y u).undelivered = x.undelivered ∧ (y u).seq = x.seq + 1 ∧ (y u).lost = x.lost + 1 ∧ (y u).lostBefore = true ∧
      u.slots = s.slots ∧ u.objects = s.objects))

/-! ### The network and the host ports -/

/-- A port takes the link that its partner trains, at the speed it trains at, and loses it; the automatic speed goes round 25G, 10G and 1G; an oversize frame and one of no VLAN are dropped and
counted; an unknown unicast frame is learned from and goes out of the other port, and one for the part is delivered inside; and the part answers for its own addresses and
memberships alone (R473 to R478, R483). Completes: PORT_LINK_CHANGE, SPEED_AUTO_STEP, BRIDGE_FRAME, MAC_AGE_OUT, ARP_NDP_ICMP, IGMP_MLD_QUERY. -/
def Obligations.BridgeTakesLearnsAndForwards : Prop :=
  (∀ (port speed : Nat) (s : State), port < 2 → 4 ≤ s.mode →
    exec (.portLinkChange port false speed) s = .next (s.settle (s.modLan port fun x => { x with link := false, speed := 0, fec := false })) ∧
    (s.portCfg port 0 ≠ 0 → speed = s.trains port → exec (.portLinkChange port true speed) s = .next (s.settle
      (s.modLan port fun x => { x with link := true, speed := speed, fec := speed == 1 && s.portCfg port 2 == 1 }))) ∧
    (s.portCfg port 0 = 0 ∨ speed ≠ s.trains port → exec (.portLinkChange port true speed) s = .next (s.settle s)) ∧
    (s.portCfg port 0 ≠ 0 → s.portCfg port 1 = 0 → (s.net.ports.getD port {}).link = false → exec (.speedAutoStep port) s = .next (s.settle
      (s.modLan port fun x => { x with trying := x.trying % 3 + 1 })))) ∧
  (∀ (f : EtherFrame) (s : State), 4 ≤ s.mode → f.port < 2 → (s.net.ports.getD f.port {}).link = true → f.kind ≠ 6 → 64 ≤ f.length →
    let vid := match f.tag with
      | some (v, _) => if v = 0 then s.portCfg f.port 4 else v
      | none => s.portCfg f.port 4
    let pcp := match f.tag with
      | some (_, q) => q
      | none => s.portCfg f.port 5
    (1522 < f.length → exec (.bridgeFrame f) s = .next (s.settle (s.countBridge f.port 3))) ∧
    (f.length ≤ 1522 → s.vlan vid = none → exec (.bridgeFrame f) s = .next (s.settle (s.countBridge f.port 2))) ∧
    (∀ e, f.length ≤ 1522 → s.vlan vid = some e → f.kind ≠ 1 → f.dst ≠ macBase → f.dst ≠ macBase + 1 → (f.dst / 2 ^ 40).testBit 0 = false →
      f.dst ≠ f.src → (s.net.macs.all fun m => !(m.vid == vid && m.mac == f.dst)) = true → (s.net.macs.filter fun m => !(m.vid == vid && m.mac == f.src)).length < 4096 →
      f.dst ∉ ptpGroups → f.dst ≠ 2 ^ 48 - 1 →
      let others := s.net.macs.filter fun m => !(m.vid == vid && m.mac == f.src)
      let learned : MacEntry := { vid := vid, mac := f.src, port := f.port, atNs := s.nowNs }
      exec (.bridgeFrame f) s = .next (s.settle ((s.modNet fun x => { x with macs := learned :: others }).forward f vid pcp e))) ∧
    (∀ e, f.length ≤ 1522 → s.vlan vid = some e → f.dst = macBase ∨ f.dst = macBase + 1 → e.1.testBit 2 = true →
      (s.net.macs.filter fun m => !(m.vid == vid && m.mac == f.src)).length < 4096 →
      let others := s.net.macs.filter fun m => !(m.vid == vid && m.mac == f.src)
      let learned : MacEntry := { vid := vid, mac := f.src, port := f.port, atNs := s.nowNs }
      exec (.bridgeFrame f) s = .next (s.settle ((s.modNet fun x => { x with macs := learned :: others }).countBridge f.port (if f.kind = 5 then 5 else 4))))) ∧
  (∀ (vid mac : Nat) (s : State), ∃ u, exec (.macAgeOut vid mac) s = .next u ∧ (∀ m ∈ u.net.macs, ¬(m.vid = vid ∧ m.mac = mac)) ∧
    (∀ m ∈ s.net.macs, ¬(m.vid = vid ∧ m.mac = mac) → m ∈ u.net.macs) ∧ u = { s.settle s with net := u.net }) ∧
  (∀ (port target : Nat) (v6 echo : Bool) (b : Bytes) (s : State), 4 ≤ s.mode → port ≤ 2 →
    (s.ownAddress port target v6 = true → exec (.arpNdpIcmp port target v6 echo b) s = .next (s.settle
      (s.send (.ether port 0 none (if echo then b else be 6 (macBase + port)))))) ∧
    (s.ownAddress port target v6 = false → exec (.arpNdpIcmp port target v6 echo b) s = .next (s.settle s))) ∧
  (∀ (port group : Nat) (s : State), 4 ≤ s.mode → exec (.igmpMldQuery port group) s = .next (s.settle
    ((s.net.groups.filter fun e => e.1 == port && (group == 0 || e.2.1 == group)).foldl (fun s e => s.send (.ether port 0 none (be 16 e.2.1 ++ be 16 e.2.2))) s)))

/-- A packet of an AES67 stream reaches every channel it is for; one that is malformed is counted and logged and gives no sample; a release gives out the sample that arrived or
conceals it, counted and logged; and a transmit channel sends the packet that falls due, with its sequence number and its timestamp (R480 to R482, R485). Completes:
AES67_PACKET, AES67_SAMPLE_RELEASE, AES67_TX_PACKET. -/
def Obligations.StreamsReleaseConcealAndSend : Prop :=
  (∀ (k : RtpPacket) (s : State), 4 ≤ s.mode → (s.net.ports.getD k.port {}).link = true →
    exec (.aes67Packet k) s = .next (s.settle (((s.reach k.ticks).rxFor k).foldl (fun s ch => s.rtpChannel k ch) (s.reach k.ticks)))) ∧
  (∀ (k : RtpPacket) (ch : Nat) (s : State),
    k.version ≠ 2 ∨ k.payloadType ≠ s.rxCfg ch 5 ∨
      k.payload.length ≠ packetSamples (s.rxCfg ch 10) * (if s.rxCfg ch 7 = 1 then 2 else 1) * s.rxCfg ch 8 * (if s.rxCfg ch 6 = 1 then 3 else 2) →
    s.rtpChannel k ch = ((s.countRx ch 0).countRx ch 4).logViolation 0x0902 (s.rxScope ch) 0x60 (be 2 ch ++ be 2 k.seq)) ∧
  (∀ (ch m : Nat) (s : State), 4 ≤ s.mode → ch < 1024 → s.rxCfg ch 0 ≠ 0 → (∀ q, (s.rxChan ch).next = some q → m = q) →
    let s1 := s.reach (sampleTicks (s.rxCfg ch 7 == 1) m + s.rxCfg ch 11 * 1000 * 2 ^ 32)
    (∀ e, ((s.rxChan ch).got.find? fun e => e.1 == m) = some e → exec (.aes67SampleRelease ch m) s = .next (s.settle
      (s1.modRx ch fun x => { x.release (s.rxCfg ch 7 == 1) m e.2 with got := x.got.filter fun e => decide (m < e.1) }))) ∧
    (((s.rxChan ch).got.find? fun e => e.1 == m) = none → exec (.aes67SampleRelease ch m) s = .next (s.settle
      (((s1.countRx ch 2).modRx ch fun x => { x.release (s.rxCfg ch 7 == 1) m 0 with got := x.got.filter fun e => decide (m < e.1), concealing := true }
        ).logViolation 0x0901 (s.rxScope ch) 0x60 (be 2 ch ++ be 8 m))))) ∧
  (∀ (ch m0 : Nat) (s : State) (x : TxChannel), 4 ≤ s.mode → kvGet s.net.tx ch = some x → x.m0 = some m0 → s.txCfg ch 0 ≠ 0 →
    ∃ u, exec (.aes67TxPacket ch) s = .next u ∧ ∃ (ssrc : Nat) (body : Bytes),
      body.length = packetSamples (s.txCfg ch 10) * s.txCfg ch 8 * (if s.txCfg ch 6 = 1 then 3 else 2) ∧
      u.sent.head? = some (.ether (s.txCfg ch 1) (queueOf (s.txCfg ch 14)) (some (s.txCfg ch 13))
        ([0x80, byteOf (s.txCfg ch 5)] ++ be 2 x.rtpSeq ++ be 4 ((m0 + x.sent + s.txCfg ch 12) % 2 ^ 32) ++ be 4 ssrc ++ body)))

/-- The PCIe functions and the management port: an aperture is selected, read and written within an object of its tenant, and any other access is refused, logged, and reads all ones; where the
tenant asks for tags no aperture serves; a function reset clears its windows and apertures, PERST_N the endpoint; an error is counted and logged; and a TLS connection opens where the certificate
chains to an anchor and is refused, counted and logged where it does not (R487 to R493, R540, R541, R600). A write that a protected page table keeps out is rejected (R247).
Completes: APERTURE_SELECT, APERTURE_ACCESS, PCIE_FLR, PCIE_ERROR, PERST_N, MGMT_TLS_HANDSHAKE. -/
def Obligations.HostPortsServeTheirFunctions : Prop :=
  (∀ (fn k v : Nat) (s : State), 4 ≤ s.mode → fn ≤ 8 → k < 4 → v < 2 ^ 64 →
    (∃ u, exec (.apertureSelect fn k false v) s = .next u ∧ u.aperture fn k = (v, (s.aperture fn k).2) ∧ u = { s.settle s with net := u.net }) ∧
    (∃ u, exec (.apertureSelect fn k true v) s = .next u ∧ u.aperture fn k = ((s.aperture fn k).1, v / 65536 * 65536) ∧ u = { s.settle s with net := u.net })) ∧
  (∀ (p k addr n : Nat) (b : Bytes) (s : State), 4 ≤ s.mode → p < 8 → k < 4 → addr < 67108864 →
    let a := s.aperture (p + 1) k
    let r := s.apertureRefused (p + 1) k (a.2 + addr)
    (s.area p 0x50 1 = 1 ∨ s.apertureObj p a.1 = none →
      exec (.apertureAccess (p + 1) k addr n none) s = .next (s.settle (r.send (.pcieRead (p + 1) (List.replicate n 255)))) ∧
      exec (.apertureAccess (p + 1) k addr n (some b)) s = .next (s.settle r)) ∧
    (∀ o, s.area p 0x50 1 ≠ 1 → s.apertureObj p a.1 = some o →
      (a.2 + addr + n ≤ o.size → exec (.apertureAccess (p + 1) k addr n none) s = .next (s.settle
        (s.send (.pcieRead (p + 1) (memRead o.content (a.2 + addr) n))))) ∧
      (o.size < a.2 + addr + n → exec (.apertureAccess (p + 1) k addr n none) s = .next (s.settle (r.send (.pcieRead (p + 1) (List.replicate n 255))))) ∧
      (o.kind ≠ 1 → a.2 + addr + b.length ≤ o.size → s.ptProtected o (a.2 + addr) b.length = none →
        exec (.apertureAccess (p + 1) k addr n (some b)) s = .next (s.settle (s.modObj o.owner o.index fun x => { x with content := memWrite x.content (a.2 + addr) b }))) ∧
      (∀ copy, o.kind ≠ 1 → a.2 + addr + b.length ≤ o.size → s.ptProtected o (a.2 + addr) b.length = some copy →
        exec (.apertureAccess (p + 1) k addr n (some b)) s = .next (s.settle (s.rejectPt o (a.2 + addr) copy))) ∧
      (o.kind = 1 ∨ o.size < a.2 + addr + b.length → exec (.apertureAccess (p + 1) k addr n (some b)) s = .next (s.settle r)))) ∧
  (∀ (fn : Nat) (s : State), fn < s.svc.windows.length → ∃ u, exec (.pcieFlr (some fn)) s = .next u ∧ u.svc.windows.getD fn {} = {} ∧
    (∀ e ∈ u.net.apertures, e.1 / 4 ≠ fn) ∧ u.objects = s.objects ∧ u.slots = s.slots ∧ u.mode = s.mode ∧
    (fn = 0 → u.net.busMaster = false ∧ u.net.vfs = 0)) ∧
  (∀ s : State, exec (.pcieFlr none) s = .next (s.settle s.clearVfs)) ∧
  (∀ (fn status : Nat) (c : Bool) (s : State), exec (.pcieError fn status c) s = .next (s.settle
    (((s.modNet fun x => { x with aer := bump x.aer (if c then 0 else 1) }).logViolation 0x0903 (fnScope fn) (fnSource fn) ([byteOf fn] ++ be 4 status)).send (.pcieError fn)))) ∧
  (∀ (up bm : Bool) (g w v : Nat) (s : State), 4 ≤ s.mode → ∃ u, exec (.perstN up g w v bm) s = .next u ∧ u.net.pcieUp = up ∧ u.net.busMaster = (up && bm) ∧
    u.net.aer = [0, 0] ∧ u.net.apertures = s.net.apertures.filter (fun e => decide (9 ≤ e.1 / 4)) ∧ u.objects = s.objects ∧ u.slots = s.slots ∧ u.mode = s.mode) ∧
  (∀ (conn : Nat) (cert : Bool) (anchor : Option Nat) (s : State), 4 ≤ s.mode → s.serving = true →
    let n := (lengthPrefixed 4 (s.obj 0 0x1B10 1)).length
    let refused := fun (why : Nat) => ({ s with sec := { s.sec with counts := bump s.sec.counts 5 } }.logError 0x0C06 0xFF 0x20 [byteOf why])
    (n = 0 → exec (.mgmtTlsHandshake conn cert anchor) s = .next (s.settle (refused 3))) ∧
    (0 < n → exec (.mgmtTlsHandshake conn false anchor) s = .next (s.settle (refused 1))) ∧
    (0 < n → (∀ a, anchor = some a → n ≤ a) → exec (.mgmtTlsHandshake conn true anchor) s = .next (s.settle (refused 2))) ∧
    (∀ a, a < n → conn ∉ s.svc.tls → s.svc.tls.length < 4 → exec (.mgmtTlsHandshake conn true (some a)) s = .next (s.settle
      (s.modSvc fun x => { x with tls := x.tls ++ [conn] }))))

/-! ### Trace and the debug port -/

/-- A trace region never holds more than its 512 or 2,048 records: where it is full the oldest leaves and the newest stands last under its SEQ. A LOAD record is sampled; and the debug port
selects a region at its oldest record, reads the next record that it may with VALID, and zeros where there is none, taking nothing (R576 to R579, R583). Completes:
TRACE_LOAD_SAMPLE, JTAG_TRACE_REGION, JTAG_TRACE_READ, JTAG_BYPASS. -/
def Obligations.TraceIsHeldAndRead : Prop :=
  (∀ (r kind : Nat) (b : Bytes) (s : State), r < 9 → s.trace.regions.length = 9 → (s.region r).recs.length ≤ regionSize r →
    ((s.capture r kind b).region r).recs.length ≤ regionSize r ∧
    ((s.traceKinds r).testBit (if r < 8 then kind - 1 else kind - 0x20) = true → ((s.capture r kind b).region r).seq = (s.region r).seq + 1 ∧
      ∃ bytes consent, ((s.capture r kind b).region r).recs = (if regionSize r ≤ (s.region r).recs.length then (s.region r).recs.drop 1 else (s.region r).recs) ++
        [((s.region r).seq, bytes, consent)] ∧ bytes.length = 32)) ∧
  (∀ (v mw : Nat) (tj : Int) (s : State), 4 ≤ s.mode → exec (.traceLoadSample v tj mw) s = .next (s.settle
    (s.capture 8 0x24 ([byteOf s.poweredSlots.length, 0] ++ le 2 v ++ le 2 (unsigned 16 tj) ++ [0, 0] ++ le 4 mw)))) ∧
  (∀ (r : Nat) (s : State), 4 ≤ s.mode → r ≤ 8 → ∃ u, exec (.jtagTraceRegion r) s = .next u ∧ u.trace.jtagRegion = r ∧
    (∀ e rest, (s.region r).recs = e :: rest → u.trace.jtagNext = e.1) ∧ u.trace.regions = s.trace.regions ∧ u = { s.settle s with trace := u.trace }) ∧
  (∀ s : State, 4 ≤ s.mode → ∃ u, exec .jtagTraceRead s = .next u ∧ u.trace.regions = s.trace.regions ∧ u = { s.settle s with trace := u.trace } ∧
    (s.jtagRecord = none → u.trace.jtagData = 0 ∧ u.trace.jtagNext = s.trace.jtagNext) ∧
    (∀ e, s.jtagRecord = some e → u.trace.jtagData = 2 ^ 256 + ofLE e.2 ∧ u.trace.jtagNext = e.1 + 1)) ∧
  (∀ (code : Nat) (s : State), 4 ≤ s.mode → code ≠ 1 → code ≠ 0x1C → code ≠ 0x1D → exec (.jtagBypass code) s = .next (s.settle
    { s with trace := { s.trace with ir := code % 256, jtagData := 0 } }))

/-- The debug port reads IDCODE by its fields: VERSION is the low four bits of the compute die stepping, PART 0x8640, MANUFACTURER 0x6B3, and bit 0 is 1; a part of compute die
stepping 0x01 reads 0x1864_0D67 (R584). Nothing but the debug port's registers changes. Completes: JTAG_IDCODE. -/
def Obligations.DebugPortReadsTheIdcode : Prop :=
  ∀ s : State, 4 ≤ s.mode → ∃ u, exec .jtagIdcode s = .next u ∧
    (let v := u.trace.jtagData
     let stepping := bits (ofBE (fuseBytes 0x1000 4 2)) 11 8
     v < 2 ^ 32 ∧ bits v 31 28 = stepping ∧ bits v 27 12 = 0x8640 ∧ bits v 11 1 = 0x6B3 ∧ bits v 0 0 = 1 ∧ (stepping = 1 → v = 0x18640D67)) ∧
    u = s.settle { s with trace := { s.trace with ir := 1, jtagData := u.trace.jtagData } }

/-! ### Numbers -/

/-- A chunk of integer products whose exact addition to the accumulator lies outside INT32 leaves the accumulator at the nearer end of the range and raises INT_OVERFLOW; any other leaves
the exact sum. The chunks before it, however they ended, are what it adds to, and nothing but the operands decides (R137). -/
def Obligations.IntegerAccumulationSaturates : Prop :=
  ∀ (p : Pairing) (acc : Nat) (l : List (ScaledElem × ScaledElem)) (c : List (Int × Int)), p.int = true → acc < 2 ^ 32 → l.length % p.chunk = 0 →
    0 < c.length → c.length ≤ p.chunk →
    let before := accumulate p acc l
    let after := accumulate p acc (l ++ c.map fun e => ((ofInt e.1, Num.num 1 0), (ofInt e.2, Num.num 1 0)))
    let exact := signed 32 before.1 + (c.map fun e => e.1 * e.2).sum
    (exact < -2147483648 → signed 32 after.1 = -2147483648 ∧ after.2.intOverflow = true) ∧
    (2147483647 < exact → signed 32 after.1 = 2147483647 ∧ after.2.intOverflow = true) ∧
    (-2147483648 ≤ exact → exact ≤ 2147483647 → signed 32 after.1 = exact ∧ after.2 = before.2)
end

