-- ==== Sys2Proof/Laws/State.lean ====
section
/-! SUPPORT. One lemma per field per update of the state, true by computation, so that no proof unfolds a record update. -/

namespace Sys2Proof.Machine

/-! ### The end of a command -/

@[simp] theorem State.settle_pending (s n : State) : (s.settle n).pending = s.pending := rfl
@[simp] theorem State.settle_sent (s n : State) : (s.settle n).sent = n.sent := rfl
@[simp] theorem State.settle_freeCount (s n : State) : (s.settle n).freeCount = n.freeCount := rfl
@[simp] theorem State.settle_mode (s n : State) : (s.settle n).mode = n.mode := rfl
@[simp] theorem State.settle_serving (s n : State) : (s.settle n).serving = n.serving := rfl
@[simp] theorem State.settle_dict (s n : State) : (s.settle n).dict = n.dict := rfl
@[simp] theorem State.settle_errorLog (s n : State) : (s.settle n).errorLog = n.errorLog := rfl
@[simp] theorem State.settle_violationLog (s n : State) : (s.settle n).violationLog = n.violationLog := rfl
@[simp] theorem State.settle_refusalLog (s n : State) : (s.settle n).refusalLog = n.refusalLog := rfl
@[simp] theorem State.settle_svc (s n : State) : (s.settle n).svc = n.svc := rfl
@[simp] theorem State.settle_time (s n : State) : (s.settle n).time = n.time.hold := rfl
@[simp] theorem State.settle_slots (s n : State) : (s.settle n).slots = n.slots := rfl
@[simp] theorem State.settle_coreMapGen (s n : State) : (s.settle n).coreMapGen = n.coreMapGen := rfl
@[simp] theorem State.settle_replacing (s n : State) : (s.settle n).replacing = n.replacing := rfl
@[simp] theorem State.settle_accStreamKib (s n : State) : (s.settle n).accStreamKib = n.accStreamKib := rfl
@[simp] theorem State.settle_streamBytes (s n : State) : (s.settle n).streamBytes = n.streamBytes := rfl
@[simp] theorem State.settle_streams (s n : State) : (s.settle n).streams = n.streams := rfl
@[simp] theorem State.settle_parts (s n : State) : (s.settle n).parts = n.parts := rfl
@[simp] theorem State.settle_objects (s n : State) : (s.settle n).objects = n.objects := rfl
@[simp] theorem State.settle_objGens (s n : State) : (s.settle n).objGens = n.objGens := rfl
@[simp] theorem State.settle_trace (s n : State) : (s.settle n).trace = n.trace := rfl
@[simp] theorem State.settle_peer (s n : State) : (s.settle n).peer = n.peer := rfl
@[simp] theorem State.settle_keys (s n : State) : (s.settle n).keys = n.keys := rfl
@[simp] theorem State.settle_tileCapRefusals (s n : State) : (s.settle n).tileCapRefusals = n.tileCapRefusals := rfl
@[simp] theorem State.settle_tiers (s n : State) : (s.settle n).tiers = n.tiers := rfl
@[simp] theorem State.settle_ascend (s n : State) : (s.settle n).ascend = n.ascend := rfl
@[simp] theorem State.settle_afe (s n : State) : (s.settle n).afe = n.afe.hold := rfl
@[simp] theorem State.settle_net (s n : State) : (s.settle n).net = n.net := rfl
@[simp] theorem State.settle_image (s n : State) : (s.settle n).image = n.image := rfl
@[simp] theorem State.settle_power (s n : State) : (s.settle n).power = n.power := rfl
@[simp] theorem State.settle_cascade (s n : State) : (s.settle n).cascade = n.cascade := rfl
@[simp] theorem State.settle_sec (s n : State) : (s.settle n).sec = n.sec := rfl
@[simp] theorem State.settle_ras (s n : State) : (s.settle n).ras = n.ras := rfl

/-! ### modPower -/

@[simp] theorem State.modPower_pending (s : State) (f : Power → Power) : (s.modPower f).pending = s.pending := rfl
@[simp] theorem State.modPower_sent (s : State) (f : Power → Power) : (s.modPower f).sent = s.sent := rfl
@[simp] theorem State.modPower_freeCount (s : State) (f : Power → Power) : (s.modPower f).freeCount = s.freeCount := rfl
@[simp] theorem State.modPower_mode (s : State) (f : Power → Power) : (s.modPower f).mode = s.mode := rfl
@[simp] theorem State.modPower_serving (s : State) (f : Power → Power) : (s.modPower f).serving = s.serving := rfl
@[simp] theorem State.modPower_dict (s : State) (f : Power → Power) : (s.modPower f).dict = s.dict := rfl
@[simp] theorem State.modPower_errorLog (s : State) (f : Power → Power) : (s.modPower f).errorLog = s.errorLog := rfl
@[simp] theorem State.modPower_violationLog (s : State) (f : Power → Power) : (s.modPower f).violationLog = s.violationLog := rfl
@[simp] theorem State.modPower_refusalLog (s : State) (f : Power → Power) : (s.modPower f).refusalLog = s.refusalLog := rfl
@[simp] theorem State.modPower_svc (s : State) (f : Power → Power) : (s.modPower f).svc = s.svc := rfl
@[simp] theorem State.modPower_time (s : State) (f : Power → Power) : (s.modPower f).time = s.time := rfl
@[simp] theorem State.modPower_slots (s : State) (f : Power → Power) : (s.modPower f).slots = s.slots := rfl
@[simp] theorem State.modPower_coreMapGen (s : State) (f : Power → Power) : (s.modPower f).coreMapGen = s.coreMapGen := rfl
@[simp] theorem State.modPower_replacing (s : State) (f : Power → Power) : (s.modPower f).replacing = s.replacing := rfl
@[simp] theorem State.modPower_accStreamKib (s : State) (f : Power → Power) : (s.modPower f).accStreamKib = s.accStreamKib := rfl
@[simp] theorem State.modPower_streamBytes (s : State) (f : Power → Power) : (s.modPower f).streamBytes = s.streamBytes := rfl
@[simp] theorem State.modPower_streams (s : State) (f : Power → Power) : (s.modPower f).streams = s.streams := rfl
@[simp] theorem State.modPower_parts (s : State) (f : Power → Power) : (s.modPower f).parts = s.parts := rfl
@[simp] theorem State.modPower_objects (s : State) (f : Power → Power) : (s.modPower f).objects = s.objects := rfl
@[simp] theorem State.modPower_objGens (s : State) (f : Power → Power) : (s.modPower f).objGens = s.objGens := rfl
@[simp] theorem State.modPower_trace (s : State) (f : Power → Power) : (s.modPower f).trace = s.trace := rfl
@[simp] theorem State.modPower_peer (s : State) (f : Power → Power) : (s.modPower f).peer = s.peer := rfl
@[simp] theorem State.modPower_keys (s : State) (f : Power → Power) : (s.modPower f).keys = s.keys := rfl
@[simp] theorem State.modPower_tileCapRefusals (s : State) (f : Power → Power) : (s.modPower f).tileCapRefusals = s.tileCapRefusals := rfl
@[simp] theorem State.modPower_tiers (s : State) (f : Power → Power) : (s.modPower f).tiers = s.tiers := rfl
@[simp] theorem State.modPower_ascend (s : State) (f : Power → Power) : (s.modPower f).ascend = s.ascend := rfl
@[simp] theorem State.modPower_afe (s : State) (f : Power → Power) : (s.modPower f).afe = s.afe := rfl
@[simp] theorem State.modPower_net (s : State) (f : Power → Power) : (s.modPower f).net = s.net := rfl
@[simp] theorem State.modPower_image (s : State) (f : Power → Power) : (s.modPower f).image = s.image := rfl
@[simp] theorem State.modPower_cascade (s : State) (f : Power → Power) : (s.modPower f).cascade = s.cascade := rfl
@[simp] theorem State.modPower_sec (s : State) (f : Power → Power) : (s.modPower f).sec = s.sec := rfl
@[simp] theorem State.modPower_ras (s : State) (f : Power → Power) : (s.modPower f).ras = s.ras := rfl
@[simp] theorem State.modPower_power (s : State) (f : Power → Power) : (s.modPower f).power = f s.power := rfl

/-! ### modCascade -/

@[simp] theorem State.modCascade_pending (s : State) (f : Cascade → Cascade) : (s.modCascade f).pending = s.pending := rfl
@[simp] theorem State.modCascade_sent (s : State) (f : Cascade → Cascade) : (s.modCascade f).sent = s.sent := rfl
@[simp] theorem State.modCascade_freeCount (s : State) (f : Cascade → Cascade) : (s.modCascade f).freeCount = s.freeCount := rfl
@[simp] theorem State.modCascade_mode (s : State) (f : Cascade → Cascade) : (s.modCascade f).mode = s.mode := rfl
@[simp] theorem State.modCascade_serving (s : State) (f : Cascade → Cascade) : (s.modCascade f).serving = s.serving := rfl
@[simp] theorem State.modCascade_dict (s : State) (f : Cascade → Cascade) : (s.modCascade f).dict = s.dict := rfl
@[simp] theorem State.modCascade_errorLog (s : State) (f : Cascade → Cascade) : (s.modCascade f).errorLog = s.errorLog := rfl
@[simp] theorem State.modCascade_violationLog (s : State) (f : Cascade → Cascade) : (s.modCascade f).violationLog = s.violationLog := rfl
@[simp] theorem State.modCascade_refusalLog (s : State) (f : Cascade → Cascade) : (s.modCascade f).refusalLog = s.refusalLog := rfl
@[simp] theorem State.modCascade_svc (s : State) (f : Cascade → Cascade) : (s.modCascade f).svc = s.svc := rfl
@[simp] theorem State.modCascade_time (s : State) (f : Cascade → Cascade) : (s.modCascade f).time = s.time := rfl
@[simp] theorem State.modCascade_slots (s : State) (f : Cascade → Cascade) : (s.modCascade f).slots = s.slots := rfl
@[simp] theorem State.modCascade_coreMapGen (s : State) (f : Cascade → Cascade) : (s.modCascade f).coreMapGen = s.coreMapGen := rfl
@[simp] theorem State.modCascade_replacing (s : State) (f : Cascade → Cascade) : (s.modCascade f).replacing = s.replacing := rfl
@[simp] theorem State.modCascade_accStreamKib (s : State) (f : Cascade → Cascade) : (s.modCascade f).accStreamKib = s.accStreamKib := rfl
@[simp] theorem State.modCascade_streamBytes (s : State) (f : Cascade → Cascade) : (s.modCascade f).streamBytes = s.streamBytes := rfl
@[simp] theorem State.modCascade_streams (s : State) (f : Cascade → Cascade) : (s.modCascade f).streams = s.streams := rfl
@[simp] theorem State.modCascade_parts (s : State) (f : Cascade → Cascade) : (s.modCascade f).parts = s.parts := rfl
@[simp] theorem State.modCascade_objects (s : State) (f : Cascade → Cascade) : (s.modCascade f).objects = s.objects := rfl
@[simp] theorem State.modCascade_objGens (s : State) (f : Cascade → Cascade) : (s.modCascade f).objGens = s.objGens := rfl
@[simp] theorem State.modCascade_trace (s : State) (f : Cascade → Cascade) : (s.modCascade f).trace = s.trace := rfl
@[simp] theorem State.modCascade_peer (s : State) (f : Cascade → Cascade) : (s.modCascade f).peer = s.peer := rfl
@[simp] theorem State.modCascade_keys (s : State) (f : Cascade → Cascade) : (s.modCascade f).keys = s.keys := rfl
@[simp] theorem State.modCascade_tileCapRefusals (s : State) (f : Cascade → Cascade) : (s.modCascade f).tileCapRefusals = s.tileCapRefusals := rfl
@[simp] theorem State.modCascade_tiers (s : State) (f : Cascade → Cascade) : (s.modCascade f).tiers = s.tiers := rfl
@[simp] theorem State.modCascade_ascend (s : State) (f : Cascade → Cascade) : (s.modCascade f).ascend = s.ascend := rfl
@[simp] theorem State.modCascade_afe (s : State) (f : Cascade → Cascade) : (s.modCascade f).afe = s.afe := rfl
@[simp] theorem State.modCascade_net (s : State) (f : Cascade → Cascade) : (s.modCascade f).net = s.net := rfl
@[simp] theorem State.modCascade_image (s : State) (f : Cascade → Cascade) : (s.modCascade f).image = s.image := rfl
@[simp] theorem State.modCascade_power (s : State) (f : Cascade → Cascade) : (s.modCascade f).power = s.power := rfl
@[simp] theorem State.modCascade_sec (s : State) (f : Cascade → Cascade) : (s.modCascade f).sec = s.sec := rfl
@[simp] theorem State.modCascade_ras (s : State) (f : Cascade → Cascade) : (s.modCascade f).ras = s.ras := rfl
@[simp] theorem State.modCascade_cascade (s : State) (f : Cascade → Cascade) : (s.modCascade f).cascade = f s.cascade := rfl

/-! ### modAfe -/

@[simp] theorem State.modAfe_pending (s : State) (f : Afe → Afe) : (s.modAfe f).pending = s.pending := rfl
@[simp] theorem State.modAfe_sent (s : State) (f : Afe → Afe) : (s.modAfe f).sent = s.sent := rfl
@[simp] theorem State.modAfe_freeCount (s : State) (f : Afe → Afe) : (s.modAfe f).freeCount = s.freeCount := rfl
@[simp] theorem State.modAfe_mode (s : State) (f : Afe → Afe) : (s.modAfe f).mode = s.mode := rfl
@[simp] theorem State.modAfe_serving (s : State) (f : Afe → Afe) : (s.modAfe f).serving = s.serving := rfl
@[simp] theorem State.modAfe_dict (s : State) (f : Afe → Afe) : (s.modAfe f).dict = s.dict := rfl
@[simp] theorem State.modAfe_errorLog (s : State) (f : Afe → Afe) : (s.modAfe f).errorLog = s.errorLog := rfl
@[simp] theorem State.modAfe_violationLog (s : State) (f : Afe → Afe) : (s.modAfe f).violationLog = s.violationLog := rfl
@[simp] theorem State.modAfe_refusalLog (s : State) (f : Afe → Afe) : (s.modAfe f).refusalLog = s.refusalLog := rfl
@[simp] theorem State.modAfe_svc (s : State) (f : Afe → Afe) : (s.modAfe f).svc = s.svc := rfl
@[simp] theorem State.modAfe_time (s : State) (f : Afe → Afe) : (s.modAfe f).time = s.time := rfl
@[simp] theorem State.modAfe_slots (s : State) (f : Afe → Afe) : (s.modAfe f).slots = s.slots := rfl
@[simp] theorem State.modAfe_coreMapGen (s : State) (f : Afe → Afe) : (s.modAfe f).coreMapGen = s.coreMapGen := rfl
@[simp] theorem State.modAfe_replacing (s : State) (f : Afe → Afe) : (s.modAfe f).replacing = s.replacing := rfl
@[simp] theorem State.modAfe_accStreamKib (s : State) (f : Afe → Afe) : (s.modAfe f).accStreamKib = s.accStreamKib := rfl
@[simp] theorem State.modAfe_streamBytes (s : State) (f : Afe → Afe) : (s.modAfe f).streamBytes = s.streamBytes := rfl
@[simp] theorem State.modAfe_streams (s : State) (f : Afe → Afe) : (s.modAfe f).streams = s.streams := rfl
@[simp] theorem State.modAfe_parts (s : State) (f : Afe → Afe) : (s.modAfe f).parts = s.parts := rfl
@[simp] theorem State.modAfe_objects (s : State) (f : Afe → Afe) : (s.modAfe f).objects = s.objects := rfl
@[simp] theorem State.modAfe_objGens (s : State) (f : Afe → Afe) : (s.modAfe f).objGens = s.objGens := rfl
@[simp] theorem State.modAfe_trace (s : State) (f : Afe → Afe) : (s.modAfe f).trace = s.trace := rfl
@[simp] theorem State.modAfe_peer (s : State) (f : Afe → Afe) : (s.modAfe f).peer = s.peer := rfl
@[simp] theorem State.modAfe_keys (s : State) (f : Afe → Afe) : (s.modAfe f).keys = s.keys := rfl
@[simp] theorem State.modAfe_tileCapRefusals (s : State) (f : Afe → Afe) : (s.modAfe f).tileCapRefusals = s.tileCapRefusals := rfl
@[simp] theorem State.modAfe_tiers (s : State) (f : Afe → Afe) : (s.modAfe f).tiers = s.tiers := rfl
@[simp] theorem State.modAfe_ascend (s : State) (f : Afe → Afe) : (s.modAfe f).ascend = s.ascend := rfl
@[simp] theorem State.modAfe_net (s : State) (f : Afe → Afe) : (s.modAfe f).net = s.net := rfl
@[simp] theorem State.modAfe_image (s : State) (f : Afe → Afe) : (s.modAfe f).image = s.image := rfl
@[simp] theorem State.modAfe_power (s : State) (f : Afe → Afe) : (s.modAfe f).power = s.power := rfl
@[simp] theorem State.modAfe_cascade (s : State) (f : Afe → Afe) : (s.modAfe f).cascade = s.cascade := rfl
@[simp] theorem State.modAfe_sec (s : State) (f : Afe → Afe) : (s.modAfe f).sec = s.sec := rfl
@[simp] theorem State.modAfe_ras (s : State) (f : Afe → Afe) : (s.modAfe f).ras = s.ras := rfl
@[simp] theorem State.modAfe_afe (s : State) (f : Afe → Afe) : (s.modAfe f).afe = f s.afe := rfl

/-! ### modNet -/

@[simp] theorem State.modNet_pending (s : State) (f : Net → Net) : (s.modNet f).pending = s.pending := rfl
@[simp] theorem State.modNet_sent (s : State) (f : Net → Net) : (s.modNet f).sent = s.sent := rfl
@[simp] theorem State.modNet_freeCount (s : State) (f : Net → Net) : (s.modNet f).freeCount = s.freeCount := rfl
@[simp] theorem State.modNet_mode (s : State) (f : Net → Net) : (s.modNet f).mode = s.mode := rfl
@[simp] theorem State.modNet_serving (s : State) (f : Net → Net) : (s.modNet f).serving = s.serving := rfl
@[simp] theorem State.modNet_dict (s : State) (f : Net → Net) : (s.modNet f).dict = s.dict := rfl
@[simp] theorem State.modNet_errorLog (s : State) (f : Net → Net) : (s.modNet f).errorLog = s.errorLog := rfl
@[simp] theorem State.modNet_violationLog (s : State) (f : Net → Net) : (s.modNet f).violationLog = s.violationLog := rfl
@[simp] theorem State.modNet_refusalLog (s : State) (f : Net → Net) : (s.modNet f).refusalLog = s.refusalLog := rfl
@[simp] theorem State.modNet_svc (s : State) (f : Net → Net) : (s.modNet f).svc = s.svc := rfl
@[simp] theorem State.modNet_time (s : State) (f : Net → Net) : (s.modNet f).time = s.time := rfl
@[simp] theorem State.modNet_slots (s : State) (f : Net → Net) : (s.modNet f).slots = s.slots := rfl
@[simp] theorem State.modNet_coreMapGen (s : State) (f : Net → Net) : (s.modNet f).coreMapGen = s.coreMapGen := rfl
@[simp] theorem State.modNet_replacing (s : State) (f : Net → Net) : (s.modNet f).replacing = s.replacing := rfl
@[simp] theorem State.modNet_accStreamKib (s : State) (f : Net → Net) : (s.modNet f).accStreamKib = s.accStreamKib := rfl
@[simp] theorem State.modNet_streamBytes (s : State) (f : Net → Net) : (s.modNet f).streamBytes = s.streamBytes := rfl
@[simp] theorem State.modNet_streams (s : State) (f : Net → Net) : (s.modNet f).streams = s.streams := rfl
@[simp] theorem State.modNet_parts (s : State) (f : Net → Net) : (s.modNet f).parts = s.parts := rfl
@[simp] theorem State.modNet_objects (s : State) (f : Net → Net) : (s.modNet f).objects = s.objects := rfl
@[simp] theorem State.modNet_objGens (s : State) (f : Net → Net) : (s.modNet f).objGens = s.objGens := rfl
@[simp] theorem State.modNet_trace (s : State) (f : Net → Net) : (s.modNet f).trace = s.trace := rfl
@[simp] theorem State.modNet_peer (s : State) (f : Net → Net) : (s.modNet f).peer = s.peer := rfl
@[simp] theorem State.modNet_keys (s : State) (f : Net → Net) : (s.modNet f).keys = s.keys := rfl
@[simp] theorem State.modNet_tileCapRefusals (s : State) (f : Net → Net) : (s.modNet f).tileCapRefusals = s.tileCapRefusals := rfl
@[simp] theorem State.modNet_tiers (s : State) (f : Net → Net) : (s.modNet f).tiers = s.tiers := rfl
@[simp] theorem State.modNet_ascend (s : State) (f : Net → Net) : (s.modNet f).ascend = s.ascend := rfl
@[simp] theorem State.modNet_afe (s : State) (f : Net → Net) : (s.modNet f).afe = s.afe := rfl
@[simp] theorem State.modNet_image (s : State) (f : Net → Net) : (s.modNet f).image = s.image := rfl
@[simp] theorem State.modNet_power (s : State) (f : Net → Net) : (s.modNet f).power = s.power := rfl
@[simp] theorem State.modNet_cascade (s : State) (f : Net → Net) : (s.modNet f).cascade = s.cascade := rfl
@[simp] theorem State.modNet_sec (s : State) (f : Net → Net) : (s.modNet f).sec = s.sec := rfl
@[simp] theorem State.modNet_ras (s : State) (f : Net → Net) : (s.modNet f).ras = s.ras := rfl
@[simp] theorem State.modNet_net (s : State) (f : Net → Net) : (s.modNet f).net = f s.net := rfl

/-! ### modSvc -/

@[simp] theorem State.modSvc_pending (s : State) (f : Service → Service) : (s.modSvc f).pending = s.pending := rfl
@[simp] theorem State.modSvc_sent (s : State) (f : Service → Service) : (s.modSvc f).sent = s.sent := rfl
@[simp] theorem State.modSvc_freeCount (s : State) (f : Service → Service) : (s.modSvc f).freeCount = s.freeCount := rfl
@[simp] theorem State.modSvc_mode (s : State) (f : Service → Service) : (s.modSvc f).mode = s.mode := rfl
@[simp] theorem State.modSvc_serving (s : State) (f : Service → Service) : (s.modSvc f).serving = s.serving := rfl
@[simp] theorem State.modSvc_dict (s : State) (f : Service → Service) : (s.modSvc f).dict = s.dict := rfl
@[simp] theorem State.modSvc_errorLog (s : State) (f : Service → Service) : (s.modSvc f).errorLog = s.errorLog := rfl
@[simp] theorem State.modSvc_violationLog (s : State) (f : Service → Service) : (s.modSvc f).violationLog = s.violationLog := rfl
@[simp] theorem State.modSvc_refusalLog (s : State) (f : Service → Service) : (s.modSvc f).refusalLog = s.refusalLog := rfl
@[simp] theorem State.modSvc_time (s : State) (f : Service → Service) : (s.modSvc f).time = s.time := rfl
@[simp] theorem State.modSvc_slots (s : State) (f : Service → Service) : (s.modSvc f).slots = s.slots := rfl
@[simp] theorem State.modSvc_coreMapGen (s : State) (f : Service → Service) : (s.modSvc f).coreMapGen = s.coreMapGen := rfl
@[simp] theorem State.modSvc_replacing (s : State) (f : Service → Service) : (s.modSvc f).replacing = s.replacing := rfl
@[simp] theorem State.modSvc_accStreamKib (s : State) (f : Service → Service) : (s.modSvc f).accStreamKib = s.accStreamKib := rfl
@[simp] theorem State.modSvc_streamBytes (s : State) (f : Service → Service) : (s.modSvc f).streamBytes = s.streamBytes := rfl
@[simp] theorem State.modSvc_streams (s : State) (f : Service → Service) : (s.modSvc f).streams = s.streams := rfl
@[simp] theorem State.modSvc_parts (s : State) (f : Service → Service) : (s.modSvc f).parts = s.parts := rfl
@[simp] theorem State.modSvc_objects (s : State) (f : Service → Service) : (s.modSvc f).objects = s.objects := rfl
@[simp] theorem State.modSvc_objGens (s : State) (f : Service → Service) : (s.modSvc f).objGens = s.objGens := rfl
@[simp] theorem State.modSvc_trace (s : State) (f : Service → Service) : (s.modSvc f).trace = s.trace := rfl
@[simp] theorem State.modSvc_peer (s : State) (f : Service → Service) : (s.modSvc f).peer = s.peer := rfl
@[simp] theorem State.modSvc_keys (s : State) (f : Service → Service) : (s.modSvc f).keys = s.keys := rfl
@[simp] theorem State.modSvc_tileCapRefusals (s : State) (f : Service → Service) : (s.modSvc f).tileCapRefusals = s.tileCapRefusals := rfl
@[simp] theorem State.modSvc_tiers (s : State) (f : Service → Service) : (s.modSvc f).tiers = s.tiers := rfl
@[simp] theorem State.modSvc_ascend (s : State) (f : Service → Service) : (s.modSvc f).ascend = s.ascend := rfl
@[simp] theorem State.modSvc_afe (s : State) (f : Service → Service) : (s.modSvc f).afe = s.afe := rfl
@[simp] theorem State.modSvc_net (s : State) (f : Service → Service) : (s.modSvc f).net = s.net := rfl
@[simp] theorem State.modSvc_image (s : State) (f : Service → Service) : (s.modSvc f).image = s.image := rfl
@[simp] theorem State.modSvc_power (s : State) (f : Service → Service) : (s.modSvc f).power = s.power := rfl
@[simp] theorem State.modSvc_cascade (s : State) (f : Service → Service) : (s.modSvc f).cascade = s.cascade := rfl
@[simp] theorem State.modSvc_sec (s : State) (f : Service → Service) : (s.modSvc f).sec = s.sec := rfl
@[simp] theorem State.modSvc_ras (s : State) (f : Service → Service) : (s.modSvc f).ras = s.ras := rfl
@[simp] theorem State.modSvc_svc (s : State) (f : Service → Service) : (s.modSvc f).svc = f s.svc := rfl

/-! ### modTiers -/

@[simp] theorem State.modTiers_pending (s : State) (f : Tiers → Tiers) : (s.modTiers f).pending = s.pending := rfl
@[simp] theorem State.modTiers_sent (s : State) (f : Tiers → Tiers) : (s.modTiers f).sent = s.sent := rfl
@[simp] theorem State.modTiers_freeCount (s : State) (f : Tiers → Tiers) : (s.modTiers f).freeCount = s.freeCount := rfl
@[simp] theorem State.modTiers_mode (s : State) (f : Tiers → Tiers) : (s.modTiers f).mode = s.mode := rfl
@[simp] theorem State.modTiers_serving (s : State) (f : Tiers → Tiers) : (s.modTiers f).serving = s.serving := rfl
@[simp] theorem State.modTiers_dict (s : State) (f : Tiers → Tiers) : (s.modTiers f).dict = s.dict := rfl
@[simp] theorem State.modTiers_errorLog (s : State) (f : Tiers → Tiers) : (s.modTiers f).errorLog = s.errorLog := rfl
@[simp] theorem State.modTiers_violationLog (s : State) (f : Tiers → Tiers) : (s.modTiers f).violationLog = s.violationLog := rfl
@[simp] theorem State.modTiers_refusalLog (s : State) (f : Tiers → Tiers) : (s.modTiers f).refusalLog = s.refusalLog := rfl
@[simp] theorem State.modTiers_svc (s : State) (f : Tiers → Tiers) : (s.modTiers f).svc = s.svc := rfl
@[simp] theorem State.modTiers_time (s : State) (f : Tiers → Tiers) : (s.modTiers f).time = s.time := rfl
@[simp] theorem State.modTiers_slots (s : State) (f : Tiers → Tiers) : (s.modTiers f).slots = s.slots := rfl
@[simp] theorem State.modTiers_coreMapGen (s : State) (f : Tiers → Tiers) : (s.modTiers f).coreMapGen = s.coreMapGen := rfl
@[simp] theorem State.modTiers_replacing (s : State) (f : Tiers → Tiers) : (s.modTiers f).replacing = s.replacing := rfl
@[simp] theorem State.modTiers_accStreamKib (s : State) (f : Tiers → Tiers) : (s.modTiers f).accStreamKib = s.accStreamKib := rfl
@[simp] theorem State.modTiers_streamBytes (s : State) (f : Tiers → Tiers) : (s.modTiers f).streamBytes = s.streamBytes := rfl
@[simp] theorem State.modTiers_streams (s : State) (f : Tiers → Tiers) : (s.modTiers f).streams = s.streams := rfl
@[simp] theorem State.modTiers_parts (s : State) (f : Tiers → Tiers) : (s.modTiers f).parts = s.parts := rfl
@[simp] theorem State.modTiers_objects (s : State) (f : Tiers → Tiers) : (s.modTiers f).objects = s.objects := rfl
@[simp] theorem State.modTiers_objGens (s : State) (f : Tiers → Tiers) : (s.modTiers f).objGens = s.objGens := rfl
@[simp] theorem State.modTiers_trace (s : State) (f : Tiers → Tiers) : (s.modTiers f).trace = s.trace := rfl
@[simp] theorem State.modTiers_peer (s : State) (f : Tiers → Tiers) : (s.modTiers f).peer = s.peer := rfl
@[simp] theorem State.modTiers_keys (s : State) (f : Tiers → Tiers) : (s.modTiers f).keys = s.keys := rfl
@[simp] theorem State.modTiers_tileCapRefusals (s : State) (f : Tiers → Tiers) : (s.modTiers f).tileCapRefusals = s.tileCapRefusals := rfl
@[simp] theorem State.modTiers_ascend (s : State) (f : Tiers → Tiers) : (s.modTiers f).ascend = s.ascend := rfl
@[simp] theorem State.modTiers_afe (s : State) (f : Tiers → Tiers) : (s.modTiers f).afe = s.afe := rfl
@[simp] theorem State.modTiers_net (s : State) (f : Tiers → Tiers) : (s.modTiers f).net = s.net := rfl
@[simp] theorem State.modTiers_image (s : State) (f : Tiers → Tiers) : (s.modTiers f).image = s.image := rfl
@[simp] theorem State.modTiers_power (s : State) (f : Tiers → Tiers) : (s.modTiers f).power = s.power := rfl
@[simp] theorem State.modTiers_cascade (s : State) (f : Tiers → Tiers) : (s.modTiers f).cascade = s.cascade := rfl
@[simp] theorem State.modTiers_sec (s : State) (f : Tiers → Tiers) : (s.modTiers f).sec = s.sec := rfl
@[simp] theorem State.modTiers_ras (s : State) (f : Tiers → Tiers) : (s.modTiers f).ras = s.ras := rfl
@[simp] theorem State.modTiers_tiers (s : State) (f : Tiers → Tiers) : (s.modTiers f).tiers = f s.tiers := rfl

/-! ### modPeer -/

@[simp] theorem State.modPeer_pending (s : State) (f : Peers → Peers) : (s.modPeer f).pending = s.pending := rfl
@[simp] theorem State.modPeer_sent (s : State) (f : Peers → Peers) : (s.modPeer f).sent = s.sent := rfl
@[simp] theorem State.modPeer_freeCount (s : State) (f : Peers → Peers) : (s.modPeer f).freeCount = s.freeCount := rfl
@[simp] theorem State.modPeer_mode (s : State) (f : Peers → Peers) : (s.modPeer f).mode = s.mode := rfl
@[simp] theorem State.modPeer_serving (s : State) (f : Peers → Peers) : (s.modPeer f).serving = s.serving := rfl
@[simp] theorem State.modPeer_dict (s : State) (f : Peers → Peers) : (s.modPeer f).dict = s.dict := rfl
@[simp] theorem State.modPeer_errorLog (s : State) (f : Peers → Peers) : (s.modPeer f).errorLog = s.errorLog := rfl
@[simp] theorem State.modPeer_violationLog (s : State) (f : Peers → Peers) : (s.modPeer f).violationLog = s.violationLog := rfl
@[simp] theorem State.modPeer_refusalLog (s : State) (f : Peers → Peers) : (s.modPeer f).refusalLog = s.refusalLog := rfl
@[simp] theorem State.modPeer_svc (s : State) (f : Peers → Peers) : (s.modPeer f).svc = s.svc := rfl
@[simp] theorem State.modPeer_time (s : State) (f : Peers → Peers) : (s.modPeer f).time = s.time := rfl
@[simp] theorem State.modPeer_slots (s : State) (f : Peers → Peers) : (s.modPeer f).slots = s.slots := rfl
@[simp] theorem State.modPeer_coreMapGen (s : State) (f : Peers → Peers) : (s.modPeer f).coreMapGen = s.coreMapGen := rfl
@[simp] theorem State.modPeer_replacing (s : State) (f : Peers → Peers) : (s.modPeer f).replacing = s.replacing := rfl
@[simp] theorem State.modPeer_accStreamKib (s : State) (f : Peers → Peers) : (s.modPeer f).accStreamKib = s.accStreamKib := rfl
@[simp] theorem State.modPeer_streamBytes (s : State) (f : Peers → Peers) : (s.modPeer f).streamBytes = s.streamBytes := rfl
@[simp] theorem State.modPeer_streams (s : State) (f : Peers → Peers) : (s.modPeer f).streams = s.streams := rfl
@[simp] theorem State.modPeer_parts (s : State) (f : Peers → Peers) : (s.modPeer f).parts = s.parts := rfl
@[simp] theorem State.modPeer_objects (s : State) (f : Peers → Peers) : (s.modPeer f).objects = s.objects := rfl
@[simp] theorem State.modPeer_objGens (s : State) (f : Peers → Peers) : (s.modPeer f).objGens = s.objGens := rfl
@[simp] theorem State.modPeer_trace (s : State) (f : Peers → Peers) : (s.modPeer f).trace = s.trace := rfl
@[simp] theorem State.modPeer_keys (s : State) (f : Peers → Peers) : (s.modPeer f).keys = s.keys := rfl
@[simp] theorem State.modPeer_tileCapRefusals (s : State) (f : Peers → Peers) : (s.modPeer f).tileCapRefusals = s.tileCapRefusals := rfl
@[simp] theorem State.modPeer_tiers (s : State) (f : Peers → Peers) : (s.modPeer f).tiers = s.tiers := rfl
@[simp] theorem State.modPeer_ascend (s : State) (f : Peers → Peers) : (s.modPeer f).ascend = s.ascend := rfl
@[simp] theorem State.modPeer_afe (s : State) (f : Peers → Peers) : (s.modPeer f).afe = s.afe := rfl
@[simp] theorem State.modPeer_net (s : State) (f : Peers → Peers) : (s.modPeer f).net = s.net := rfl
@[simp] theorem State.modPeer_image (s : State) (f : Peers → Peers) : (s.modPeer f).image = s.image := rfl
@[simp] theorem State.modPeer_power (s : State) (f : Peers → Peers) : (s.modPeer f).power = s.power := rfl
@[simp] theorem State.modPeer_cascade (s : State) (f : Peers → Peers) : (s.modPeer f).cascade = s.cascade := rfl
@[simp] theorem State.modPeer_sec (s : State) (f : Peers → Peers) : (s.modPeer f).sec = s.sec := rfl
@[simp] theorem State.modPeer_ras (s : State) (f : Peers → Peers) : (s.modPeer f).ras = s.ras := rfl
@[simp] theorem State.modPeer_peer (s : State) (f : Peers → Peers) : (s.modPeer f).peer = f s.peer := rfl

/-! ### modRas -/

@[simp] theorem State.modRas_pending (s : State) (f : Ras → Ras) : (s.modRas f).pending = s.pending := rfl
@[simp] theorem State.modRas_sent (s : State) (f : Ras → Ras) : (s.modRas f).sent = s.sent := rfl
@[simp] theorem State.modRas_freeCount (s : State) (f : Ras → Ras) : (s.modRas f).freeCount = s.freeCount := rfl
@[simp] theorem State.modRas_mode (s : State) (f : Ras → Ras) : (s.modRas f).mode = s.mode := rfl
@[simp] theorem State.modRas_serving (s : State) (f : Ras → Ras) : (s.modRas f).serving = s.serving := rfl
@[simp] theorem State.modRas_dict (s : State) (f : Ras → Ras) : (s.modRas f).dict = s.dict := rfl
@[simp] theorem State.modRas_errorLog (s : State) (f : Ras → Ras) : (s.modRas f).errorLog = s.errorLog := rfl
@[simp] theorem State.modRas_violationLog (s : State) (f : Ras → Ras) : (s.modRas f).violationLog = s.violationLog := rfl
@[simp] theorem State.modRas_refusalLog (s : State) (f : Ras → Ras) : (s.modRas f).refusalLog = s.refusalLog := rfl
@[simp] theorem State.modRas_svc (s : State) (f : Ras → Ras) : (s.modRas f).svc = s.svc := rfl
@[simp] theorem State.modRas_time (s : State) (f : Ras → Ras) : (s.modRas f).time = s.time := rfl
@[simp] theorem State.modRas_slots (s : State) (f : Ras → Ras) : (s.modRas f).slots = s.slots := rfl
@[simp] theorem State.modRas_coreMapGen (s : State) (f : Ras → Ras) : (s.modRas f).coreMapGen = s.coreMapGen := rfl
@[simp] theorem State.modRas_replacing (s : State) (f : Ras → Ras) : (s.modRas f).replacing = s.replacing := rfl
@[simp] theorem State.modRas_accStreamKib (s : State) (f : Ras → Ras) : (s.modRas f).accStreamKib = s.accStreamKib := rfl
@[simp] theorem State.modRas_streamBytes (s : State) (f : Ras → Ras) : (s.modRas f).streamBytes = s.streamBytes := rfl
@[simp] theorem State.modRas_streams (s : State) (f : Ras → Ras) : (s.modRas f).streams = s.streams := rfl
@[simp] theorem State.modRas_parts (s : State) (f : Ras → Ras) : (s.modRas f).parts = s.parts := rfl
@[simp] theorem State.modRas_objects (s : State) (f : Ras → Ras) : (s.modRas f).objects = s.objects := rfl
@[simp] theorem State.modRas_objGens (s : State) (f : Ras → Ras) : (s.modRas f).objGens = s.objGens := rfl
@[simp] theorem State.modRas_trace (s : State) (f : Ras → Ras) : (s.modRas f).trace = s.trace := rfl
@[simp] theorem State.modRas_peer (s : State) (f : Ras → Ras) : (s.modRas f).peer = s.peer := rfl
@[simp] theorem State.modRas_keys (s : State) (f : Ras → Ras) : (s.modRas f).keys = s.keys := rfl
@[simp] theorem State.modRas_tileCapRefusals (s : State) (f : Ras → Ras) : (s.modRas f).tileCapRefusals = s.tileCapRefusals := rfl
@[simp] theorem State.modRas_tiers (s : State) (f : Ras → Ras) : (s.modRas f).tiers = s.tiers := rfl
@[simp] theorem State.modRas_ascend (s : State) (f : Ras → Ras) : (s.modRas f).ascend = s.ascend := rfl
@[simp] theorem State.modRas_afe (s : State) (f : Ras → Ras) : (s.modRas f).afe = s.afe := rfl
@[simp] theorem State.modRas_net (s : State) (f : Ras → Ras) : (s.modRas f).net = s.net := rfl
@[simp] theorem State.modRas_image (s : State) (f : Ras → Ras) : (s.modRas f).image = s.image := rfl
@[simp] theorem State.modRas_power (s : State) (f : Ras → Ras) : (s.modRas f).power = s.power := rfl
@[simp] theorem State.modRas_cascade (s : State) (f : Ras → Ras) : (s.modRas f).cascade = s.cascade := rfl
@[simp] theorem State.modRas_sec (s : State) (f : Ras → Ras) : (s.modRas f).sec = s.sec := rfl
@[simp] theorem State.modRas_ras (s : State) (f : Ras → Ras) : (s.modRas f).ras = f s.ras := rfl

/-! ### modSec -/

@[simp] theorem State.modSec_pending (s : State) (f : Security → Security) : (s.modSec f).pending = s.pending := rfl
@[simp] theorem State.modSec_sent (s : State) (f : Security → Security) : (s.modSec f).sent = s.sent := rfl
@[simp] theorem State.modSec_freeCount (s : State) (f : Security → Security) : (s.modSec f).freeCount = s.freeCount := rfl
@[simp] theorem State.modSec_mode (s : State) (f : Security → Security) : (s.modSec f).mode = s.mode := rfl
@[simp] theorem State.modSec_serving (s : State) (f : Security → Security) : (s.modSec f).serving = s.serving := rfl
@[simp] theorem State.modSec_dict (s : State) (f : Security → Security) : (s.modSec f).dict = s.dict := rfl
@[simp] theorem State.modSec_errorLog (s : State) (f : Security → Security) : (s.modSec f).errorLog = s.errorLog := rfl
@[simp] theorem State.modSec_violationLog (s : State) (f : Security → Security) : (s.modSec f).violationLog = s.violationLog := rfl
@[simp] theorem State.modSec_refusalLog (s : State) (f : Security → Security) : (s.modSec f).refusalLog = s.refusalLog := rfl
@[simp] theorem State.modSec_svc (s : State) (f : Security → Security) : (s.modSec f).svc = s.svc := rfl
@[simp] theorem State.modSec_time (s : State) (f : Security → Security) : (s.modSec f).time = s.time := rfl
@[simp] theorem State.modSec_slots (s : State) (f : Security → Security) : (s.modSec f).slots = s.slots := rfl
@[simp] theorem State.modSec_coreMapGen (s : State) (f : Security → Security) : (s.modSec f).coreMapGen = s.coreMapGen := rfl
@[simp] theorem State.modSec_replacing (s : State) (f : Security → Security) : (s.modSec f).replacing = s.replacing := rfl
@[simp] theorem State.modSec_accStreamKib (s : State) (f : Security → Security) : (s.modSec f).accStreamKib = s.accStreamKib := rfl
@[simp] theorem State.modSec_streamBytes (s : State) (f : Security → Security) : (s.modSec f).streamBytes = s.streamBytes := rfl
@[simp] theorem State.modSec_streams (s : State) (f : Security → Security) : (s.modSec f).streams = s.streams := rfl
@[simp] theorem State.modSec_parts (s : State) (f : Security → Security) : (s.modSec f).parts = s.parts := rfl
@[simp] theorem State.modSec_objects (s : State) (f : Security → Security) : (s.modSec f).objects = s.objects := rfl
@[simp] theorem State.modSec_objGens (s : State) (f : Security → Security) : (s.modSec f).objGens = s.objGens := rfl
@[simp] theorem State.modSec_trace (s : State) (f : Security → Security) : (s.modSec f).trace = s.trace := rfl
@[simp] theorem State.modSec_peer (s : State) (f : Security → Security) : (s.modSec f).peer = s.peer := rfl
@[simp] theorem State.modSec_keys (s : State) (f : Security → Security) : (s.modSec f).keys = s.keys := rfl
@[simp] theorem State.modSec_tileCapRefusals (s : State) (f : Security → Security) : (s.modSec f).tileCapRefusals = s.tileCapRefusals := rfl
@[simp] theorem State.modSec_tiers (s : State) (f : Security → Security) : (s.modSec f).tiers = s.tiers := rfl
@[simp] theorem State.modSec_ascend (s : State) (f : Security → Security) : (s.modSec f).ascend = s.ascend := rfl
@[simp] theorem State.modSec_afe (s : State) (f : Security → Security) : (s.modSec f).afe = s.afe := rfl
@[simp] theorem State.modSec_net (s : State) (f : Security → Security) : (s.modSec f).net = s.net := rfl
@[simp] theorem State.modSec_image (s : State) (f : Security → Security) : (s.modSec f).image = s.image := rfl
@[simp] theorem State.modSec_power (s : State) (f : Security → Security) : (s.modSec f).power = s.power := rfl
@[simp] theorem State.modSec_cascade (s : State) (f : Security → Security) : (s.modSec f).cascade = s.cascade := rfl
@[simp] theorem State.modSec_ras (s : State) (f : Security → Security) : (s.modSec f).ras = s.ras := rfl
@[simp] theorem State.modSec_sec (s : State) (f : Security → Security) : (s.modSec f).sec = f s.sec := rfl

/-! ### modTrace -/

@[simp] theorem State.modTrace_pending (s : State) (f : TraceHub → TraceHub) : (s.modTrace f).pending = s.pending := rfl
@[simp] theorem State.modTrace_sent (s : State) (f : TraceHub → TraceHub) : (s.modTrace f).sent = s.sent := rfl
@[simp] theorem State.modTrace_freeCount (s : State) (f : TraceHub → TraceHub) : (s.modTrace f).freeCount = s.freeCount := rfl
@[simp] theorem State.modTrace_mode (s : State) (f : TraceHub → TraceHub) : (s.modTrace f).mode = s.mode := rfl
@[simp] theorem State.modTrace_serving (s : State) (f : TraceHub → TraceHub) : (s.modTrace f).serving = s.serving := rfl
@[simp] theorem State.modTrace_dict (s : State) (f : TraceHub → TraceHub) : (s.modTrace f).dict = s.dict := rfl
@[simp] theorem State.modTrace_errorLog (s : State) (f : TraceHub → TraceHub) : (s.modTrace f).errorLog = s.errorLog := rfl
@[simp] theorem State.modTrace_violationLog (s : State) (f : TraceHub → TraceHub) : (s.modTrace f).violationLog = s.violationLog := rfl
@[simp] theorem State.modTrace_refusalLog (s : State) (f : TraceHub → TraceHub) : (s.modTrace f).refusalLog = s.refusalLog := rfl
@[simp] theorem State.modTrace_svc (s : State) (f : TraceHub → TraceHub) : (s.modTrace f).svc = s.svc := rfl
@[simp] theorem State.modTrace_time (s : State) (f : TraceHub → TraceHub) : (s.modTrace f).time = s.time := rfl
@[simp] theorem State.modTrace_slots (s : State) (f : TraceHub → TraceHub) : (s.modTrace f).slots = s.slots := rfl
@[simp] theorem State.modTrace_coreMapGen (s : State) (f : TraceHub → TraceHub) : (s.modTrace f).coreMapGen = s.coreMapGen := rfl
@[simp] theorem State.modTrace_replacing (s : State) (f : TraceHub → TraceHub) : (s.modTrace f).replacing = s.replacing := rfl
@[simp] theorem State.modTrace_accStreamKib (s : State) (f : TraceHub → TraceHub) : (s.modTrace f).accStreamKib = s.accStreamKib := rfl
@[simp] theorem State.modTrace_streamBytes (s : State) (f : TraceHub → TraceHub) : (s.modTrace f).streamBytes = s.streamBytes := rfl
@[simp] theorem State.modTrace_streams (s : State) (f : TraceHub → TraceHub) : (s.modTrace f).streams = s.streams := rfl
@[simp] theorem State.modTrace_parts (s : State) (f : TraceHub → TraceHub) : (s.modTrace f).parts = s.parts := rfl
@[simp] theorem State.modTrace_objects (s : State) (f : TraceHub → TraceHub) : (s.modTrace f).objects = s.objects := rfl
@[simp] theorem State.modTrace_objGens (s : State) (f : TraceHub → TraceHub) : (s.modTrace f).objGens = s.objGens := rfl
@[simp] theorem State.modTrace_peer (s : State) (f : TraceHub → TraceHub) : (s.modTrace f).peer = s.peer := rfl
@[simp] theorem State.modTrace_keys (s : State) (f : TraceHub → TraceHub) : (s.modTrace f).keys = s.keys := rfl
@[simp] theorem State.modTrace_tileCapRefusals (s : State) (f : TraceHub → TraceHub) : (s.modTrace f).tileCapRefusals = s.tileCapRefusals := rfl
@[simp] theorem State.modTrace_tiers (s : State) (f : TraceHub → TraceHub) : (s.modTrace f).tiers = s.tiers := rfl
@[simp] theorem State.modTrace_ascend (s : State) (f : TraceHub → TraceHub) : (s.modTrace f).ascend = s.ascend := rfl
@[simp] theorem State.modTrace_afe (s : State) (f : TraceHub → TraceHub) : (s.modTrace f).afe = s.afe := rfl
@[simp] theorem State.modTrace_net (s : State) (f : TraceHub → TraceHub) : (s.modTrace f).net = s.net := rfl
@[simp] theorem State.modTrace_image (s : State) (f : TraceHub → TraceHub) : (s.modTrace f).image = s.image := rfl
@[simp] theorem State.modTrace_power (s : State) (f : TraceHub → TraceHub) : (s.modTrace f).power = s.power := rfl
@[simp] theorem State.modTrace_cascade (s : State) (f : TraceHub → TraceHub) : (s.modTrace f).cascade = s.cascade := rfl
@[simp] theorem State.modTrace_sec (s : State) (f : TraceHub → TraceHub) : (s.modTrace f).sec = s.sec := rfl
@[simp] theorem State.modTrace_ras (s : State) (f : TraceHub → TraceHub) : (s.modTrace f).ras = s.ras := rfl
@[simp] theorem State.modTrace_trace (s : State) (f : TraceHub → TraceHub) : (s.modTrace f).trace = f s.trace := rfl

/-! ### send -/

@[simp] theorem State.send_pending (s : State) (x : Sent) : (s.send x).pending = s.pending := rfl
@[simp] theorem State.send_freeCount (s : State) (x : Sent) : (s.send x).freeCount = s.freeCount := rfl
@[simp] theorem State.send_mode (s : State) (x : Sent) : (s.send x).mode = s.mode := rfl
@[simp] theorem State.send_serving (s : State) (x : Sent) : (s.send x).serving = s.serving := rfl
@[simp] theorem State.send_dict (s : State) (x : Sent) : (s.send x).dict = s.dict := rfl
@[simp] theorem State.send_errorLog (s : State) (x : Sent) : (s.send x).errorLog = s.errorLog := rfl
@[simp] theorem State.send_violationLog (s : State) (x : Sent) : (s.send x).violationLog = s.violationLog := rfl
@[simp] theorem State.send_refusalLog (s : State) (x : Sent) : (s.send x).refusalLog = s.refusalLog := rfl
@[simp] theorem State.send_svc (s : State) (x : Sent) : (s.send x).svc = s.svc := rfl
@[simp] theorem State.send_time (s : State) (x : Sent) : (s.send x).time = s.time := rfl
@[simp] theorem State.send_slots (s : State) (x : Sent) : (s.send x).slots = s.slots := rfl
@[simp] theorem State.send_coreMapGen (s : State) (x : Sent) : (s.send x).coreMapGen = s.coreMapGen := rfl
@[simp] theorem State.send_replacing (s : State) (x : Sent) : (s.send x).replacing = s.replacing := rfl
@[simp] theorem State.send_accStreamKib (s : State) (x : Sent) : (s.send x).accStreamKib = s.accStreamKib := rfl
@[simp] theorem State.send_streamBytes (s : State) (x : Sent) : (s.send x).streamBytes = s.streamBytes := rfl
@[simp] theorem State.send_streams (s : State) (x : Sent) : (s.send x).streams = s.streams := rfl
@[simp] theorem State.send_parts (s : State) (x : Sent) : (s.send x).parts = s.parts := rfl
@[simp] theorem State.send_objects (s : State) (x : Sent) : (s.send x).objects = s.objects := rfl
@[simp] theorem State.send_objGens (s : State) (x : Sent) : (s.send x).objGens = s.objGens := rfl
@[simp] theorem State.send_trace (s : State) (x : Sent) : (s.send x).trace = s.trace := rfl
@[simp] theorem State.send_peer (s : State) (x : Sent) : (s.send x).peer = s.peer := rfl
@[simp] theorem State.send_keys (s : State) (x : Sent) : (s.send x).keys = s.keys := rfl
@[simp] theorem State.send_tileCapRefusals (s : State) (x : Sent) : (s.send x).tileCapRefusals = s.tileCapRefusals := rfl
@[simp] theorem State.send_tiers (s : State) (x : Sent) : (s.send x).tiers = s.tiers := rfl
@[simp] theorem State.send_ascend (s : State) (x : Sent) : (s.send x).ascend = s.ascend := rfl
@[simp] theorem State.send_afe (s : State) (x : Sent) : (s.send x).afe = s.afe := rfl
@[simp] theorem State.send_net (s : State) (x : Sent) : (s.send x).net = s.net := rfl
@[simp] theorem State.send_image (s : State) (x : Sent) : (s.send x).image = s.image := rfl
@[simp] theorem State.send_power (s : State) (x : Sent) : (s.send x).power = s.power := rfl
@[simp] theorem State.send_cascade (s : State) (x : Sent) : (s.send x).cascade = s.cascade := rfl
@[simp] theorem State.send_sec (s : State) (x : Sent) : (s.send x).sec = s.sec := rfl
@[simp] theorem State.send_ras (s : State) (x : Sent) : (s.send x).ras = s.ras := rfl
@[simp] theorem State.send_sent (s : State) (x : Sent) : (s.send x).sent = x :: s.sent := rfl

/-! ### countPower -/

@[simp] theorem State.countPower_pending (s : State) (i : Nat) : (s.countPower i).pending = s.pending := rfl
@[simp] theorem State.countPower_sent (s : State) (i : Nat) : (s.countPower i).sent = s.sent := rfl
@[simp] theorem State.countPower_freeCount (s : State) (i : Nat) : (s.countPower i).freeCount = s.freeCount := rfl
@[simp] theorem State.countPower_mode (s : State) (i : Nat) : (s.countPower i).mode = s.mode := rfl
@[simp] theorem State.countPower_serving (s : State) (i : Nat) : (s.countPower i).serving = s.serving := rfl
@[simp] theorem State.countPower_dict (s : State) (i : Nat) : (s.countPower i).dict = s.dict := rfl
@[simp] theorem State.countPower_errorLog (s : State) (i : Nat) : (s.countPower i).errorLog = s.errorLog := rfl
@[simp] theorem State.countPower_violationLog (s : State) (i : Nat) : (s.countPower i).violationLog = s.violationLog := rfl
@[simp] theorem State.countPower_refusalLog (s : State) (i : Nat) : (s.countPower i).refusalLog = s.refusalLog := rfl
@[simp] theorem State.countPower_svc (s : State) (i : Nat) : (s.countPower i).svc = s.svc := rfl
@[simp] theorem State.countPower_time (s : State) (i : Nat) : (s.countPower i).time = s.time := rfl
@[simp] theorem State.countPower_slots (s : State) (i : Nat) : (s.countPower i).slots = s.slots := rfl
@[simp] theorem State.countPower_coreMapGen (s : State) (i : Nat) : (s.countPower i).coreMapGen = s.coreMapGen := rfl
@[simp] theorem State.countPower_replacing (s : State) (i : Nat) : (s.countPower i).replacing = s.replacing := rfl
@[simp] theorem State.countPower_accStreamKib (s : State) (i : Nat) : (s.countPower i).accStreamKib = s.accStreamKib := rfl
@[simp] theorem State.countPower_streamBytes (s : State) (i : Nat) : (s.countPower i).streamBytes = s.streamBytes := rfl
@[simp] theorem State.countPower_streams (s : State) (i : Nat) : (s.countPower i).streams = s.streams := rfl
@[simp] theorem State.countPower_parts (s : State) (i : Nat) : (s.countPower i).parts = s.parts := rfl
@[simp] theorem State.countPower_objects (s : State) (i : Nat) : (s.countPower i).objects = s.objects := rfl
@[simp] theorem State.countPower_objGens (s : State) (i : Nat) : (s.countPower i).objGens = s.objGens := rfl
@[simp] theorem State.countPower_trace (s : State) (i : Nat) : (s.countPower i).trace = s.trace := rfl
@[simp] theorem State.countPower_peer (s : State) (i : Nat) : (s.countPower i).peer = s.peer := rfl
@[simp] theorem State.countPower_keys (s : State) (i : Nat) : (s.countPower i).keys = s.keys := rfl
@[simp] theorem State.countPower_tileCapRefusals (s : State) (i : Nat) : (s.countPower i).tileCapRefusals = s.tileCapRefusals := rfl
@[simp] theorem State.countPower_tiers (s : State) (i : Nat) : (s.countPower i).tiers = s.tiers := rfl
@[simp] theorem State.countPower_ascend (s : State) (i : Nat) : (s.countPower i).ascend = s.ascend := rfl
@[simp] theorem State.countPower_afe (s : State) (i : Nat) : (s.countPower i).afe = s.afe := rfl
@[simp] theorem State.countPower_net (s : State) (i : Nat) : (s.countPower i).net = s.net := rfl
@[simp] theorem State.countPower_image (s : State) (i : Nat) : (s.countPower i).image = s.image := rfl
@[simp] theorem State.countPower_cascade (s : State) (i : Nat) : (s.countPower i).cascade = s.cascade := rfl
@[simp] theorem State.countPower_sec (s : State) (i : Nat) : (s.countPower i).sec = s.sec := rfl
@[simp] theorem State.countPower_ras (s : State) (i : Nat) : (s.countPower i).ras = s.ras := rfl

/-! ### countOnnum -/

@[simp] theorem State.countOnnum_pending (s : State) (i : Nat) : (s.countOnnum i).pending = s.pending := rfl
@[simp] theorem State.countOnnum_sent (s : State) (i : Nat) : (s.countOnnum i).sent = s.sent := rfl
@[simp] theorem State.countOnnum_freeCount (s : State) (i : Nat) : (s.countOnnum i).freeCount = s.freeCount := rfl
@[simp] theorem State.countOnnum_mode (s : State) (i : Nat) : (s.countOnnum i).mode = s.mode := rfl
@[simp] theorem State.countOnnum_serving (s : State) (i : Nat) : (s.countOnnum i).serving = s.serving := rfl
@[simp] theorem State.countOnnum_dict (s : State) (i : Nat) : (s.countOnnum i).dict = s.dict := rfl
@[simp] theorem State.countOnnum_errorLog (s : State) (i : Nat) : (s.countOnnum i).errorLog = s.errorLog := rfl
@[simp] theorem State.countOnnum_violationLog (s : State) (i : Nat) : (s.countOnnum i).violationLog = s.violationLog := rfl
@[simp] theorem State.countOnnum_refusalLog (s : State) (i : Nat) : (s.countOnnum i).refusalLog = s.refusalLog := rfl
@[simp] theorem State.countOnnum_time (s : State) (i : Nat) : (s.countOnnum i).time = s.time := rfl
@[simp] theorem State.countOnnum_slots (s : State) (i : Nat) : (s.countOnnum i).slots = s.slots := rfl
@[simp] theorem State.countOnnum_coreMapGen (s : State) (i : Nat) : (s.countOnnum i).coreMapGen = s.coreMapGen := rfl
@[simp] theorem State.countOnnum_replacing (s : State) (i : Nat) : (s.countOnnum i).replacing = s.replacing := rfl
@[simp] theorem State.countOnnum_accStreamKib (s : State) (i : Nat) : (s.countOnnum i).accStreamKib = s.accStreamKib := rfl
@[simp] theorem State.countOnnum_streamBytes (s : State) (i : Nat) : (s.countOnnum i).streamBytes = s.streamBytes := rfl
@[simp] theorem State.countOnnum_streams (s : State) (i : Nat) : (s.countOnnum i).streams = s.streams := rfl
@[simp] theorem State.countOnnum_parts (s : State) (i : Nat) : (s.countOnnum i).parts = s.parts := rfl
@[simp] theorem State.countOnnum_objects (s : State) (i : Nat) : (s.countOnnum i).objects = s.objects := rfl
@[simp] theorem State.countOnnum_objGens (s : State) (i : Nat) : (s.countOnnum i).objGens = s.objGens := rfl
@[simp] theorem State.countOnnum_trace (s : State) (i : Nat) : (s.countOnnum i).trace = s.trace := rfl
@[simp] theorem State.countOnnum_peer (s : State) (i : Nat) : (s.countOnnum i).peer = s.peer := rfl
@[simp] theorem State.countOnnum_keys (s : State) (i : Nat) : (s.countOnnum i).keys = s.keys := rfl
@[simp] theorem State.countOnnum_tileCapRefusals (s : State) (i : Nat) : (s.countOnnum i).tileCapRefusals = s.tileCapRefusals := rfl
@[simp] theorem State.countOnnum_tiers (s : State) (i : Nat) : (s.countOnnum i).tiers = s.tiers := rfl
@[simp] theorem State.countOnnum_ascend (s : State) (i : Nat) : (s.countOnnum i).ascend = s.ascend := rfl
@[simp] theorem State.countOnnum_afe (s : State) (i : Nat) : (s.countOnnum i).afe = s.afe := rfl
@[simp] theorem State.countOnnum_net (s : State) (i : Nat) : (s.countOnnum i).net = s.net := rfl
@[simp] theorem State.countOnnum_image (s : State) (i : Nat) : (s.countOnnum i).image = s.image := rfl
@[simp] theorem State.countOnnum_power (s : State) (i : Nat) : (s.countOnnum i).power = s.power := rfl
@[simp] theorem State.countOnnum_cascade (s : State) (i : Nat) : (s.countOnnum i).cascade = s.cascade := rfl
@[simp] theorem State.countOnnum_sec (s : State) (i : Nat) : (s.countOnnum i).sec = s.sec := rfl
@[simp] theorem State.countOnnum_ras (s : State) (i : Nat) : (s.countOnnum i).ras = s.ras := rfl

/-! ### modSlot -/

@[simp] theorem State.modSlot_pending (s : State) (n : Nat) (f : Slot → Slot) : (s.modSlot n f).pending = s.pending := rfl
@[simp] theorem State.modSlot_sent (s : State) (n : Nat) (f : Slot → Slot) : (s.modSlot n f).sent = s.sent := rfl
@[simp] theorem State.modSlot_freeCount (s : State) (n : Nat) (f : Slot → Slot) : (s.modSlot n f).freeCount = s.freeCount := rfl
@[simp] theorem State.modSlot_mode (s : State) (n : Nat) (f : Slot → Slot) : (s.modSlot n f).mode = s.mode := rfl
@[simp] theorem State.modSlot_serving (s : State) (n : Nat) (f : Slot → Slot) : (s.modSlot n f).serving = s.serving := rfl
@[simp] theorem State.modSlot_dict (s : State) (n : Nat) (f : Slot → Slot) : (s.modSlot n f).dict = s.dict := rfl
@[simp] theorem State.modSlot_errorLog (s : State) (n : Nat) (f : Slot → Slot) : (s.modSlot n f).errorLog = s.errorLog := rfl
@[simp] theorem State.modSlot_violationLog (s : State) (n : Nat) (f : Slot → Slot) : (s.modSlot n f).violationLog = s.violationLog := rfl
@[simp] theorem State.modSlot_refusalLog (s : State) (n : Nat) (f : Slot → Slot) : (s.modSlot n f).refusalLog = s.refusalLog := rfl
@[simp] theorem State.modSlot_svc (s : State) (n : Nat) (f : Slot → Slot) : (s.modSlot n f).svc = s.svc := rfl
@[simp] theorem State.modSlot_time (s : State) (n : Nat) (f : Slot → Slot) : (s.modSlot n f).time = s.time := rfl
@[simp] theorem State.modSlot_coreMapGen (s : State) (n : Nat) (f : Slot → Slot) : (s.modSlot n f).coreMapGen = s.coreMapGen := rfl
@[simp] theorem State.modSlot_replacing (s : State) (n : Nat) (f : Slot → Slot) : (s.modSlot n f).replacing = s.replacing := rfl
@[simp] theorem State.modSlot_accStreamKib (s : State) (n : Nat) (f : Slot → Slot) : (s.modSlot n f).accStreamKib = s.accStreamKib := rfl
@[simp] theorem State.modSlot_streamBytes (s : State) (n : Nat) (f : Slot → Slot) : (s.modSlot n f).streamBytes = s.streamBytes := rfl
@[simp] theorem State.modSlot_streams (s : State) (n : Nat) (f : Slot → Slot) : (s.modSlot n f).streams = s.streams := rfl
@[simp] theorem State.modSlot_parts (s : State) (n : Nat) (f : Slot → Slot) : (s.modSlot n f).parts = s.parts := rfl
@[simp] theorem State.modSlot_objects (s : State) (n : Nat) (f : Slot → Slot) : (s.modSlot n f).objects = s.objects := rfl
@[simp] theorem State.modSlot_objGens (s : State) (n : Nat) (f : Slot → Slot) : (s.modSlot n f).objGens = s.objGens := rfl
@[simp] theorem State.modSlot_trace (s : State) (n : Nat) (f : Slot → Slot) : (s.modSlot n f).trace = s.trace := rfl
@[simp] theorem State.modSlot_peer (s : State) (n : Nat) (f : Slot → Slot) : (s.modSlot n f).peer = s.peer := rfl
@[simp] theorem State.modSlot_keys (s : State) (n : Nat) (f : Slot → Slot) : (s.modSlot n f).keys = s.keys := rfl
@[simp] theorem State.modSlot_tileCapRefusals (s : State) (n : Nat) (f : Slot → Slot) : (s.modSlot n f).tileCapRefusals = s.tileCapRefusals := rfl
@[simp] theorem State.modSlot_tiers (s : State) (n : Nat) (f : Slot → Slot) : (s.modSlot n f).tiers = s.tiers := rfl
@[simp] theorem State.modSlot_ascend (s : State) (n : Nat) (f : Slot → Slot) : (s.modSlot n f).ascend = s.ascend := rfl
@[simp] theorem State.modSlot_afe (s : State) (n : Nat) (f : Slot → Slot) : (s.modSlot n f).afe = s.afe := rfl
@[simp] theorem State.modSlot_net (s : State) (n : Nat) (f : Slot → Slot) : (s.modSlot n f).net = s.net := rfl
@[simp] theorem State.modSlot_image (s : State) (n : Nat) (f : Slot → Slot) : (s.modSlot n f).image = s.image := rfl
@[simp] theorem State.modSlot_power (s : State) (n : Nat) (f : Slot → Slot) : (s.modSlot n f).power = s.power := rfl
@[simp] theorem State.modSlot_cascade (s : State) (n : Nat) (f : Slot → Slot) : (s.modSlot n f).cascade = s.cascade := rfl
@[simp] theorem State.modSlot_sec (s : State) (n : Nat) (f : Slot → Slot) : (s.modSlot n f).sec = s.sec := rfl
@[simp] theorem State.modSlot_ras (s : State) (n : Nat) (f : Slot → Slot) : (s.modSlot n f).ras = s.ras := rfl

/-! ### modPart -/

@[simp] theorem State.modPart_pending (s : State) (p : Nat) (f : Partition → Partition) : (s.modPart p f).pending = s.pending := rfl
@[simp] theorem State.modPart_sent (s : State) (p : Nat) (f : Partition → Partition) : (s.modPart p f).sent = s.sent := rfl
@[simp] theorem State.modPart_freeCount (s : State) (p : Nat) (f : Partition → Partition) : (s.modPart p f).freeCount = s.freeCount := rfl
@[simp] theorem State.modPart_mode (s : State) (p : Nat) (f : Partition → Partition) : (s.modPart p f).mode = s.mode := rfl
@[simp] theorem State.modPart_serving (s : State) (p : Nat) (f : Partition → Partition) : (s.modPart p f).serving = s.serving := rfl
@[simp] theorem State.modPart_dict (s : State) (p : Nat) (f : Partition → Partition) : (s.modPart p f).dict = s.dict := rfl
@[simp] theorem State.modPart_errorLog (s : State) (p : Nat) (f : Partition → Partition) : (s.modPart p f).errorLog = s.errorLog := rfl
@[simp] theorem State.modPart_violationLog (s : State) (p : Nat) (f : Partition → Partition) : (s.modPart p f).violationLog = s.violationLog := rfl
@[simp] theorem State.modPart_refusalLog (s : State) (p : Nat) (f : Partition → Partition) : (s.modPart p f).refusalLog = s.refusalLog := rfl
@[simp] theorem State.modPart_svc (s : State) (p : Nat) (f : Partition → Partition) : (s.modPart p f).svc = s.svc := rfl
@[simp] theorem State.modPart_time (s : State) (p : Nat) (f : Partition → Partition) : (s.modPart p f).time = s.time := rfl
@[simp] theorem State.modPart_slots (s : State) (p : Nat) (f : Partition → Partition) : (s.modPart p f).slots = s.slots := rfl
@[simp] theorem State.modPart_coreMapGen (s : State) (p : Nat) (f : Partition → Partition) : (s.modPart p f).coreMapGen = s.coreMapGen := rfl
@[simp] theorem State.modPart_replacing (s : State) (p : Nat) (f : Partition → Partition) : (s.modPart p f).replacing = s.replacing := rfl
@[simp] theorem State.modPart_accStreamKib (s : State) (p : Nat) (f : Partition → Partition) : (s.modPart p f).accStreamKib = s.accStreamKib := rfl
@[simp] theorem State.modPart_streamBytes (s : State) (p : Nat) (f : Partition → Partition) : (s.modPart p f).streamBytes = s.streamBytes := rfl
@[simp] theorem State.modPart_streams (s : State) (p : Nat) (f : Partition → Partition) : (s.modPart p f).streams = s.streams := rfl
@[simp] theorem State.modPart_objects (s : State) (p : Nat) (f : Partition → Partition) : (s.modPart p f).objects = s.objects := rfl
@[simp] theorem State.modPart_objGens (s : State) (p : Nat) (f : Partition → Partition) : (s.modPart p f).objGens = s.objGens := rfl
@[simp] theorem State.modPart_trace (s : State) (p : Nat) (f : Partition → Partition) : (s.modPart p f).trace = s.trace := rfl
@[simp] theorem State.modPart_peer (s : State) (p : Nat) (f : Partition → Partition) : (s.modPart p f).peer = s.peer := rfl
@[simp] theorem State.modPart_keys (s : State) (p : Nat) (f : Partition → Partition) : (s.modPart p f).keys = s.keys := rfl
@[simp] theorem State.modPart_tileCapRefusals (s : State) (p : Nat) (f : Partition → Partition) : (s.modPart p f).tileCapRefusals = s.tileCapRefusals := rfl
@[simp] theorem State.modPart_tiers (s : State) (p : Nat) (f : Partition → Partition) : (s.modPart p f).tiers = s.tiers := rfl
@[simp] theorem State.modPart_ascend (s : State) (p : Nat) (f : Partition → Partition) : (s.modPart p f).ascend = s.ascend := rfl
@[simp] theorem State.modPart_afe (s : State) (p : Nat) (f : Partition → Partition) : (s.modPart p f).afe = s.afe := rfl
@[simp] theorem State.modPart_net (s : State) (p : Nat) (f : Partition → Partition) : (s.modPart p f).net = s.net := rfl
@[simp] theorem State.modPart_image (s : State) (p : Nat) (f : Partition → Partition) : (s.modPart p f).image = s.image := rfl
@[simp] theorem State.modPart_power (s : State) (p : Nat) (f : Partition → Partition) : (s.modPart p f).power = s.power := rfl
@[simp] theorem State.modPart_cascade (s : State) (p : Nat) (f : Partition → Partition) : (s.modPart p f).cascade = s.cascade := rfl
@[simp] theorem State.modPart_sec (s : State) (p : Nat) (f : Partition → Partition) : (s.modPart p f).sec = s.sec := rfl
@[simp] theorem State.modPart_ras (s : State) (p : Nat) (f : Partition → Partition) : (s.modPart p f).ras = s.ras := rfl

/-! ### modCtx -/

@[simp] theorem State.modCtx_pending (s : State) (p c : Nat) (f : Context → Context) : (s.modCtx p c f).pending = s.pending := rfl
@[simp] theorem State.modCtx_sent (s : State) (p c : Nat) (f : Context → Context) : (s.modCtx p c f).sent = s.sent := rfl
@[simp] theorem State.modCtx_freeCount (s : State) (p c : Nat) (f : Context → Context) : (s.modCtx p c f).freeCount = s.freeCount := rfl
@[simp] theorem State.modCtx_mode (s : State) (p c : Nat) (f : Context → Context) : (s.modCtx p c f).mode = s.mode := rfl
@[simp] theorem State.modCtx_serving (s : State) (p c : Nat) (f : Context → Context) : (s.modCtx p c f).serving = s.serving := rfl
@[simp] theorem State.modCtx_dict (s : State) (p c : Nat) (f : Context → Context) : (s.modCtx p c f).dict = s.dict := rfl
@[simp] theorem State.modCtx_errorLog (s : State) (p c : Nat) (f : Context → Context) : (s.modCtx p c f).errorLog = s.errorLog := rfl
@[simp] theorem State.modCtx_violationLog (s : State) (p c : Nat) (f : Context → Context) : (s.modCtx p c f).violationLog = s.violationLog := rfl
@[simp] theorem State.modCtx_refusalLog (s : State) (p c : Nat) (f : Context → Context) : (s.modCtx p c f).refusalLog = s.refusalLog := rfl
@[simp] theorem State.modCtx_svc (s : State) (p c : Nat) (f : Context → Context) : (s.modCtx p c f).svc = s.svc := rfl
@[simp] theorem State.modCtx_time (s : State) (p c : Nat) (f : Context → Context) : (s.modCtx p c f).time = s.time := rfl
@[simp] theorem State.modCtx_slots (s : State) (p c : Nat) (f : Context → Context) : (s.modCtx p c f).slots = s.slots := rfl
@[simp] theorem State.modCtx_coreMapGen (s : State) (p c : Nat) (f : Context → Context) : (s.modCtx p c f).coreMapGen = s.coreMapGen := rfl
@[simp] theorem State.modCtx_replacing (s : State) (p c : Nat) (f : Context → Context) : (s.modCtx p c f).replacing = s.replacing := rfl
@[simp] theorem State.modCtx_accStreamKib (s : State) (p c : Nat) (f : Context → Context) : (s.modCtx p c f).accStreamKib = s.accStreamKib := rfl
@[simp] theorem State.modCtx_streamBytes (s : State) (p c : Nat) (f : Context → Context) : (s.modCtx p c f).streamBytes = s.streamBytes := rfl
@[simp] theorem State.modCtx_streams (s : State) (p c : Nat) (f : Context → Context) : (s.modCtx p c f).streams = s.streams := rfl
@[simp] theorem State.modCtx_objects (s : State) (p c : Nat) (f : Context → Context) : (s.modCtx p c f).objects = s.objects := rfl
@[simp] theorem State.modCtx_objGens (s : State) (p c : Nat) (f : Context → Context) : (s.modCtx p c f).objGens = s.objGens := rfl
@[simp] theorem State.modCtx_trace (s : State) (p c : Nat) (f : Context → Context) : (s.modCtx p c f).trace = s.trace := rfl
@[simp] theorem State.modCtx_peer (s : State) (p c : Nat) (f : Context → Context) : (s.modCtx p c f).peer = s.peer := rfl
@[simp] theorem State.modCtx_keys (s : State) (p c : Nat) (f : Context → Context) : (s.modCtx p c f).keys = s.keys := rfl
@[simp] theorem State.modCtx_tileCapRefusals (s : State) (p c : Nat) (f : Context → Context) : (s.modCtx p c f).tileCapRefusals = s.tileCapRefusals := rfl
@[simp] theorem State.modCtx_tiers (s : State) (p c : Nat) (f : Context → Context) : (s.modCtx p c f).tiers = s.tiers := rfl
@[simp] theorem State.modCtx_ascend (s : State) (p c : Nat) (f : Context → Context) : (s.modCtx p c f).ascend = s.ascend := rfl
@[simp] theorem State.modCtx_afe (s : State) (p c : Nat) (f : Context → Context) : (s.modCtx p c f).afe = s.afe := rfl
@[simp] theorem State.modCtx_net (s : State) (p c : Nat) (f : Context → Context) : (s.modCtx p c f).net = s.net := rfl
@[simp] theorem State.modCtx_image (s : State) (p c : Nat) (f : Context → Context) : (s.modCtx p c f).image = s.image := rfl
@[simp] theorem State.modCtx_power (s : State) (p c : Nat) (f : Context → Context) : (s.modCtx p c f).power = s.power := rfl
@[simp] theorem State.modCtx_cascade (s : State) (p c : Nat) (f : Context → Context) : (s.modCtx p c f).cascade = s.cascade := rfl
@[simp] theorem State.modCtx_sec (s : State) (p c : Nat) (f : Context → Context) : (s.modCtx p c f).sec = s.sec := rfl
@[simp] theorem State.modCtx_ras (s : State) (p c : Nat) (f : Context → Context) : (s.modCtx p c f).ras = s.ras := rfl

/-! ### modFlight -/

@[simp] theorem State.modFlight_pending (s : State) (p c : Nat) (f : Flight → Flight) : (s.modFlight p c f).pending = s.pending := rfl
@[simp] theorem State.modFlight_sent (s : State) (p c : Nat) (f : Flight → Flight) : (s.modFlight p c f).sent = s.sent := rfl
@[simp] theorem State.modFlight_freeCount (s : State) (p c : Nat) (f : Flight → Flight) : (s.modFlight p c f).freeCount = s.freeCount := rfl
@[simp] theorem State.modFlight_mode (s : State) (p c : Nat) (f : Flight → Flight) : (s.modFlight p c f).mode = s.mode := rfl
@[simp] theorem State.modFlight_serving (s : State) (p c : Nat) (f : Flight → Flight) : (s.modFlight p c f).serving = s.serving := rfl
@[simp] theorem State.modFlight_dict (s : State) (p c : Nat) (f : Flight → Flight) : (s.modFlight p c f).dict = s.dict := rfl
@[simp] theorem State.modFlight_errorLog (s : State) (p c : Nat) (f : Flight → Flight) : (s.modFlight p c f).errorLog = s.errorLog := rfl
@[simp] theorem State.modFlight_violationLog (s : State) (p c : Nat) (f : Flight → Flight) : (s.modFlight p c f).violationLog = s.violationLog := rfl
@[simp] theorem State.modFlight_refusalLog (s : State) (p c : Nat) (f : Flight → Flight) : (s.modFlight p c f).refusalLog = s.refusalLog := rfl
@[simp] theorem State.modFlight_svc (s : State) (p c : Nat) (f : Flight → Flight) : (s.modFlight p c f).svc = s.svc := rfl
@[simp] theorem State.modFlight_time (s : State) (p c : Nat) (f : Flight → Flight) : (s.modFlight p c f).time = s.time := rfl
@[simp] theorem State.modFlight_slots (s : State) (p c : Nat) (f : Flight → Flight) : (s.modFlight p c f).slots = s.slots := rfl
@[simp] theorem State.modFlight_coreMapGen (s : State) (p c : Nat) (f : Flight → Flight) : (s.modFlight p c f).coreMapGen = s.coreMapGen := rfl
@[simp] theorem State.modFlight_replacing (s : State) (p c : Nat) (f : Flight → Flight) : (s.modFlight p c f).replacing = s.replacing := rfl
@[simp] theorem State.modFlight_accStreamKib (s : State) (p c : Nat) (f : Flight → Flight) : (s.modFlight p c f).accStreamKib = s.accStreamKib := rfl
@[simp] theorem State.modFlight_streamBytes (s : State) (p c : Nat) (f : Flight → Flight) : (s.modFlight p c f).streamBytes = s.streamBytes := rfl
@[simp] theorem State.modFlight_streams (s : State) (p c : Nat) (f : Flight → Flight) : (s.modFlight p c f).streams = s.streams := rfl
@[simp] theorem State.modFlight_objects (s : State) (p c : Nat) (f : Flight → Flight) : (s.modFlight p c f).objects = s.objects := rfl
@[simp] theorem State.modFlight_objGens (s : State) (p c : Nat) (f : Flight → Flight) : (s.modFlight p c f).objGens = s.objGens := rfl
@[simp] theorem State.modFlight_trace (s : State) (p c : Nat) (f : Flight → Flight) : (s.modFlight p c f).trace = s.trace := rfl
@[simp] theorem State.modFlight_peer (s : State) (p c : Nat) (f : Flight → Flight) : (s.modFlight p c f).peer = s.peer := rfl
@[simp] theorem State.modFlight_keys (s : State) (p c : Nat) (f : Flight → Flight) : (s.modFlight p c f).keys = s.keys := rfl
@[simp] theorem State.modFlight_tileCapRefusals (s : State) (p c : Nat) (f : Flight → Flight) : (s.modFlight p c f).tileCapRefusals = s.tileCapRefusals := rfl
@[simp] theorem State.modFlight_tiers (s : State) (p c : Nat) (f : Flight → Flight) : (s.modFlight p c f).tiers = s.tiers := rfl
@[simp] theorem State.modFlight_ascend (s : State) (p c : Nat) (f : Flight → Flight) : (s.modFlight p c f).ascend = s.ascend := rfl
@[simp] theorem State.modFlight_afe (s : State) (p c : Nat) (f : Flight → Flight) : (s.modFlight p c f).afe = s.afe := rfl
@[simp] theorem State.modFlight_net (s : State) (p c : Nat) (f : Flight → Flight) : (s.modFlight p c f).net = s.net := rfl
@[simp] theorem State.modFlight_image (s : State) (p c : Nat) (f : Flight → Flight) : (s.modFlight p c f).image = s.image := rfl
@[simp] theorem State.modFlight_power (s : State) (p c : Nat) (f : Flight → Flight) : (s.modFlight p c f).power = s.power := rfl
@[simp] theorem State.modFlight_cascade (s : State) (p c : Nat) (f : Flight → Flight) : (s.modFlight p c f).cascade = s.cascade := rfl
@[simp] theorem State.modFlight_sec (s : State) (p c : Nat) (f : Flight → Flight) : (s.modFlight p c f).sec = s.sec := rfl
@[simp] theorem State.modFlight_ras (s : State) (p c : Nat) (f : Flight → Flight) : (s.modFlight p c f).ras = s.ras := rfl

/-! ### modRun -/

@[simp] theorem State.modRun_pending (s : State) (p c k : Nat) (f : CoreRun → CoreRun) : (s.modRun p c k f).pending = s.pending := rfl
@[simp] theorem State.modRun_sent (s : State) (p c k : Nat) (f : CoreRun → CoreRun) : (s.modRun p c k f).sent = s.sent := rfl
@[simp] theorem State.modRun_freeCount (s : State) (p c k : Nat) (f : CoreRun → CoreRun) : (s.modRun p c k f).freeCount = s.freeCount := rfl
@[simp] theorem State.modRun_mode (s : State) (p c k : Nat) (f : CoreRun → CoreRun) : (s.modRun p c k f).mode = s.mode := rfl
@[simp] theorem State.modRun_serving (s : State) (p c k : Nat) (f : CoreRun → CoreRun) : (s.modRun p c k f).serving = s.serving := rfl
@[simp] theorem State.modRun_dict (s : State) (p c k : Nat) (f : CoreRun → CoreRun) : (s.modRun p c k f).dict = s.dict := rfl
@[simp] theorem State.modRun_errorLog (s : State) (p c k : Nat) (f : CoreRun → CoreRun) : (s.modRun p c k f).errorLog = s.errorLog := rfl
@[simp] theorem State.modRun_violationLog (s : State) (p c k : Nat) (f : CoreRun → CoreRun) : (s.modRun p c k f).violationLog = s.violationLog := rfl
@[simp] theorem State.modRun_refusalLog (s : State) (p c k : Nat) (f : CoreRun → CoreRun) : (s.modRun p c k f).refusalLog = s.refusalLog := rfl
@[simp] theorem State.modRun_svc (s : State) (p c k : Nat) (f : CoreRun → CoreRun) : (s.modRun p c k f).svc = s.svc := rfl
@[simp] theorem State.modRun_time (s : State) (p c k : Nat) (f : CoreRun → CoreRun) : (s.modRun p c k f).time = s.time := rfl
@[simp] theorem State.modRun_slots (s : State) (p c k : Nat) (f : CoreRun → CoreRun) : (s.modRun p c k f).slots = s.slots := rfl
@[simp] theorem State.modRun_coreMapGen (s : State) (p c k : Nat) (f : CoreRun → CoreRun) : (s.modRun p c k f).coreMapGen = s.coreMapGen := rfl
@[simp] theorem State.modRun_replacing (s : State) (p c k : Nat) (f : CoreRun → CoreRun) : (s.modRun p c k f).replacing = s.replacing := rfl
@[simp] theorem State.modRun_accStreamKib (s : State) (p c k : Nat) (f : CoreRun → CoreRun) : (s.modRun p c k f).accStreamKib = s.accStreamKib := rfl
@[simp] theorem State.modRun_streamBytes (s : State) (p c k : Nat) (f : CoreRun → CoreRun) : (s.modRun p c k f).streamBytes = s.streamBytes := rfl
@[simp] theorem State.modRun_streams (s : State) (p c k : Nat) (f : CoreRun → CoreRun) : (s.modRun p c k f).streams = s.streams := rfl
@[simp] theorem State.modRun_objects (s : State) (p c k : Nat) (f : CoreRun → CoreRun) : (s.modRun p c k f).objects = s.objects := rfl
@[simp] theorem State.modRun_objGens (s : State) (p c k : Nat) (f : CoreRun → CoreRun) : (s.modRun p c k f).objGens = s.objGens := rfl
@[simp] theorem State.modRun_trace (s : State) (p c k : Nat) (f : CoreRun → CoreRun) : (s.modRun p c k f).trace = s.trace := rfl
@[simp] theorem State.modRun_peer (s : State) (p c k : Nat) (f : CoreRun → CoreRun) : (s.modRun p c k f).peer = s.peer := rfl
@[simp] theorem State.modRun_keys (s : State) (p c k : Nat) (f : CoreRun → CoreRun) : (s.modRun p c k f).keys = s.keys := rfl
@[simp] theorem State.modRun_tileCapRefusals (s : State) (p c k : Nat) (f : CoreRun → CoreRun) : (s.modRun p c k f).tileCapRefusals = s.tileCapRefusals := rfl
@[simp] theorem State.modRun_tiers (s : State) (p c k : Nat) (f : CoreRun → CoreRun) : (s.modRun p c k f).tiers = s.tiers := rfl
@[simp] theorem State.modRun_ascend (s : State) (p c k : Nat) (f : CoreRun → CoreRun) : (s.modRun p c k f).ascend = s.ascend := rfl
@[simp] theorem State.modRun_afe (s : State) (p c k : Nat) (f : CoreRun → CoreRun) : (s.modRun p c k f).afe = s.afe := rfl
@[simp] theorem State.modRun_net (s : State) (p c k : Nat) (f : CoreRun → CoreRun) : (s.modRun p c k f).net = s.net := rfl
@[simp] theorem State.modRun_image (s : State) (p c k : Nat) (f : CoreRun → CoreRun) : (s.modRun p c k f).image = s.image := rfl
@[simp] theorem State.modRun_power (s : State) (p c k : Nat) (f : CoreRun → CoreRun) : (s.modRun p c k f).power = s.power := rfl
@[simp] theorem State.modRun_cascade (s : State) (p c k : Nat) (f : CoreRun → CoreRun) : (s.modRun p c k f).cascade = s.cascade := rfl
@[simp] theorem State.modRun_sec (s : State) (p c k : Nat) (f : CoreRun → CoreRun) : (s.modRun p c k f).sec = s.sec := rfl
@[simp] theorem State.modRun_ras (s : State) (p c k : Nat) (f : CoreRun → CoreRun) : (s.modRun p c k f).ras = s.ras := rfl

/-! ### modPort -/

@[simp] theorem State.modPort_pending (s : State) (k : Nat) (f : PeerPort → PeerPort) : (s.modPort k f).pending = s.pending := rfl
@[simp] theorem State.modPort_sent (s : State) (k : Nat) (f : PeerPort → PeerPort) : (s.modPort k f).sent = s.sent := rfl
@[simp] theorem State.modPort_freeCount (s : State) (k : Nat) (f : PeerPort → PeerPort) : (s.modPort k f).freeCount = s.freeCount := rfl
@[simp] theorem State.modPort_mode (s : State) (k : Nat) (f : PeerPort → PeerPort) : (s.modPort k f).mode = s.mode := rfl
@[simp] theorem State.modPort_serving (s : State) (k : Nat) (f : PeerPort → PeerPort) : (s.modPort k f).serving = s.serving := rfl
@[simp] theorem State.modPort_dict (s : State) (k : Nat) (f : PeerPort → PeerPort) : (s.modPort k f).dict = s.dict := rfl
@[simp] theorem State.modPort_errorLog (s : State) (k : Nat) (f : PeerPort → PeerPort) : (s.modPort k f).errorLog = s.errorLog := rfl
@[simp] theorem State.modPort_violationLog (s : State) (k : Nat) (f : PeerPort → PeerPort) : (s.modPort k f).violationLog = s.violationLog := rfl
@[simp] theorem State.modPort_refusalLog (s : State) (k : Nat) (f : PeerPort → PeerPort) : (s.modPort k f).refusalLog = s.refusalLog := rfl
@[simp] theorem State.modPort_svc (s : State) (k : Nat) (f : PeerPort → PeerPort) : (s.modPort k f).svc = s.svc := rfl
@[simp] theorem State.modPort_time (s : State) (k : Nat) (f : PeerPort → PeerPort) : (s.modPort k f).time = s.time := rfl
@[simp] theorem State.modPort_slots (s : State) (k : Nat) (f : PeerPort → PeerPort) : (s.modPort k f).slots = s.slots := rfl
@[simp] theorem State.modPort_coreMapGen (s : State) (k : Nat) (f : PeerPort → PeerPort) : (s.modPort k f).coreMapGen = s.coreMapGen := rfl
@[simp] theorem State.modPort_replacing (s : State) (k : Nat) (f : PeerPort → PeerPort) : (s.modPort k f).replacing = s.replacing := rfl
@[simp] theorem State.modPort_accStreamKib (s : State) (k : Nat) (f : PeerPort → PeerPort) : (s.modPort k f).accStreamKib = s.accStreamKib := rfl
@[simp] theorem State.modPort_streamBytes (s : State) (k : Nat) (f : PeerPort → PeerPort) : (s.modPort k f).streamBytes = s.streamBytes := rfl
@[simp] theorem State.modPort_streams (s : State) (k : Nat) (f : PeerPort → PeerPort) : (s.modPort k f).streams = s.streams := rfl
@[simp] theorem State.modPort_parts (s : State) (k : Nat) (f : PeerPort → PeerPort) : (s.modPort k f).parts = s.parts := rfl
@[simp] theorem State.modPort_objects (s : State) (k : Nat) (f : PeerPort → PeerPort) : (s.modPort k f).objects = s.objects := rfl
@[simp] theorem State.modPort_objGens (s : State) (k : Nat) (f : PeerPort → PeerPort) : (s.modPort k f).objGens = s.objGens := rfl
@[simp] theorem State.modPort_trace (s : State) (k : Nat) (f : PeerPort → PeerPort) : (s.modPort k f).trace = s.trace := rfl
@[simp] theorem State.modPort_keys (s : State) (k : Nat) (f : PeerPort → PeerPort) : (s.modPort k f).keys = s.keys := rfl
@[simp] theorem State.modPort_tileCapRefusals (s : State) (k : Nat) (f : PeerPort → PeerPort) : (s.modPort k f).tileCapRefusals = s.tileCapRefusals := rfl
@[simp] theorem State.modPort_tiers (s : State) (k : Nat) (f : PeerPort → PeerPort) : (s.modPort k f).tiers = s.tiers := rfl
@[simp] theorem State.modPort_ascend (s : State) (k : Nat) (f : PeerPort → PeerPort) : (s.modPort k f).ascend = s.ascend := rfl
@[simp] theorem State.modPort_afe (s : State) (k : Nat) (f : PeerPort → PeerPort) : (s.modPort k f).afe = s.afe := rfl
@[simp] theorem State.modPort_net (s : State) (k : Nat) (f : PeerPort → PeerPort) : (s.modPort k f).net = s.net := rfl
@[simp] theorem State.modPort_image (s : State) (k : Nat) (f : PeerPort → PeerPort) : (s.modPort k f).image = s.image := rfl
@[simp] theorem State.modPort_power (s : State) (k : Nat) (f : PeerPort → PeerPort) : (s.modPort k f).power = s.power := rfl
@[simp] theorem State.modPort_cascade (s : State) (k : Nat) (f : PeerPort → PeerPort) : (s.modPort k f).cascade = s.cascade := rfl
@[simp] theorem State.modPort_sec (s : State) (k : Nat) (f : PeerPort → PeerPort) : (s.modPort k f).sec = s.sec := rfl
@[simp] theorem State.modPort_ras (s : State) (k : Nat) (f : PeerPort → PeerPort) : (s.modPort k f).ras = s.ras := rfl

/-! ### modCam -/

@[simp] theorem State.modCam_pending (s : State) (k : Nat) (f : Camera → Camera) : (s.modCam k f).pending = s.pending := rfl
@[simp] theorem State.modCam_sent (s : State) (k : Nat) (f : Camera → Camera) : (s.modCam k f).sent = s.sent := rfl
@[simp] theorem State.modCam_freeCount (s : State) (k : Nat) (f : Camera → Camera) : (s.modCam k f).freeCount = s.freeCount := rfl
@[simp] theorem State.modCam_mode (s : State) (k : Nat) (f : Camera → Camera) : (s.modCam k f).mode = s.mode := rfl
@[simp] theorem State.modCam_serving (s : State) (k : Nat) (f : Camera → Camera) : (s.modCam k f).serving = s.serving := rfl
@[simp] theorem State.modCam_dict (s : State) (k : Nat) (f : Camera → Camera) : (s.modCam k f).dict = s.dict := rfl
@[simp] theorem State.modCam_errorLog (s : State) (k : Nat) (f : Camera → Camera) : (s.modCam k f).errorLog = s.errorLog := rfl
@[simp] theorem State.modCam_violationLog (s : State) (k : Nat) (f : Camera → Camera) : (s.modCam k f).violationLog = s.violationLog := rfl
@[simp] theorem State.modCam_refusalLog (s : State) (k : Nat) (f : Camera → Camera) : (s.modCam k f).refusalLog = s.refusalLog := rfl
@[simp] theorem State.modCam_svc (s : State) (k : Nat) (f : Camera → Camera) : (s.modCam k f).svc = s.svc := rfl
@[simp] theorem State.modCam_time (s : State) (k : Nat) (f : Camera → Camera) : (s.modCam k f).time = s.time := rfl
@[simp] theorem State.modCam_slots (s : State) (k : Nat) (f : Camera → Camera) : (s.modCam k f).slots = s.slots := rfl
@[simp] theorem State.modCam_coreMapGen (s : State) (k : Nat) (f : Camera → Camera) : (s.modCam k f).coreMapGen = s.coreMapGen := rfl
@[simp] theorem State.modCam_replacing (s : State) (k : Nat) (f : Camera → Camera) : (s.modCam k f).replacing = s.replacing := rfl
@[simp] theorem State.modCam_accStreamKib (s : State) (k : Nat) (f : Camera → Camera) : (s.modCam k f).accStreamKib = s.accStreamKib := rfl
@[simp] theorem State.modCam_streamBytes (s : State) (k : Nat) (f : Camera → Camera) : (s.modCam k f).streamBytes = s.streamBytes := rfl
@[simp] theorem State.modCam_streams (s : State) (k : Nat) (f : Camera → Camera) : (s.modCam k f).streams = s.streams := rfl
@[simp] theorem State.modCam_parts (s : State) (k : Nat) (f : Camera → Camera) : (s.modCam k f).parts = s.parts := rfl
@[simp] theorem State.modCam_objects (s : State) (k : Nat) (f : Camera → Camera) : (s.modCam k f).objects = s.objects := rfl
@[simp] theorem State.modCam_objGens (s : State) (k : Nat) (f : Camera → Camera) : (s.modCam k f).objGens = s.objGens := rfl
@[simp] theorem State.modCam_trace (s : State) (k : Nat) (f : Camera → Camera) : (s.modCam k f).trace = s.trace := rfl
@[simp] theorem State.modCam_peer (s : State) (k : Nat) (f : Camera → Camera) : (s.modCam k f).peer = s.peer := rfl
@[simp] theorem State.modCam_keys (s : State) (k : Nat) (f : Camera → Camera) : (s.modCam k f).keys = s.keys := rfl
@[simp] theorem State.modCam_tileCapRefusals (s : State) (k : Nat) (f : Camera → Camera) : (s.modCam k f).tileCapRefusals = s.tileCapRefusals := rfl
@[simp] theorem State.modCam_tiers (s : State) (k : Nat) (f : Camera → Camera) : (s.modCam k f).tiers = s.tiers := rfl
@[simp] theorem State.modCam_ascend (s : State) (k : Nat) (f : Camera → Camera) : (s.modCam k f).ascend = s.ascend := rfl
@[simp] theorem State.modCam_afe (s : State) (k : Nat) (f : Camera → Camera) : (s.modCam k f).afe = s.afe := rfl
@[simp] theorem State.modCam_net (s : State) (k : Nat) (f : Camera → Camera) : (s.modCam k f).net = s.net := rfl
@[simp] theorem State.modCam_power (s : State) (k : Nat) (f : Camera → Camera) : (s.modCam k f).power = s.power := rfl
@[simp] theorem State.modCam_cascade (s : State) (k : Nat) (f : Camera → Camera) : (s.modCam k f).cascade = s.cascade := rfl
@[simp] theorem State.modCam_sec (s : State) (k : Nat) (f : Camera → Camera) : (s.modCam k f).sec = s.sec := rfl
@[simp] theorem State.modCam_ras (s : State) (k : Nat) (f : Camera → Camera) : (s.modCam k f).ras = s.ras := rfl

/-! ### modGroup -/

@[simp] theorem State.modGroup_pending (s : State) (k : Nat) (f : DramGroup → DramGroup) : (s.modGroup k f).pending = s.pending := rfl
@[simp] theorem State.modGroup_sent (s : State) (k : Nat) (f : DramGroup → DramGroup) : (s.modGroup k f).sent = s.sent := rfl
@[simp] theorem State.modGroup_freeCount (s : State) (k : Nat) (f : DramGroup → DramGroup) : (s.modGroup k f).freeCount = s.freeCount := rfl
@[simp] theorem State.modGroup_mode (s : State) (k : Nat) (f : DramGroup → DramGroup) : (s.modGroup k f).mode = s.mode := rfl
@[simp] theorem State.modGroup_serving (s : State) (k : Nat) (f : DramGroup → DramGroup) : (s.modGroup k f).serving = s.serving := rfl
@[simp] theorem State.modGroup_dict (s : State) (k : Nat) (f : DramGroup → DramGroup) : (s.modGroup k f).dict = s.dict := rfl
@[simp] theorem State.modGroup_errorLog (s : State) (k : Nat) (f : DramGroup → DramGroup) : (s.modGroup k f).errorLog = s.errorLog := rfl
@[simp] theorem State.modGroup_violationLog (s : State) (k : Nat) (f : DramGroup → DramGroup) : (s.modGroup k f).violationLog = s.violationLog := rfl
@[simp] theorem State.modGroup_refusalLog (s : State) (k : Nat) (f : DramGroup → DramGroup) : (s.modGroup k f).refusalLog = s.refusalLog := rfl
@[simp] theorem State.modGroup_svc (s : State) (k : Nat) (f : DramGroup → DramGroup) : (s.modGroup k f).svc = s.svc := rfl
@[simp] theorem State.modGroup_time (s : State) (k : Nat) (f : DramGroup → DramGroup) : (s.modGroup k f).time = s.time := rfl
@[simp] theorem State.modGroup_slots (s : State) (k : Nat) (f : DramGroup → DramGroup) : (s.modGroup k f).slots = s.slots := rfl
@[simp] theorem State.modGroup_coreMapGen (s : State) (k : Nat) (f : DramGroup → DramGroup) : (s.modGroup k f).coreMapGen = s.coreMapGen := rfl
@[simp] theorem State.modGroup_replacing (s : State) (k : Nat) (f : DramGroup → DramGroup) : (s.modGroup k f).replacing = s.replacing := rfl
@[simp] theorem State.modGroup_accStreamKib (s : State) (k : Nat) (f : DramGroup → DramGroup) : (s.modGroup k f).accStreamKib = s.accStreamKib := rfl
@[simp] theorem State.modGroup_streamBytes (s : State) (k : Nat) (f : DramGroup → DramGroup) : (s.modGroup k f).streamBytes = s.streamBytes := rfl
@[simp] theorem State.modGroup_streams (s : State) (k : Nat) (f : DramGroup → DramGroup) : (s.modGroup k f).streams = s.streams := rfl
@[simp] theorem State.modGroup_parts (s : State) (k : Nat) (f : DramGroup → DramGroup) : (s.modGroup k f).parts = s.parts := rfl
@[simp] theorem State.modGroup_objects (s : State) (k : Nat) (f : DramGroup → DramGroup) : (s.modGroup k f).objects = s.objects := rfl
@[simp] theorem State.modGroup_objGens (s : State) (k : Nat) (f : DramGroup → DramGroup) : (s.modGroup k f).objGens = s.objGens := rfl
@[simp] theorem State.modGroup_trace (s : State) (k : Nat) (f : DramGroup → DramGroup) : (s.modGroup k f).trace = s.trace := rfl
@[simp] theorem State.modGroup_peer (s : State) (k : Nat) (f : DramGroup → DramGroup) : (s.modGroup k f).peer = s.peer := rfl
@[simp] theorem State.modGroup_keys (s : State) (k : Nat) (f : DramGroup → DramGroup) : (s.modGroup k f).keys = s.keys := rfl
@[simp] theorem State.modGroup_tileCapRefusals (s : State) (k : Nat) (f : DramGroup → DramGroup) : (s.modGroup k f).tileCapRefusals = s.tileCapRefusals := rfl
@[simp] theorem State.modGroup_ascend (s : State) (k : Nat) (f : DramGroup → DramGroup) : (s.modGroup k f).ascend = s.ascend := rfl
@[simp] theorem State.modGroup_afe (s : State) (k : Nat) (f : DramGroup → DramGroup) : (s.modGroup k f).afe = s.afe := rfl
@[simp] theorem State.modGroup_net (s : State) (k : Nat) (f : DramGroup → DramGroup) : (s.modGroup k f).net = s.net := rfl
@[simp] theorem State.modGroup_image (s : State) (k : Nat) (f : DramGroup → DramGroup) : (s.modGroup k f).image = s.image := rfl
@[simp] theorem State.modGroup_power (s : State) (k : Nat) (f : DramGroup → DramGroup) : (s.modGroup k f).power = s.power := rfl
@[simp] theorem State.modGroup_cascade (s : State) (k : Nat) (f : DramGroup → DramGroup) : (s.modGroup k f).cascade = s.cascade := rfl
@[simp] theorem State.modGroup_sec (s : State) (k : Nat) (f : DramGroup → DramGroup) : (s.modGroup k f).sec = s.sec := rfl
@[simp] theorem State.modGroup_ras (s : State) (k : Nat) (f : DramGroup → DramGroup) : (s.modGroup k f).ras = s.ras := rfl

/-! ### modLan -/

@[simp] theorem State.modLan_pending (s : State) (k : Nat) (f : NetPort → NetPort) : (s.modLan k f).pending = s.pending := rfl
@[simp] theorem State.modLan_sent (s : State) (k : Nat) (f : NetPort → NetPort) : (s.modLan k f).sent = s.sent := rfl
@[simp] theorem State.modLan_freeCount (s : State) (k : Nat) (f : NetPort → NetPort) : (s.modLan k f).freeCount = s.freeCount := rfl
@[simp] theorem State.modLan_mode (s : State) (k : Nat) (f : NetPort → NetPort) : (s.modLan k f).mode = s.mode := rfl
@[simp] theorem State.modLan_serving (s : State) (k : Nat) (f : NetPort → NetPort) : (s.modLan k f).serving = s.serving := rfl
@[simp] theorem State.modLan_dict (s : State) (k : Nat) (f : NetPort → NetPort) : (s.modLan k f).dict = s.dict := rfl
@[simp] theorem State.modLan_errorLog (s : State) (k : Nat) (f : NetPort → NetPort) : (s.modLan k f).errorLog = s.errorLog := rfl
@[simp] theorem State.modLan_violationLog (s : State) (k : Nat) (f : NetPort → NetPort) : (s.modLan k f).violationLog = s.violationLog := rfl
@[simp] theorem State.modLan_refusalLog (s : State) (k : Nat) (f : NetPort → NetPort) : (s.modLan k f).refusalLog = s.refusalLog := rfl
@[simp] theorem State.modLan_svc (s : State) (k : Nat) (f : NetPort → NetPort) : (s.modLan k f).svc = s.svc := rfl
@[simp] theorem State.modLan_time (s : State) (k : Nat) (f : NetPort → NetPort) : (s.modLan k f).time = s.time := rfl
@[simp] theorem State.modLan_slots (s : State) (k : Nat) (f : NetPort → NetPort) : (s.modLan k f).slots = s.slots := rfl
@[simp] theorem State.modLan_coreMapGen (s : State) (k : Nat) (f : NetPort → NetPort) : (s.modLan k f).coreMapGen = s.coreMapGen := rfl
@[simp] theorem State.modLan_replacing (s : State) (k : Nat) (f : NetPort → NetPort) : (s.modLan k f).replacing = s.replacing := rfl
@[simp] theorem State.modLan_accStreamKib (s : State) (k : Nat) (f : NetPort → NetPort) : (s.modLan k f).accStreamKib = s.accStreamKib := rfl
@[simp] theorem State.modLan_streamBytes (s : State) (k : Nat) (f : NetPort → NetPort) : (s.modLan k f).streamBytes = s.streamBytes := rfl
@[simp] theorem State.modLan_streams (s : State) (k : Nat) (f : NetPort → NetPort) : (s.modLan k f).streams = s.streams := rfl
@[simp] theorem State.modLan_parts (s : State) (k : Nat) (f : NetPort → NetPort) : (s.modLan k f).parts = s.parts := rfl
@[simp] theorem State.modLan_objects (s : State) (k : Nat) (f : NetPort → NetPort) : (s.modLan k f).objects = s.objects := rfl
@[simp] theorem State.modLan_objGens (s : State) (k : Nat) (f : NetPort → NetPort) : (s.modLan k f).objGens = s.objGens := rfl
@[simp] theorem State.modLan_trace (s : State) (k : Nat) (f : NetPort → NetPort) : (s.modLan k f).trace = s.trace := rfl
@[simp] theorem State.modLan_peer (s : State) (k : Nat) (f : NetPort → NetPort) : (s.modLan k f).peer = s.peer := rfl
@[simp] theorem State.modLan_keys (s : State) (k : Nat) (f : NetPort → NetPort) : (s.modLan k f).keys = s.keys := rfl
@[simp] theorem State.modLan_tileCapRefusals (s : State) (k : Nat) (f : NetPort → NetPort) : (s.modLan k f).tileCapRefusals = s.tileCapRefusals := rfl
@[simp] theorem State.modLan_tiers (s : State) (k : Nat) (f : NetPort → NetPort) : (s.modLan k f).tiers = s.tiers := rfl
@[simp] theorem State.modLan_ascend (s : State) (k : Nat) (f : NetPort → NetPort) : (s.modLan k f).ascend = s.ascend := rfl
@[simp] theorem State.modLan_afe (s : State) (k : Nat) (f : NetPort → NetPort) : (s.modLan k f).afe = s.afe := rfl
@[simp] theorem State.modLan_image (s : State) (k : Nat) (f : NetPort → NetPort) : (s.modLan k f).image = s.image := rfl
@[simp] theorem State.modLan_power (s : State) (k : Nat) (f : NetPort → NetPort) : (s.modLan k f).power = s.power := rfl
@[simp] theorem State.modLan_cascade (s : State) (k : Nat) (f : NetPort → NetPort) : (s.modLan k f).cascade = s.cascade := rfl
@[simp] theorem State.modLan_sec (s : State) (k : Nat) (f : NetPort → NetPort) : (s.modLan k f).sec = s.sec := rfl
@[simp] theorem State.modLan_ras (s : State) (k : Nat) (f : NetPort → NetPort) : (s.modLan k f).ras = s.ras := rfl

/-! ### modStream -/

@[simp] theorem State.modStream_pending (s : State) (k : Nat) (f : StreamSlot → StreamSlot) : (s.modStream k f).pending = s.pending := rfl
@[simp] theorem State.modStream_sent (s : State) (k : Nat) (f : StreamSlot → StreamSlot) : (s.modStream k f).sent = s.sent := rfl
@[simp] theorem State.modStream_freeCount (s : State) (k : Nat) (f : StreamSlot → StreamSlot) : (s.modStream k f).freeCount = s.freeCount := rfl
@[simp] theorem State.modStream_mode (s : State) (k : Nat) (f : StreamSlot → StreamSlot) : (s.modStream k f).mode = s.mode := rfl
@[simp] theorem State.modStream_serving (s : State) (k : Nat) (f : StreamSlot → StreamSlot) : (s.modStream k f).serving = s.serving := rfl
@[simp] theorem State.modStream_dict (s : State) (k : Nat) (f : StreamSlot → StreamSlot) : (s.modStream k f).dict = s.dict := rfl
@[simp] theorem State.modStream_errorLog (s : State) (k : Nat) (f : StreamSlot → StreamSlot) : (s.modStream k f).errorLog = s.errorLog := rfl
@[simp] theorem State.modStream_violationLog (s : State) (k : Nat) (f : StreamSlot → StreamSlot) : (s.modStream k f).violationLog = s.violationLog := rfl
@[simp] theorem State.modStream_refusalLog (s : State) (k : Nat) (f : StreamSlot → StreamSlot) : (s.modStream k f).refusalLog = s.refusalLog := rfl
@[simp] theorem State.modStream_svc (s : State) (k : Nat) (f : StreamSlot → StreamSlot) : (s.modStream k f).svc = s.svc := rfl
@[simp] theorem State.modStream_time (s : State) (k : Nat) (f : StreamSlot → StreamSlot) : (s.modStream k f).time = s.time := rfl
@[simp] theorem State.modStream_slots (s : State) (k : Nat) (f : StreamSlot → StreamSlot) : (s.modStream k f).slots = s.slots := rfl
@[simp] theorem State.modStream_coreMapGen (s : State) (k : Nat) (f : StreamSlot → StreamSlot) : (s.modStream k f).coreMapGen = s.coreMapGen := rfl
@[simp] theorem State.modStream_replacing (s : State) (k : Nat) (f : StreamSlot → StreamSlot) : (s.modStream k f).replacing = s.replacing := rfl
@[simp] theorem State.modStream_accStreamKib (s : State) (k : Nat) (f : StreamSlot → StreamSlot) : (s.modStream k f).accStreamKib = s.accStreamKib := rfl
@[simp] theorem State.modStream_streamBytes (s : State) (k : Nat) (f : StreamSlot → StreamSlot) : (s.modStream k f).streamBytes = s.streamBytes := rfl
@[simp] theorem State.modStream_parts (s : State) (k : Nat) (f : StreamSlot → StreamSlot) : (s.modStream k f).parts = s.parts := rfl
@[simp] theorem State.modStream_objects (s : State) (k : Nat) (f : StreamSlot → StreamSlot) : (s.modStream k f).objects = s.objects := rfl
@[simp] theorem State.modStream_objGens (s : State) (k : Nat) (f : StreamSlot → StreamSlot) : (s.modStream k f).objGens = s.objGens := rfl
@[simp] theorem State.modStream_trace (s : State) (k : Nat) (f : StreamSlot → StreamSlot) : (s.modStream k f).trace = s.trace := rfl
@[simp] theorem State.modStream_peer (s : State) (k : Nat) (f : StreamSlot → StreamSlot) : (s.modStream k f).peer = s.peer := rfl
@[simp] theorem State.modStream_keys (s : State) (k : Nat) (f : StreamSlot → StreamSlot) : (s.modStream k f).keys = s.keys := rfl
@[simp] theorem State.modStream_tileCapRefusals (s : State) (k : Nat) (f : StreamSlot → StreamSlot) : (s.modStream k f).tileCapRefusals = s.tileCapRefusals := rfl
@[simp] theorem State.modStream_tiers (s : State) (k : Nat) (f : StreamSlot → StreamSlot) : (s.modStream k f).tiers = s.tiers := rfl
@[simp] theorem State.modStream_ascend (s : State) (k : Nat) (f : StreamSlot → StreamSlot) : (s.modStream k f).ascend = s.ascend := rfl
@[simp] theorem State.modStream_afe (s : State) (k : Nat) (f : StreamSlot → StreamSlot) : (s.modStream k f).afe = s.afe := rfl
@[simp] theorem State.modStream_net (s : State) (k : Nat) (f : StreamSlot → StreamSlot) : (s.modStream k f).net = s.net := rfl
@[simp] theorem State.modStream_image (s : State) (k : Nat) (f : StreamSlot → StreamSlot) : (s.modStream k f).image = s.image := rfl
@[simp] theorem State.modStream_power (s : State) (k : Nat) (f : StreamSlot → StreamSlot) : (s.modStream k f).power = s.power := rfl
@[simp] theorem State.modStream_cascade (s : State) (k : Nat) (f : StreamSlot → StreamSlot) : (s.modStream k f).cascade = s.cascade := rfl
@[simp] theorem State.modStream_sec (s : State) (k : Nat) (f : StreamSlot → StreamSlot) : (s.modStream k f).sec = s.sec := rfl
@[simp] theorem State.modStream_ras (s : State) (k : Nat) (f : StreamSlot → StreamSlot) : (s.modStream k f).ras = s.ras := rfl

/-! ### setObj -/

@[simp] theorem State.setObj_pending (s : State) (p i k : Nat) (v : Bytes) : (s.setObj p i k v).pending = s.pending := rfl
@[simp] theorem State.setObj_sent (s : State) (p i k : Nat) (v : Bytes) : (s.setObj p i k v).sent = s.sent := rfl
@[simp] theorem State.setObj_freeCount (s : State) (p i k : Nat) (v : Bytes) : (s.setObj p i k v).freeCount = s.freeCount := rfl
@[simp] theorem State.setObj_mode (s : State) (p i k : Nat) (v : Bytes) : (s.setObj p i k v).mode = s.mode := rfl
@[simp] theorem State.setObj_serving (s : State) (p i k : Nat) (v : Bytes) : (s.setObj p i k v).serving = s.serving := rfl
@[simp] theorem State.setObj_errorLog (s : State) (p i k : Nat) (v : Bytes) : (s.setObj p i k v).errorLog = s.errorLog := rfl
@[simp] theorem State.setObj_violationLog (s : State) (p i k : Nat) (v : Bytes) : (s.setObj p i k v).violationLog = s.violationLog := rfl
@[simp] theorem State.setObj_refusalLog (s : State) (p i k : Nat) (v : Bytes) : (s.setObj p i k v).refusalLog = s.refusalLog := rfl
@[simp] theorem State.setObj_svc (s : State) (p i k : Nat) (v : Bytes) : (s.setObj p i k v).svc = s.svc := rfl
@[simp] theorem State.setObj_time (s : State) (p i k : Nat) (v : Bytes) : (s.setObj p i k v).time = s.time := rfl
@[simp] theorem State.setObj_slots (s : State) (p i k : Nat) (v : Bytes) : (s.setObj p i k v).slots = s.slots := rfl
@[simp] theorem State.setObj_coreMapGen (s : State) (p i k : Nat) (v : Bytes) : (s.setObj p i k v).coreMapGen = s.coreMapGen := rfl
@[simp] theorem State.setObj_replacing (s : State) (p i k : Nat) (v : Bytes) : (s.setObj p i k v).replacing = s.replacing := rfl
@[simp] theorem State.setObj_accStreamKib (s : State) (p i k : Nat) (v : Bytes) : (s.setObj p i k v).accStreamKib = s.accStreamKib := rfl
@[simp] theorem State.setObj_streamBytes (s : State) (p i k : Nat) (v : Bytes) : (s.setObj p i k v).streamBytes = s.streamBytes := rfl
@[simp] theorem State.setObj_streams (s : State) (p i k : Nat) (v : Bytes) : (s.setObj p i k v).streams = s.streams := rfl
@[simp] theorem State.setObj_parts (s : State) (p i k : Nat) (v : Bytes) : (s.setObj p i k v).parts = s.parts := rfl
@[simp] theorem State.setObj_objects (s : State) (p i k : Nat) (v : Bytes) : (s.setObj p i k v).objects = s.objects := rfl
@[simp] theorem State.setObj_objGens (s : State) (p i k : Nat) (v : Bytes) : (s.setObj p i k v).objGens = s.objGens := rfl
@[simp] theorem State.setObj_trace (s : State) (p i k : Nat) (v : Bytes) : (s.setObj p i k v).trace = s.trace := rfl
@[simp] theorem State.setObj_peer (s : State) (p i k : Nat) (v : Bytes) : (s.setObj p i k v).peer = s.peer := rfl
@[simp] theorem State.setObj_keys (s : State) (p i k : Nat) (v : Bytes) : (s.setObj p i k v).keys = s.keys := rfl
@[simp] theorem State.setObj_tileCapRefusals (s : State) (p i k : Nat) (v : Bytes) : (s.setObj p i k v).tileCapRefusals = s.tileCapRefusals := rfl
@[simp] theorem State.setObj_tiers (s : State) (p i k : Nat) (v : Bytes) : (s.setObj p i k v).tiers = s.tiers := rfl
@[simp] theorem State.setObj_ascend (s : State) (p i k : Nat) (v : Bytes) : (s.setObj p i k v).ascend = s.ascend := rfl
@[simp] theorem State.setObj_afe (s : State) (p i k : Nat) (v : Bytes) : (s.setObj p i k v).afe = s.afe := rfl
@[simp] theorem State.setObj_net (s : State) (p i k : Nat) (v : Bytes) : (s.setObj p i k v).net = s.net := rfl
@[simp] theorem State.setObj_image (s : State) (p i k : Nat) (v : Bytes) : (s.setObj p i k v).image = s.image := rfl
@[simp] theorem State.setObj_power (s : State) (p i k : Nat) (v : Bytes) : (s.setObj p i k v).power = s.power := rfl
@[simp] theorem State.setObj_cascade (s : State) (p i k : Nat) (v : Bytes) : (s.setObj p i k v).cascade = s.cascade := rfl
@[simp] theorem State.setObj_sec (s : State) (p i k : Nat) (v : Bytes) : (s.setObj p i k v).sec = s.sec := rfl
@[simp] theorem State.setObj_ras (s : State) (p i k : Nat) (v : Bytes) : (s.setObj p i k v).ras = s.ras := rfl

/-! ### modTrig -/

@[simp] theorem State.modTrig_pending (s : State) (k : Nat) (f : Trigger → Trigger) : (s.modTrig k f).pending = s.pending := rfl
@[simp] theorem State.modTrig_sent (s : State) (k : Nat) (f : Trigger → Trigger) : (s.modTrig k f).sent = s.sent := rfl
@[simp] theorem State.modTrig_freeCount (s : State) (k : Nat) (f : Trigger → Trigger) : (s.modTrig k f).freeCount = s.freeCount := rfl
@[simp] theorem State.modTrig_mode (s : State) (k : Nat) (f : Trigger → Trigger) : (s.modTrig k f).mode = s.mode := rfl
@[simp] theorem State.modTrig_serving (s : State) (k : Nat) (f : Trigger → Trigger) : (s.modTrig k f).serving = s.serving := rfl
@[simp] theorem State.modTrig_dict (s : State) (k : Nat) (f : Trigger → Trigger) : (s.modTrig k f).dict = s.dict := rfl
@[simp] theorem State.modTrig_errorLog (s : State) (k : Nat) (f : Trigger → Trigger) : (s.modTrig k f).errorLog = s.errorLog := rfl
@[simp] theorem State.modTrig_violationLog (s : State) (k : Nat) (f : Trigger → Trigger) : (s.modTrig k f).violationLog = s.violationLog := rfl
@[simp] theorem State.modTrig_refusalLog (s : State) (k : Nat) (f : Trigger → Trigger) : (s.modTrig k f).refusalLog = s.refusalLog := rfl
@[simp] theorem State.modTrig_svc (s : State) (k : Nat) (f : Trigger → Trigger) : (s.modTrig k f).svc = s.svc := rfl
@[simp] theorem State.modTrig_slots (s : State) (k : Nat) (f : Trigger → Trigger) : (s.modTrig k f).slots = s.slots := rfl
@[simp] theorem State.modTrig_coreMapGen (s : State) (k : Nat) (f : Trigger → Trigger) : (s.modTrig k f).coreMapGen = s.coreMapGen := rfl
@[simp] theorem State.modTrig_replacing (s : State) (k : Nat) (f : Trigger → Trigger) : (s.modTrig k f).replacing = s.replacing := rfl
@[simp] theorem State.modTrig_accStreamKib (s : State) (k : Nat) (f : Trigger → Trigger) : (s.modTrig k f).accStreamKib = s.accStreamKib := rfl
@[simp] theorem State.modTrig_streamBytes (s : State) (k : Nat) (f : Trigger → Trigger) : (s.modTrig k f).streamBytes = s.streamBytes := rfl
@[simp] theorem State.modTrig_streams (s : State) (k : Nat) (f : Trigger → Trigger) : (s.modTrig k f).streams = s.streams := rfl
@[simp] theorem State.modTrig_parts (s : State) (k : Nat) (f : Trigger → Trigger) : (s.modTrig k f).parts = s.parts := rfl
@[simp] theorem State.modTrig_objects (s : State) (k : Nat) (f : Trigger → Trigger) : (s.modTrig k f).objects = s.objects := rfl
@[simp] theorem State.modTrig_objGens (s : State) (k : Nat) (f : Trigger → Trigger) : (s.modTrig k f).objGens = s.objGens := rfl
@[simp] theorem State.modTrig_trace (s : State) (k : Nat) (f : Trigger → Trigger) : (s.modTrig k f).trace = s.trace := rfl
@[simp] theorem State.modTrig_peer (s : State) (k : Nat) (f : Trigger → Trigger) : (s.modTrig k f).peer = s.peer := rfl
@[simp] theorem State.modTrig_keys (s : State) (k : Nat) (f : Trigger → Trigger) : (s.modTrig k f).keys = s.keys := rfl
@[simp] theorem State.modTrig_tileCapRefusals (s : State) (k : Nat) (f : Trigger → Trigger) : (s.modTrig k f).tileCapRefusals = s.tileCapRefusals := rfl
@[simp] theorem State.modTrig_tiers (s : State) (k : Nat) (f : Trigger → Trigger) : (s.modTrig k f).tiers = s.tiers := rfl
@[simp] theorem State.modTrig_ascend (s : State) (k : Nat) (f : Trigger → Trigger) : (s.modTrig k f).ascend = s.ascend := rfl
@[simp] theorem State.modTrig_afe (s : State) (k : Nat) (f : Trigger → Trigger) : (s.modTrig k f).afe = s.afe := rfl
@[simp] theorem State.modTrig_net (s : State) (k : Nat) (f : Trigger → Trigger) : (s.modTrig k f).net = s.net := rfl
@[simp] theorem State.modTrig_image (s : State) (k : Nat) (f : Trigger → Trigger) : (s.modTrig k f).image = s.image := rfl
@[simp] theorem State.modTrig_power (s : State) (k : Nat) (f : Trigger → Trigger) : (s.modTrig k f).power = s.power := rfl
@[simp] theorem State.modTrig_cascade (s : State) (k : Nat) (f : Trigger → Trigger) : (s.modTrig k f).cascade = s.cascade := rfl
@[simp] theorem State.modTrig_sec (s : State) (k : Nat) (f : Trigger → Trigger) : (s.modTrig k f).sec = s.sec := rfl
@[simp] theorem State.modTrig_ras (s : State) (k : Nat) (f : Trigger → Trigger) : (s.modTrig k f).ras = s.ras := rfl

/-! ### The clock that an event is reached at -/

/-- An event's time moves the counter in force and nothing else. -/
theorem State.reach_eq (s : State) (k : Nat) : s.reach k = { s with time := (s.reach k).time } := by
  unfold State.reach; by_cases h : s.time.nsInForce <;> simp [h]

@[simp] theorem State.reach_pending (s : State) (k : Nat) : (s.reach k).pending = s.pending := by rw [State.reach_eq]
@[simp] theorem State.reach_sent (s : State) (k : Nat) : (s.reach k).sent = s.sent := by rw [State.reach_eq]
@[simp] theorem State.reach_freeCount (s : State) (k : Nat) : (s.reach k).freeCount = s.freeCount := by rw [State.reach_eq]
@[simp] theorem State.reach_mode (s : State) (k : Nat) : (s.reach k).mode = s.mode := by rw [State.reach_eq]
@[simp] theorem State.reach_serving (s : State) (k : Nat) : (s.reach k).serving = s.serving := by rw [State.reach_eq]
@[simp] theorem State.reach_dict (s : State) (k : Nat) : (s.reach k).dict = s.dict := by rw [State.reach_eq]
@[simp] theorem State.reach_errorLog (s : State) (k : Nat) : (s.reach k).errorLog = s.errorLog := by rw [State.reach_eq]
@[simp] theorem State.reach_violationLog (s : State) (k : Nat) : (s.reach k).violationLog = s.violationLog := by rw [State.reach_eq]
@[simp] theorem State.reach_refusalLog (s : State) (k : Nat) : (s.reach k).refusalLog = s.refusalLog := by rw [State.reach_eq]
@[simp] theorem State.reach_svc (s : State) (k : Nat) : (s.reach k).svc = s.svc := by rw [State.reach_eq]
@[simp] theorem State.reach_slots (s : State) (k : Nat) : (s.reach k).slots = s.slots := by rw [State.reach_eq]
@[simp] theorem State.reach_coreMapGen (s : State) (k : Nat) : (s.reach k).coreMapGen = s.coreMapGen := by rw [State.reach_eq]
@[simp] theorem State.reach_replacing (s : State) (k : Nat) : (s.reach k).replacing = s.replacing := by rw [State.reach_eq]
@[simp] theorem State.reach_accStreamKib (s : State) (k : Nat) : (s.reach k).accStreamKib = s.accStreamKib := by rw [State.reach_eq]
@[simp] theorem State.reach_streamBytes (s : State) (k : Nat) : (s.reach k).streamBytes = s.streamBytes := by rw [State.reach_eq]
@[simp] theorem State.reach_streams (s : State) (k : Nat) : (s.reach k).streams = s.streams := by rw [State.reach_eq]
@[simp] theorem State.reach_parts (s : State) (k : Nat) : (s.reach k).parts = s.parts := by rw [State.reach_eq]
@[simp] theorem State.reach_objects (s : State) (k : Nat) : (s.reach k).objects = s.objects := by rw [State.reach_eq]
@[simp] theorem State.reach_objGens (s : State) (k : Nat) : (s.reach k).objGens = s.objGens := by rw [State.reach_eq]
@[simp] theorem State.reach_trace (s : State) (k : Nat) : (s.reach k).trace = s.trace := by rw [State.reach_eq]
@[simp] theorem State.reach_peer (s : State) (k : Nat) : (s.reach k).peer = s.peer := by rw [State.reach_eq]
@[simp] theorem State.reach_keys (s : State) (k : Nat) : (s.reach k).keys = s.keys := by rw [State.reach_eq]
@[simp] theorem State.reach_tileCapRefusals (s : State) (k : Nat) : (s.reach k).tileCapRefusals = s.tileCapRefusals := by rw [State.reach_eq]
@[simp] theorem State.reach_tiers (s : State) (k : Nat) : (s.reach k).tiers = s.tiers := by rw [State.reach_eq]
@[simp] theorem State.reach_ascend (s : State) (k : Nat) : (s.reach k).ascend = s.ascend := by rw [State.reach_eq]
@[simp] theorem State.reach_afe (s : State) (k : Nat) : (s.reach k).afe = s.afe := by rw [State.reach_eq]
@[simp] theorem State.reach_net (s : State) (k : Nat) : (s.reach k).net = s.net := by rw [State.reach_eq]
@[simp] theorem State.reach_image (s : State) (k : Nat) : (s.reach k).image = s.image := by rw [State.reach_eq]
@[simp] theorem State.reach_power (s : State) (k : Nat) : (s.reach k).power = s.power := by rw [State.reach_eq]
@[simp] theorem State.reach_cascade (s : State) (k : Nat) : (s.reach k).cascade = s.cascade := by rw [State.reach_eq]
@[simp] theorem State.reach_sec (s : State) (k : Nat) : (s.reach k).sec = s.sec := by rw [State.reach_eq]
@[simp] theorem State.reach_ras (s : State) (k : Nat) : (s.reach k).ras = s.ras := by rw [State.reach_eq]

/-! ### Trace and logs -/

/-- A capture changes the trace regions and nothing else. -/
theorem State.capture_eq (s : State) (r k : Nat) (b : Bytes) : s.capture r k b = { s with trace := (s.capture r k b).trace } := by
  unfold State.capture; dsimp only
  by_cases h : (!(s.traceKinds r).testBit (if r < 8 then k - 1 else k - 32)) = true
  · simp only [if_pos h]
  · simp only [if_neg h]

@[simp] theorem State.capture_pending (s : State) (r k : Nat) (b : Bytes) : (s.capture r k b).pending = s.pending := by rw [State.capture_eq]
@[simp] theorem State.capture_sent (s : State) (r k : Nat) (b : Bytes) : (s.capture r k b).sent = s.sent := by rw [State.capture_eq]
@[simp] theorem State.capture_freeCount (s : State) (r k : Nat) (b : Bytes) : (s.capture r k b).freeCount = s.freeCount := by rw [State.capture_eq]
@[simp] theorem State.capture_mode (s : State) (r k : Nat) (b : Bytes) : (s.capture r k b).mode = s.mode := by rw [State.capture_eq]
@[simp] theorem State.capture_serving (s : State) (r k : Nat) (b : Bytes) : (s.capture r k b).serving = s.serving := by rw [State.capture_eq]
@[simp] theorem State.capture_dict (s : State) (r k : Nat) (b : Bytes) : (s.capture r k b).dict = s.dict := by rw [State.capture_eq]
@[simp] theorem State.capture_errorLog (s : State) (r k : Nat) (b : Bytes) : (s.capture r k b).errorLog = s.errorLog := by rw [State.capture_eq]
@[simp] theorem State.capture_violationLog (s : State) (r k : Nat) (b : Bytes) : (s.capture r k b).violationLog = s.violationLog := by rw [State.capture_eq]
@[simp] theorem State.capture_refusalLog (s : State) (r k : Nat) (b : Bytes) : (s.capture r k b).refusalLog = s.refusalLog := by rw [State.capture_eq]
@[simp] theorem State.capture_svc (s : State) (r k : Nat) (b : Bytes) : (s.capture r k b).svc = s.svc := by rw [State.capture_eq]
@[simp] theorem State.capture_time (s : State) (r k : Nat) (b : Bytes) : (s.capture r k b).time = s.time := by rw [State.capture_eq]
@[simp] theorem State.capture_slots (s : State) (r k : Nat) (b : Bytes) : (s.capture r k b).slots = s.slots := by rw [State.capture_eq]
@[simp] theorem State.capture_coreMapGen (s : State) (r k : Nat) (b : Bytes) : (s.capture r k b).coreMapGen = s.coreMapGen := by rw [State.capture_eq]
@[simp] theorem State.capture_replacing (s : State) (r k : Nat) (b : Bytes) : (s.capture r k b).replacing = s.replacing := by rw [State.capture_eq]
@[simp] theorem State.capture_accStreamKib (s : State) (r k : Nat) (b : Bytes) : (s.capture r k b).accStreamKib = s.accStreamKib := by rw [State.capture_eq]
@[simp] theorem State.capture_streamBytes (s : State) (r k : Nat) (b : Bytes) : (s.capture r k b).streamBytes = s.streamBytes := by rw [State.capture_eq]
@[simp] theorem State.capture_streams (s : State) (r k : Nat) (b : Bytes) : (s.capture r k b).streams = s.streams := by rw [State.capture_eq]
@[simp] theorem State.capture_parts (s : State) (r k : Nat) (b : Bytes) : (s.capture r k b).parts = s.parts := by rw [State.capture_eq]
@[simp] theorem State.capture_objects (s : State) (r k : Nat) (b : Bytes) : (s.capture r k b).objects = s.objects := by rw [State.capture_eq]
@[simp] theorem State.capture_objGens (s : State) (r k : Nat) (b : Bytes) : (s.capture r k b).objGens = s.objGens := by rw [State.capture_eq]
@[simp] theorem State.capture_peer (s : State) (r k : Nat) (b : Bytes) : (s.capture r k b).peer = s.peer := by rw [State.capture_eq]
@[simp] theorem State.capture_keys (s : State) (r k : Nat) (b : Bytes) : (s.capture r k b).keys = s.keys := by rw [State.capture_eq]
@[simp] theorem State.capture_tileCapRefusals (s : State) (r k : Nat) (b : Bytes) : (s.capture r k b).tileCapRefusals = s.tileCapRefusals := by rw [State.capture_eq]
@[simp] theorem State.capture_tiers (s : State) (r k : Nat) (b : Bytes) : (s.capture r k b).tiers = s.tiers := by rw [State.capture_eq]
@[simp] theorem State.capture_ascend (s : State) (r k : Nat) (b : Bytes) : (s.capture r k b).ascend = s.ascend := by rw [State.capture_eq]
@[simp] theorem State.capture_afe (s : State) (r k : Nat) (b : Bytes) : (s.capture r k b).afe = s.afe := by rw [State.capture_eq]
@[simp] theorem State.capture_net (s : State) (r k : Nat) (b : Bytes) : (s.capture r k b).net = s.net := by rw [State.capture_eq]
@[simp] theorem State.capture_image (s : State) (r k : Nat) (b : Bytes) : (s.capture r k b).image = s.image := by rw [State.capture_eq]
@[simp] theorem State.capture_power (s : State) (r k : Nat) (b : Bytes) : (s.capture r k b).power = s.power := by rw [State.capture_eq]
@[simp] theorem State.capture_cascade (s : State) (r k : Nat) (b : Bytes) : (s.capture r k b).cascade = s.cascade := by rw [State.capture_eq]
@[simp] theorem State.capture_sec (s : State) (r k : Nat) (b : Bytes) : (s.capture r k b).sec = s.sec := by rw [State.capture_eq]
@[simp] theorem State.capture_ras (s : State) (r k : Nat) (b : Bytes) : (s.capture r k b).ras = s.ras := by rw [State.capture_eq]

/-- A record of this log changes the log, by one event, the streams that it feeds, the device's trace and the interrupt of R490, and nothing else. -/
theorem State.logError_eq (s : State) (c k o : Nat) (d : Bytes) :
    s.logError c k o d = { s with svc := s.svc.streamRecord 0x1200 s.errorLog (s.record c k o d), sent := (s.errorEntry (s.record c k o d)).sent, errorLog := s.errorLog.add 1024 (s.record c k o d), trace := (s.logError c k o d).trace } := by
  unfold State.logError; dsimp only
  by_cases h : k = 0xFF
  · simp only [if_pos h]; rw [State.capture_eq]; rfl
  · simp only [if_neg h]; rfl

@[simp] theorem State.logError_pending (s : State) (c k o : Nat) (d : Bytes) : (s.logError c k o d).pending = s.pending := by rw [State.logError_eq]
@[simp] theorem State.logError_sent (s : State) (c k o : Nat) (d : Bytes) : (s.logError c k o d).sent = (s.errorEntry (s.record c k o d)).sent := by rw [State.logError_eq]
@[simp] theorem State.logError_freeCount (s : State) (c k o : Nat) (d : Bytes) : (s.logError c k o d).freeCount = s.freeCount := by rw [State.logError_eq]
@[simp] theorem State.logError_mode (s : State) (c k o : Nat) (d : Bytes) : (s.logError c k o d).mode = s.mode := by rw [State.logError_eq]
@[simp] theorem State.logError_serving (s : State) (c k o : Nat) (d : Bytes) : (s.logError c k o d).serving = s.serving := by rw [State.logError_eq]
@[simp] theorem State.logError_dict (s : State) (c k o : Nat) (d : Bytes) : (s.logError c k o d).dict = s.dict := by rw [State.logError_eq]
@[simp] theorem State.logError_errorLog (s : State) (c k o : Nat) (d : Bytes) : (s.logError c k o d).errorLog = s.errorLog.add 1024 (s.record c k o d) := by rw [State.logError_eq]
@[simp] theorem State.logError_violationLog (s : State) (c k o : Nat) (d : Bytes) : (s.logError c k o d).violationLog = s.violationLog := by rw [State.logError_eq]
@[simp] theorem State.logError_refusalLog (s : State) (c k o : Nat) (d : Bytes) : (s.logError c k o d).refusalLog = s.refusalLog := by rw [State.logError_eq]
@[simp] theorem State.logError_svc (s : State) (c k o : Nat) (d : Bytes) : (s.logError c k o d).svc = s.svc.streamRecord 0x1200 s.errorLog (s.record c k o d) := by rw [State.logError_eq]
@[simp] theorem State.logError_time (s : State) (c k o : Nat) (d : Bytes) : (s.logError c k o d).time = s.time := by rw [State.logError_eq]
@[simp] theorem State.logError_slots (s : State) (c k o : Nat) (d : Bytes) : (s.logError c k o d).slots = s.slots := by rw [State.logError_eq]
@[simp] theorem State.logError_coreMapGen (s : State) (c k o : Nat) (d : Bytes) : (s.logError c k o d).coreMapGen = s.coreMapGen := by rw [State.logError_eq]
@[simp] theorem State.logError_replacing (s : State) (c k o : Nat) (d : Bytes) : (s.logError c k o d).replacing = s.replacing := by rw [State.logError_eq]
@[simp] theorem State.logError_accStreamKib (s : State) (c k o : Nat) (d : Bytes) : (s.logError c k o d).accStreamKib = s.accStreamKib := by rw [State.logError_eq]
@[simp] theorem State.logError_streamBytes (s : State) (c k o : Nat) (d : Bytes) : (s.logError c k o d).streamBytes = s.streamBytes := by rw [State.logError_eq]
@[simp] theorem State.logError_streams (s : State) (c k o : Nat) (d : Bytes) : (s.logError c k o d).streams = s.streams := by rw [State.logError_eq]
@[simp] theorem State.logError_parts (s : State) (c k o : Nat) (d : Bytes) : (s.logError c k o d).parts = s.parts := by rw [State.logError_eq]
@[simp] theorem State.logError_objects (s : State) (c k o : Nat) (d : Bytes) : (s.logError c k o d).objects = s.objects := by rw [State.logError_eq]
@[simp] theorem State.logError_objGens (s : State) (c k o : Nat) (d : Bytes) : (s.logError c k o d).objGens = s.objGens := by rw [State.logError_eq]
@[simp] theorem State.logError_peer (s : State) (c k o : Nat) (d : Bytes) : (s.logError c k o d).peer = s.peer := by rw [State.logError_eq]
@[simp] theorem State.logError_keys (s : State) (c k o : Nat) (d : Bytes) : (s.logError c k o d).keys = s.keys := by rw [State.logError_eq]
@[simp] theorem State.logError_tileCapRefusals (s : State) (c k o : Nat) (d : Bytes) : (s.logError c k o d).tileCapRefusals = s.tileCapRefusals := by rw [State.logError_eq]
@[simp] theorem State.logError_tiers (s : State) (c k o : Nat) (d : Bytes) : (s.logError c k o d).tiers = s.tiers := by rw [State.logError_eq]
@[simp] theorem State.logError_ascend (s : State) (c k o : Nat) (d : Bytes) : (s.logError c k o d).ascend = s.ascend := by rw [State.logError_eq]
@[simp] theorem State.logError_afe (s : State) (c k o : Nat) (d : Bytes) : (s.logError c k o d).afe = s.afe := by rw [State.logError_eq]
@[simp] theorem State.logError_net (s : State) (c k o : Nat) (d : Bytes) : (s.logError c k o d).net = s.net := by rw [State.logError_eq]
@[simp] theorem State.logError_image (s : State) (c k o : Nat) (d : Bytes) : (s.logError c k o d).image = s.image := by rw [State.logError_eq]
@[simp] theorem State.logError_power (s : State) (c k o : Nat) (d : Bytes) : (s.logError c k o d).power = s.power := by rw [State.logError_eq]
@[simp] theorem State.logError_cascade (s : State) (c k o : Nat) (d : Bytes) : (s.logError c k o d).cascade = s.cascade := by rw [State.logError_eq]
@[simp] theorem State.logError_sec (s : State) (c k o : Nat) (d : Bytes) : (s.logError c k o d).sec = s.sec := by rw [State.logError_eq]
@[simp] theorem State.logError_ras (s : State) (c k o : Nat) (d : Bytes) : (s.logError c k o d).ras = s.ras := by rw [State.logError_eq]

/-- A record of this log changes the log, by one event, the streams that it feeds and the device's trace, and nothing else. -/
theorem State.logViolation_eq (s : State) (c k o : Nat) (d : Bytes) :
    s.logViolation c k o d = { s with svc := s.svc.streamRecord 0x1210 s.violationLog (s.record c k o d), violationLog := s.violationLog.add 1024 (s.record c k o d), trace := (s.logViolation c k o d).trace } := by
  unfold State.logViolation; dsimp only
  by_cases h : k = 0xFF
  · simp only [if_pos h]; rw [State.capture_eq]; rfl
  · simp only [if_neg h]; rfl

@[simp] theorem State.logViolation_pending (s : State) (c k o : Nat) (d : Bytes) : (s.logViolation c k o d).pending = s.pending := by rw [State.logViolation_eq]
@[simp] theorem State.logViolation_sent (s : State) (c k o : Nat) (d : Bytes) : (s.logViolation c k o d).sent = s.sent := by rw [State.logViolation_eq]
@[simp] theorem State.logViolation_freeCount (s : State) (c k o : Nat) (d : Bytes) : (s.logViolation c k o d).freeCount = s.freeCount := by rw [State.logViolation_eq]
@[simp] theorem State.logViolation_mode (s : State) (c k o : Nat) (d : Bytes) : (s.logViolation c k o d).mode = s.mode := by rw [State.logViolation_eq]
@[simp] theorem State.logViolation_serving (s : State) (c k o : Nat) (d : Bytes) : (s.logViolation c k o d).serving = s.serving := by rw [State.logViolation_eq]
@[simp] theorem State.logViolation_dict (s : State) (c k o : Nat) (d : Bytes) : (s.logViolation c k o d).dict = s.dict := by rw [State.logViolation_eq]
@[simp] theorem State.logViolation_errorLog (s : State) (c k o : Nat) (d : Bytes) : (s.logViolation c k o d).errorLog = s.errorLog := by rw [State.logViolation_eq]
@[simp] theorem State.logViolation_violationLog (s : State) (c k o : Nat) (d : Bytes) : (s.logViolation c k o d).violationLog = s.violationLog.add 1024 (s.record c k o d) := by rw [State.logViolation_eq]
@[simp] theorem State.logViolation_refusalLog (s : State) (c k o : Nat) (d : Bytes) : (s.logViolation c k o d).refusalLog = s.refusalLog := by rw [State.logViolation_eq]
@[simp] theorem State.logViolation_svc (s : State) (c k o : Nat) (d : Bytes) : (s.logViolation c k o d).svc = s.svc.streamRecord 0x1210 s.violationLog (s.record c k o d) := by rw [State.logViolation_eq]
@[simp] theorem State.logViolation_time (s : State) (c k o : Nat) (d : Bytes) : (s.logViolation c k o d).time = s.time := by rw [State.logViolation_eq]
@[simp] theorem State.logViolation_slots (s : State) (c k o : Nat) (d : Bytes) : (s.logViolation c k o d).slots = s.slots := by rw [State.logViolation_eq]
@[simp] theorem State.logViolation_coreMapGen (s : State) (c k o : Nat) (d : Bytes) : (s.logViolation c k o d).coreMapGen = s.coreMapGen := by rw [State.logViolation_eq]
@[simp] theorem State.logViolation_replacing (s : State) (c k o : Nat) (d : Bytes) : (s.logViolation c k o d).replacing = s.replacing := by rw [State.logViolation_eq]
@[simp] theorem State.logViolation_accStreamKib (s : State) (c k o : Nat) (d : Bytes) : (s.logViolation c k o d).accStreamKib = s.accStreamKib := by rw [State.logViolation_eq]
@[simp] theorem State.logViolation_streamBytes (s : State) (c k o : Nat) (d : Bytes) : (s.logViolation c k o d).streamBytes = s.streamBytes := by rw [State.logViolation_eq]
@[simp] theorem State.logViolation_streams (s : State) (c k o : Nat) (d : Bytes) : (s.logViolation c k o d).streams = s.streams := by rw [State.logViolation_eq]
@[simp] theorem State.logViolation_parts (s : State) (c k o : Nat) (d : Bytes) : (s.logViolation c k o d).parts = s.parts := by rw [State.logViolation_eq]
@[simp] theorem State.logViolation_objects (s : State) (c k o : Nat) (d : Bytes) : (s.logViolation c k o d).objects = s.objects := by rw [State.logViolation_eq]
@[simp] theorem State.logViolation_objGens (s : State) (c k o : Nat) (d : Bytes) : (s.logViolation c k o d).objGens = s.objGens := by rw [State.logViolation_eq]
@[simp] theorem State.logViolation_peer (s : State) (c k o : Nat) (d : Bytes) : (s.logViolation c k o d).peer = s.peer := by rw [State.logViolation_eq]
@[simp] theorem State.logViolation_keys (s : State) (c k o : Nat) (d : Bytes) : (s.logViolation c k o d).keys = s.keys := by rw [State.logViolation_eq]
@[simp] theorem State.logViolation_tileCapRefusals (s : State) (c k o : Nat) (d : Bytes) : (s.logViolation c k o d).tileCapRefusals = s.tileCapRefusals := by rw [State.logViolation_eq]
@[simp] theorem State.logViolation_tiers (s : State) (c k o : Nat) (d : Bytes) : (s.logViolation c k o d).tiers = s.tiers := by rw [State.logViolation_eq]
@[simp] theorem State.logViolation_ascend (s : State) (c k o : Nat) (d : Bytes) : (s.logViolation c k o d).ascend = s.ascend := by rw [State.logViolation_eq]
@[simp] theorem State.logViolation_afe (s : State) (c k o : Nat) (d : Bytes) : (s.logViolation c k o d).afe = s.afe := by rw [State.logViolation_eq]
@[simp] theorem State.logViolation_net (s : State) (c k o : Nat) (d : Bytes) : (s.logViolation c k o d).net = s.net := by rw [State.logViolation_eq]
@[simp] theorem State.logViolation_image (s : State) (c k o : Nat) (d : Bytes) : (s.logViolation c k o d).image = s.image := by rw [State.logViolation_eq]
@[simp] theorem State.logViolation_power (s : State) (c k o : Nat) (d : Bytes) : (s.logViolation c k o d).power = s.power := by rw [State.logViolation_eq]
@[simp] theorem State.logViolation_cascade (s : State) (c k o : Nat) (d : Bytes) : (s.logViolation c k o d).cascade = s.cascade := by rw [State.logViolation_eq]
@[simp] theorem State.logViolation_sec (s : State) (c k o : Nat) (d : Bytes) : (s.logViolation c k o d).sec = s.sec := by rw [State.logViolation_eq]
@[simp] theorem State.logViolation_ras (s : State) (c k o : Nat) (d : Bytes) : (s.logViolation c k o d).ras = s.ras := by rw [State.logViolation_eq]

/-- A record of this log changes the log, by one event, the streams that it feeds and the device's trace, and nothing else. -/
theorem State.logRefusal_eq (s : State) (c k o : Nat) (d : Bytes) :
    s.logRefusal c k o d = { s with svc := s.svc.streamRecord 0x1420 s.refusalLog (s.record c k o d), refusalLog := s.refusalLog.add 256 (s.record c k o d), trace := (s.logRefusal c k o d).trace } := by
  unfold State.logRefusal; dsimp only
  by_cases h : k = 0xFF
  · simp only [if_pos h]; rw [State.capture_eq]; rfl
  · simp only [if_neg h]; rfl

@[simp] theorem State.logRefusal_pending (s : State) (c k o : Nat) (d : Bytes) : (s.logRefusal c k o d).pending = s.pending := by rw [State.logRefusal_eq]
@[simp] theorem State.logRefusal_sent (s : State) (c k o : Nat) (d : Bytes) : (s.logRefusal c k o d).sent = s.sent := by rw [State.logRefusal_eq]
@[simp] theorem State.logRefusal_freeCount (s : State) (c k o : Nat) (d : Bytes) : (s.logRefusal c k o d).freeCount = s.freeCount := by rw [State.logRefusal_eq]
@[simp] theorem State.logRefusal_mode (s : State) (c k o : Nat) (d : Bytes) : (s.logRefusal c k o d).mode = s.mode := by rw [State.logRefusal_eq]
@[simp] theorem State.logRefusal_serving (s : State) (c k o : Nat) (d : Bytes) : (s.logRefusal c k o d).serving = s.serving := by rw [State.logRefusal_eq]
@[simp] theorem State.logRefusal_dict (s : State) (c k o : Nat) (d : Bytes) : (s.logRefusal c k o d).dict = s.dict := by rw [State.logRefusal_eq]
@[simp] theorem State.logRefusal_errorLog (s : State) (c k o : Nat) (d : Bytes) : (s.logRefusal c k o d).errorLog = s.errorLog := by rw [State.logRefusal_eq]
@[simp] theorem State.logRefusal_violationLog (s : State) (c k o : Nat) (d : Bytes) : (s.logRefusal c k o d).violationLog = s.violationLog := by rw [State.logRefusal_eq]
@[simp] theorem State.logRefusal_refusalLog (s : State) (c k o : Nat) (d : Bytes) : (s.logRefusal c k o d).refusalLog = s.refusalLog.add 256 (s.record c k o d) := by rw [State.logRefusal_eq]
@[simp] theorem State.logRefusal_svc (s : State) (c k o : Nat) (d : Bytes) : (s.logRefusal c k o d).svc = s.svc.streamRecord 0x1420 s.refusalLog (s.record c k o d) := by rw [State.logRefusal_eq]
@[simp] theorem State.logRefusal_time (s : State) (c k o : Nat) (d : Bytes) : (s.logRefusal c k o d).time = s.time := by rw [State.logRefusal_eq]
@[simp] theorem State.logRefusal_slots (s : State) (c k o : Nat) (d : Bytes) : (s.logRefusal c k o d).slots = s.slots := by rw [State.logRefusal_eq]
@[simp] theorem State.logRefusal_coreMapGen (s : State) (c k o : Nat) (d : Bytes) : (s.logRefusal c k o d).coreMapGen = s.coreMapGen := by rw [State.logRefusal_eq]
@[simp] theorem State.logRefusal_replacing (s : State) (c k o : Nat) (d : Bytes) : (s.logRefusal c k o d).replacing = s.replacing := by rw [State.logRefusal_eq]
@[simp] theorem State.logRefusal_accStreamKib (s : State) (c k o : Nat) (d : Bytes) : (s.logRefusal c k o d).accStreamKib = s.accStreamKib := by rw [State.logRefusal_eq]
@[simp] theorem State.logRefusal_streamBytes (s : State) (c k o : Nat) (d : Bytes) : (s.logRefusal c k o d).streamBytes = s.streamBytes := by rw [State.logRefusal_eq]
@[simp] theorem State.logRefusal_streams (s : State) (c k o : Nat) (d : Bytes) : (s.logRefusal c k o d).streams = s.streams := by rw [State.logRefusal_eq]
@[simp] theorem State.logRefusal_parts (s : State) (c k o : Nat) (d : Bytes) : (s.logRefusal c k o d).parts = s.parts := by rw [State.logRefusal_eq]
@[simp] theorem State.logRefusal_objects (s : State) (c k o : Nat) (d : Bytes) : (s.logRefusal c k o d).objects = s.objects := by rw [State.logRefusal_eq]
@[simp] theorem State.logRefusal_objGens (s : State) (c k o : Nat) (d : Bytes) : (s.logRefusal c k o d).objGens = s.objGens := by rw [State.logRefusal_eq]
@[simp] theorem State.logRefusal_peer (s : State) (c k o : Nat) (d : Bytes) : (s.logRefusal c k o d).peer = s.peer := by rw [State.logRefusal_eq]
@[simp] theorem State.logRefusal_keys (s : State) (c k o : Nat) (d : Bytes) : (s.logRefusal c k o d).keys = s.keys := by rw [State.logRefusal_eq]
@[simp] theorem State.logRefusal_tileCapRefusals (s : State) (c k o : Nat) (d : Bytes) : (s.logRefusal c k o d).tileCapRefusals = s.tileCapRefusals := by rw [State.logRefusal_eq]
@[simp] theorem State.logRefusal_tiers (s : State) (c k o : Nat) (d : Bytes) : (s.logRefusal c k o d).tiers = s.tiers := by rw [State.logRefusal_eq]
@[simp] theorem State.logRefusal_ascend (s : State) (c k o : Nat) (d : Bytes) : (s.logRefusal c k o d).ascend = s.ascend := by rw [State.logRefusal_eq]
@[simp] theorem State.logRefusal_afe (s : State) (c k o : Nat) (d : Bytes) : (s.logRefusal c k o d).afe = s.afe := by rw [State.logRefusal_eq]
@[simp] theorem State.logRefusal_net (s : State) (c k o : Nat) (d : Bytes) : (s.logRefusal c k o d).net = s.net := by rw [State.logRefusal_eq]
@[simp] theorem State.logRefusal_image (s : State) (c k o : Nat) (d : Bytes) : (s.logRefusal c k o d).image = s.image := by rw [State.logRefusal_eq]
@[simp] theorem State.logRefusal_power (s : State) (c k o : Nat) (d : Bytes) : (s.logRefusal c k o d).power = s.power := by rw [State.logRefusal_eq]
@[simp] theorem State.logRefusal_cascade (s : State) (c k o : Nat) (d : Bytes) : (s.logRefusal c k o d).cascade = s.cascade := by rw [State.logRefusal_eq]
@[simp] theorem State.logRefusal_sec (s : State) (c k o : Nat) (d : Bytes) : (s.logRefusal c k o d).sec = s.sec := by rw [State.logRefusal_eq]
@[simp] theorem State.logRefusal_ras (s : State) (c k o : Nat) (d : Bytes) : (s.logRefusal c k o d).ras = s.ras := by rw [State.logRefusal_eq]

end Sys2Proof.Machine
end

