-- ==== Sys2Proof/Laws/Dict.lean ====
section
/-! SUPPORT. What the answers of the dictionary service change, once for every command that answers. -/

namespace Sys2Proof.Machine

/-- An answer changes the service's own state and what the part gives out, and nothing else. -/
theorem State.respond_eq (rq : Request) (w : Who) (status typ : Nat) (v : Bytes) (s : State) (b : Bool) :
    s.respond rq w status typ v b = { s with svc := (s.respond rq w status typ v b).svc, sent := (s.respond rq w status typ v b).sent } := by
  simp only [State.respond, State.deliver, State.keep, State.timeOnnum]; (repeat' split) <;> rfl

/-- The answer goes out the way the request came, with the tag of its session where it has one. -/
theorem State.respond_sent (rq : Request) (w : Who) (status typ : Nat) (v : Bytes) (s : State) (b : Bool) :
    ∃ tag, Sent.frame rq.source { responseTo rq.frame w.tagged status typ v with tag := tag } ∈ (s.respond rq w status typ v b).sent := by
  refine ⟨((((s.keep w.owner (responseTo rq.frame w.tagged status typ v)).timeOnnum rq.frame b).countOnnum 1).sign
    (responseTo rq.frame w.tagged status typ v)).tag, ?_⟩
  have h : ∀ t : State, { responseTo rq.frame w.tagged status typ v with tag := (t.sign (responseTo rq.frame w.tagged status typ v)).tag } =
      t.sign (responseTo rq.frame w.tagged status typ v) := by
    intro t; unfold State.sign; (repeat' split) <;> rfl
  rw [h]; simp only [State.respond, State.deliver]; split <;> simp

/-- Of the service's state an answer changes only its counts, its latency bins, the window of its session and the response buffer of its function. -/
theorem State.respond_svc (rq : Request) (w : Who) (status typ : Nat) (v : Bytes) (s : State) (b : Bool) :
    let t := s.respond rq w status typ v b
    t.svc = { s.svc with counts := bump s.svc.counts 1, latency := t.svc.latency, sessions := t.svc.sessions, windows := t.svc.windows } := by
  simp only [State.respond, State.deliver, State.keep, State.timeOnnum]; (repeat' split) <;> rfl

/-- An answer keeps the sessions, each with its identity, its class, its credential and its source. -/
theorem State.respond_sessions (rq : Request) (w : Who) (status typ : Nat) (v : Bytes) (s : State) (b : Bool) :
    (s.respond rq w status typ v b).svc.sessions.map (fun e => (e.id, e.tenant, e.credential, e.source)) =
      s.svc.sessions.map (fun e => (e.id, e.tenant, e.credential, e.source)) := by
  simp only [State.respond, State.deliver, State.keep, State.countOnnum, State.timeOnnum, State.windowRespond, State.send]
  (repeat' split) <;> simp [Function.comp_def] <;> (intros; split <;> simp)

end Sys2Proof.Machine
end

