-- ==== Sys2Proof/Laws/Memory.lean ====
section
/-! SUPPORT. The canonical form of a memory: every operation that stores keeps it, and the memories after reset have it. -/

namespace Sys2Proof.Machine

/-- A memory whose entries all lie above an address. -/
def memAbove (a : Nat) (m : List Host.Cell) : Prop := ∀ e ∈ m, a < e.1

theorem memWf_cons (k : Nat) (b : Byte) (m : List Host.Cell) :
    memWf ((k, b) :: m) = true ↔ b ≠ 0 ∧ memAbove k m ∧ memWf m = true := by
  induction m generalizing k b with
  | nil => simp [memWf, memAbove]
  | cons e r ih =>
    obtain ⟨j, c⟩ := e
    have unfolded : memWf ((k, b) :: (j, c) :: r) = true ↔ b ≠ 0 ∧ k < j ∧ memWf ((j, c) :: r) = true := by
      simp [memWf, and_assoc]
    rw [unfolded]
    constructor
    · rintro ⟨hb, hk, hw⟩
      refine ⟨hb, ?_, hw⟩
      intro x hx
      rcases List.mem_cons.mp hx with rfl | hx
      · exact hk
      · exact Nat.lt_trans hk (((ih j c).mp hw).2.1 x hx)
    · rintro ⟨hb, ha, hw⟩
      exact ⟨hb, ha (j, c) (List.mem_cons_self ..), hw⟩

theorem memSet_above {k a : Nat} {m : List Host.Cell} (b : Byte) (hm : memAbove k m) (ha : k < a) : memAbove k (memSet m a b) := by
  induction m with
  | nil =>
    unfold memSet
    split
    · exact hm
    · intro e he
      rcases List.mem_singleton.mp he with rfl
      exact ha
  | cons e r ih =>
    obtain ⟨j, c⟩ := e
    have hr : memAbove k r := fun x hx => hm x (List.mem_cons_of_mem _ hx)
    have hj : k < j := hm (j, c) (List.mem_cons_self ..)
    unfold memSet
    intro x hx
    split at hx
    · split at hx
      · exact hm x hx
      · rcases List.mem_cons.mp hx with rfl | hx
        · exact ha
        · exact hm x hx
    · split at hx
      · split at hx
        · exact hr x hx
        · rcases List.mem_cons.mp hx with rfl | hx
          · exact ha
          · exact hr x hx
      · rcases List.mem_cons.mp hx with rfl | hx
        · exact hj
        · exact ih hr x hx

/-- Storing a byte keeps the canonical form. -/
theorem memSet_wf (m : List Host.Cell) (a : Nat) (b : Byte) (h : memWf m = true) : memWf (memSet m a b) = true := by
  induction m with
  | nil => unfold memSet; split <;> simp_all [memWf]
  | cons e r ih =>
    obtain ⟨k, c⟩ := e
    have hc := (memWf_cons k c r).mp h
    unfold memSet
    split
    · rename_i hlt
      split
      · exact h
      · rename_i hb
        refine (memWf_cons _ _ _).mpr ⟨hb, ?_, h⟩
        intro x hx
        rcases List.mem_cons.mp hx with rfl | hx
        · exact hlt
        · exact Nat.lt_trans hlt (hc.2.1 x hx)
    · split
      · rename_i heq
        split
        · exact hc.2.2
        · rename_i hb
          exact (memWf_cons _ _ _).mpr ⟨hb, heq ▸ hc.2.1, hc.2.2⟩
      · rename_i hlt hne
        exact (memWf_cons _ _ _).mpr ⟨hc.1, memSet_above b hc.2.1 (by omega), ih hc.2.2⟩

/-- Storing bytes keeps the canonical form. -/
theorem memWrite_wf (m : List Host.Cell) (a : Nat) (b : Bytes) (h : memWf m = true) : memWf (memWrite m a b) = true := by
  induction b generalizing m a with
  | nil => exact h
  | cons x r ih => exact ih _ _ (memSet_wf m a x h)

/-- A memory made of bytes is canonical. -/
theorem memOf_wf (b : Bytes) : memWf (memOf b) = true := memWrite_wf [] 0 b rfl

/-- The memories of every slot after reset are canonical. -/
theorem reset_memories_wf :
    (State.reset.slots.all fun x => memWf x.spad && memWf x.acc && memWf x.stream && memWf x.buddy) = true := by decide

end Sys2Proof.Machine
end

