-- ==== Sys2Proof/WellFormed.lean ====
section
/-! DEFINITION. The well-formed commands: every operand a value that the part's own fields, tables or wires can carry. -/

namespace Sys2Proof

/-! ### Ranges -/

/-- A number of so many bits. -/
def fits (bits n : Nat) : Bool := decide (n < 2 ^ bits)
/-- A partition (R359), a DRAM group (R307): 0 to 7. -/
def isPart (n : Nat) : Bool := decide (n < 8)
/-- A context (R362), a prefetcher, a feed, an open transfer: 0 to 15. -/
def isCtx (n : Nat) : Bool := decide (n < 16)
/-- A logical core (R115). -/
def isCore (n : Nat) : Bool := decide (n < 64)
/-- A core slot and its router (R109, R333). -/
def isSlot (n : Nat) : Bool := decide (n < 72)
/-- A PCIe function (R486). -/
def isFunction (n : Nat) : Bool := decide (n < 9)
/-- A 25G port. -/
def isPort (n : Nat) : Bool := decide (n < 2)
/-- A peer-link port (R341), a camera port (R425). -/
def isPeerPort (n : Nat) : Bool := decide (n < 4)
/-- A camera (R426). -/
def isCamera (n : Nat) : Bool := decide (n < 8)
/-- A trigger or capture unit (R466, R470). -/
def isUnit (n : Nat) : Bool := decide (n < 16)
/-- A temperature in 0.1 °C that a sensor can read. -/
def isTemperature (t : Int) : Bool := decide (-1000 ≤ t) && decide (t ≤ 2000)

/-! ### Operands that are records -/

/-- A source of frames (R57). -/
def Source.wf : Source → Bool
  | .eth port addr => isPort port && fits 48 addr
  | .udp port addr => isPort port && fits 160 addr
  | .pcie fn => isFunction fn
  | .mgmt conn => decide (conn < 4)

/-- A frame whose fields fit the header of R54. -/
def Frame.wf (f : Frame) : Bool :=
  fits 8 f.version && fits 7 f.op && fits 8 f.flags && fits 8 f.typ && fits 32 f.session && fits 32 f.seq && fits 16 f.index && fits 8 f.sub &&
  fits 8 f.reserved && fits 16 f.status

/-- A request: its source and its frame. -/
def Request.wf (r : Request) : Bool := r.source.wf && r.frame.wf

/-- A time message whose fields fit (R455). -/
def PtpMsg.wf (m : PtpMsg) : Bool :=
  isPort m.port && fits 4 m.version && fits 4 m.typ && fits 8 m.domain && fits 80 m.source && fits 16 m.sequenceId && fits 112 m.stamp && decide (m.checksum ≤ 2)

/-- The data set of an Announce whose fields fit (R455). -/
def Announce.wf (a : Announce) : Bool :=
  fits 8 a.priority1 && fits 8 a.gmClass && fits 8 a.accuracy && fits 16 a.variance && fits 8 a.priority2 && fits 64 a.grandmaster && fits 16 a.steps

/-- The reserved bits of a peer-link frame's header, in its 192 bits (R343). -/
def peerReserved : Nat := 0xFFFC0000 * 2 ^ 96 + 0xC0000000 * 2 ^ 64 + 0xFFFE0000 * 2 ^ 32 + 0xE00000C0

/-- A peer-link frame whose fields fit (R343). -/
def PeerFrame.wf (f : PeerFrame) : Bool :=
  fits 4 f.typ && fits 2 f.cls && fits 16 f.linkSeq && fits 5 f.lines && fits 16 f.ackSeq && fits 4 f.src && fits 4 f.dst && fits 7 f.dstCore && fits 8 f.pair &&
  fits 4 f.op && fits 15 f.dstLine && fits 3 f.token && fits 16 f.xferSeq && fits 16 f.frameIndex && fits 32 f.detail && decide (f.payload.length = 64 * f.lines) &&
  f.reserved &&& peerReserved == f.reserved

/-- PDM bits: each 0 or 1 (R389). -/
def Sound.wf (x : Sound) : Bool := x.tchirix.all (fits 1) && decide (x.array.length ≤ 32) && x.array.all fun l => l.all (fits 1)

/-- An Ethernet frame whose fields fit (R475, R476). -/
def EtherFrame.wf (f : EtherFrame) : Bool :=
  isPort f.port && fits 48 f.src && fits 48 f.dst && (f.tag.all fun t => fits 12 t.1 && fits 3 t.2) && fits 16 f.length && decide (f.kind ≤ 6)

/-- An RTP packet whose fields fit (R479). -/
def RtpPacket.wf (k : RtpPacket) : Bool :=
  isPort k.port && fits 128 k.dest && fits 128 k.source && fits 16 k.udpPort && fits 2 k.version && fits 7 k.payloadType && fits 16 k.seq && fits 32 k.timestamp &&
  fits 32 k.ssrc && fits 112 k.ticks

/-- The findings of a cold start name parts that exist (R557 to R563). -/
def SelfTest.wf (t : SelfTest) : Bool :=
  isTemperature t.tj && t.plls.all (fits 1) && (t.mcus.all fun n => decide (n < 5)) && t.slots.all isSlot && (t.slices.all fun n => decide (n < 17)) &&
  (t.lanes.all fun e => isPart e.1 && decide (e.2 < 80)) && (t.mics.all fun n => decide (n < 34)) && t.banks.all fun e => decide (e.1 < 4) && fits 1 e.2.1 && fits 8 e.2.2

/-- What a warm request meets (R555, R559, R560). -/
def WarmTest.wf (w : WarmTest) : Bool := isTemperature w.tj && w.drift.all isPart && w.mics.all fun n => decide (n < 32)

/-! ### Commands -/

/-- Whether a command is well formed. -/
def Instr.wf : Instr → Bool
  | .read rq => rq.wf
  | .write rq => rq.wf
  | .readBlock rq => rq.wf
  | .writeBlock rq => rq.wf
  | .segment rq => rq.wf
  | .segmentAck rq => rq.wf
  | .subscribe rq => rq.wf
  | .notifyResponse rq => rq.wf
  | .onnumDoorbell rq => rq.wf
  | .sessionOpen rq => rq.wf
  | .sessionClose rq => rq.wf
  | .segmentGapTimer k => isCtx k
  | .blockTimeout k => isCtx k
  | .sessionIdleTimeout id => fits 32 id
  | .notifyResendTimer id seq => fits 32 id && fits 32 seq
  | .subscriptionDropped id => fits 32 id
  | .subscriptionPeriod id => fits 32 id
  | .reqSubmit fn length f _ => isFunction fn && fits 32 length && f.wf
  | .notifyTail fn register value => isFunction fn && fits 14 register && fits 64 value
  | .windowStatusRead fn => isFunction fn
  | .onnumClientResponse id status payload => fits 32 id && fits 16 status && decide (payload.length ≤ 1280)
  | .clientRetryTimer id => fits 32 id
  | .peerUnreachableTimeout id => fits 32 id
  | .savedWriteProgrammed _ => true
  | .errorClear rq => rq.wf
  | .violationClear rq => rq.wf
  | .refusalClear rq => rq.wf
  | .activeIdleHoldExpiry => true
  | .attendIdleHoldExpiry => true
  | .chimeRejectHoldExpiry => true
  | .cascadeModels rq => rq.wf
  | .answerRequest rq => rq.wf
  | .answerTokensRelay n => decide (n.seq < 2 ^ 32) && decide (n.tokens.length ≤ 1280)
  | .nop p c core => isPart p && isCtx c && isCore core
  | .sync p c core => isPart p && isCtx c && isCore core
  | .syncComplete p c peal k => isPart p && isCtx c && fits 64 peal && fits 32 k
  | .signal p c core => isPart p && isCtx c && isCore core
  | .waitTime p c core => isPart p && isCtx c && isCore core
  | .waitTimeDeadline p c core => isPart p && isCtx c && isCore core
  | .move p c core => isPart p && isCtx c && isCore core
  | .prefetch p c core => isPart p && isCtx c && isCore core
  | .mcast p c core => isPart p && isCtx c && isCore core
  | .gather p c core => isPart p && isCtx c && isCore core
  | .scatter p c core => isPart p && isCtx c && isCore core
  | .matmul p c core => isPart p && isCtx c && isCore core
  | .matmulAcc p c core => isPart p && isCtx c && isCore core
  | .conv2d p c core => isPart p && isCtx c && isCore core
  | .fft p c core => isPart p && isCtx c && isCore core
  | .ewise p c core => isPart p && isCtx c && isCore core
  | .pwl p c core => isPart p && isCtx c && isCore core
  | .reduce p c core => isPart p && isCtx c && isCore core
  | .norm p c core => isPart p && isCtx c && isCore core
  | .softmax p c core => isPart p && isCtx c && isCore core
  | .rotate p c core => isPart p && isCtx c && isCore core
  | .convert p c core => isPart p && isCtx c && isCore core
  | .attnDecode p c core => isPart p && isCtx c && isCore core
  | .attnPrefill p c core => isPart p && isCtx c && isCore core
  | .kvAppend p c core => isPart p && isCtx c && isCore core
  | .kvPublish p c core => isPart p && isCtx c && isCore core
  | .streamStep p c core => isPart p && isCtx c && isCore core
  | .streamGates p c core => isPart p && isCtx c && isCore core
  | .streamRenorm p c core => isPart p && isCtx c && isCore core
  | .streamMove p c core => isPart p && isCtx c && isCore core
  | .peerSend p c core => isPart p && isCtx c && isCore core
  | .peerReduce p c core => isPart p && isCtx c && isCore core
  | .endStroke p c core => isPart p && isCtx c && isCore core
  | .strokeComplete p c core stroke => isPart p && isCtx c && isCore core && fits 32 stroke
  | .tileBoundary p c core stroke => isPart p && isCtx c && isCore core && fits 32 stroke
  | .tokenTimeout p c core => isPart p && isCtx c && isCore core
  | .sramUncorrectable slot _ bank line => isSlot slot && decide (bank < 32) && fits 15 line
  | .logicSelfCheckMismatch slot => isSlot slot
  | .unitTimeout slot => isSlot slot
  | .coreReplacementDone p logical => isPart p && isCore logical
  | .scratchpadPatrol slot bank line bit => isSlot slot && decide (bank < 32) && fits 15 line && bit.all (fits 64)
  | .patternLoad rq => rq.wf
  | .patternUnload rq => rq.wf
  | .bindings rq => rq.wf
  | .stepBoundary p c => isPart p && isCtx c
  | .submissionComplete p c asks _ => isPart p && isCtx c && (asks.all fun b => decide (b.length ≤ 4096))
  | .satGateDecision p c core => isPart p && isCtx c && isCore core
  | .kvPool rq => rq.wf
  | .slotImage rq => rq.wf
  | .slotMoveTo rq => rq.wf
  | .slotClose rq => rq.wf
  | .autoChunkRelease p c k => isPart p && isCtx c && fits 64 k
  | .streamGateUpdate p c => isPart p && isCtx c
  | .prefetchBlockDelivered slot prefetcher => isSlot slot && isCtx prefetcher
  | .cacheWayMask rq => rq.wf
  | .wayRemovalDeferred p => isPart p
  | .sliceFailure slice lost => decide (slice < 17) && lost.all (fits 64)
  | .dramRefresh waiting => waiting.all (fits 64)
  | .refreshPeriodSelect highest => isTemperature highest
  | .dramRetrain waiting => waiting.all (fits 64)
  | .dramCorrectedError group lane row => isPart group && decide (lane < 80) && fits 17 row
  | .dramUncorrectable group handle p c core stroke => isPart group && fits 64 handle && isPart p && isCtx c && isCore core && fits 32 stroke
  | .dramRefetchDone p handle => isPart p && fits 64 handle
  | .dramPatrolScrub group lines errors => isPart group && fits 32 lines && (errors.all fun e => fits 64 e.1 && fits 64 e.2)
  | .flashWindowOpen _ reads bad => reads.all (fun e => decide (e.1 < 131072)) && bad.all (fun b => decide (b < 131072))
  | .flashWindowClose => true
  | .flashReadRetry p handle outcome die block page => isPart p && fits 64 handle && decide (outcome ≤ 2) && fits 8 die && fits 32 block && fits 32 page
  | .objectCreate rq => rq.wf
  | .objectSeal rq => rq.wf
  | .sealComplete handle => fits 64 handle
  | .objectClaim rq => rq.wf
  | .claimComplete p handle => isPart p && fits 64 handle
  | .objectDelete rq => rq.wf
  | .deferredDelete handle => fits 64 handle
  | .objectWindowSel rq => rq.wf
  | .objectWindow rq => rq.wf
  | .readoptObject handle _ => fits 64 handle
  | .meshFlitUncorrectable router port p c core stroke => isSlot router && decide (port < 5) && isPart p && isCtx c && isCore core && fits 32 stroke
  | .peerDataFrame port f => isPeerPort port && f.wf
  | .peerReduceChainFrame port f => isPeerPort port && f.wf
  | .peerReduceOutFrame port f => isPeerPort port && f.wf
  | .peerAckE2e port f => isPeerPort port && f.wf
  | .peerAbort port f => isPeerPort port && f.wf
  | .peerPathDown port f => isPeerPort port && f.wf
  | .peerReserve port f code => isPeerPort port && f.wf && fits 16 code
  | .peerIdentify port id topology member node partnerPort => isPeerPort port && fits 32 id && fits 8 topology && decide (member < 16) && fits 32 node && decide (partnerPort < 4)
  | .peerFrameCrcError port => isPeerPort port
  | .peerNak port ackSeq => isPeerPort port && fits 16 ackSeq
  | .retryBudgetSpent port => isPeerPort port
  | .peerLaneFail port lane => isPeerPort port && decide (lane < 5)
  | .portTrainingDone port _ => isPeerPort port
  | .peerPortFailed port => isPeerPort port
  | .collTimeout p c core stroke => isPart p && isCtx c && isCore core && fits 32 stroke
  | .partitionRun rq => rq.wf
  | .partitionReset rq => rq.wf
  | .tenantReset rq => rq.wf
  | .partitionResetDone p => isPart p
  | .ctxClass rq => rq.wf
  | .doorbell rq => rq.wf
  | .beatStart p c k => isPart p && isCtx c && fits 64 k
  | .releaseTime p c => isPart p && isCtx c
  | .urgentDoorbellRelease p c => isPart p && isCtx c
  | .powerDutyUpdate means => decide (means.length = 8) && means.all (fits 32)
  | .chainSettleEnd _ => true
  | .micInputFailed input => decide (input < 34)
  | .atcMapSample atc ticks => fits 64 atc && fits 112 ticks
  | .beamTable rq => rq.wf
  | .beamTableApply => true
  | .featureFrame source frame x => fits 16 source && fits 64 frame && x.wf
  | .feedBlockDeliver feed x => isCtx feed && x.wf
  | .tickFrame frame score length x => fits 64 frame && fits 8 score && fits 16 length && x.wf
  | .candidateExpired => true
  | .tickModel rq => rq.wf
  | .playbackBlockRead buffer => isCtx buffer
  | .csiFrameStart port vc number ticks _ => isPeerPort port && decide (vc < 4) && fits 16 number && fits 112 ticks
  | .csiLongPacket port vc dataType ecc _ samples => isPeerPort port && decide (vc < 4) && fits 6 dataType && decide (ecc ≤ 2) && decide (samples.length ≤ 8192) && samples.all (fits 14)
  | .csiFrameEnd port vc ticks _ => isPeerPort port && decide (vc < 4) && fits 112 ticks
  | .csiUnknownPacket port vc dataType => isPeerPort port && decide (vc < 4) && fits 6 dataType
  | .frameTimeout camera => isCamera camera
  | .pipeLineService full => full.all (fits 64)
  | .framePublish camera => isCamera camera
  | .exposureReq rq => rq.wf
  | .ctrlTransferDone camera _ => isCamera camera
  | .ptpSync m => m.wf
  | .ptpFollowUp m => m.wf
  | .ptpDelayResp m => m.wf
  | .ptpDelayReq m => m.wf
  | .ptpAnnounce m a => m.wf && a.wf
  | .ptpPdelayReq m => m.wf
  | .ptpPdelayResp m => m.wf
  | .delayReqTimer port stamp => isPort port && fits 112 stamp
  | .announceTimeout => true
  | .syncTimeout => true
  | .timeSet rq => rq.wf
  | .sleepCalibration sleepTicks elapsed => fits 32 sleepTicks && fits 112 elapsed
  | .triggerFire unit => isUnit unit
  | .trigCfg rq => rq.wf
  | .trigCfgOperator rq => rq.wf
  | .captureEvent unit source _ ticks => isUnit unit && fits 16 source && fits 112 ticks
  | .bridgeFrame f => f.wf
  | .macAgeOut vid mac => decide (vid < 4096) && fits 48 mac
  | .speedAutoStep port => isPort port
  | .aes67Packet k => k.wf
  | .aes67SampleRelease channel index => decide (channel < 1024) && fits 64 index
  | .aes67TxPacket channel => decide (channel < 64)
  | .igmpMldQuery port group => isPort port && fits 128 group
  | .arpNdpIcmp port target _ _ payload => decide (port < 3) && fits 128 target && decide (payload.length ≤ 1280)
  | .pcieDoorbell p c value => isPart p && isCtx c && fits 32 value
  | .apertureSelect fn k _ value => isFunction fn && decide (k < 4) && fits 64 value
  | .apertureAccess fn k addr n data => isFunction fn && decide (k < 4) && fits 64 addr && decide (n ≤ 4096) && (data.all fun b => decide (b.length ≤ 4096))
  | .pcieFlr fn => fn.all (fits 64)
  | .pcieError fn status _ => isFunction fn && fits 32 status
  | .perstN _ gts width vfs _ => fits 8 gts && decide (width ≤ 8) && decide (vfs ≤ 8)
  | .mgmtTlsHandshake conn _ anchor => decide (conn < 4) && anchor.all (fits 64)
  | .powerRequest rq => rq.wf
  | .descentRetry => true
  | .hibernateToListen => true
  | .listenToAttend _ pass => pass.all (fits 64)
  | .attendToActive _ => true
  | .activeToAttend _ => true
  | .descentFromAttend late => (late.all fun e => decide (e.1 < 6) && fits 8 e.2)
  | .wakeRetry => true
  | .wakePin => true
  | .powerAlarm => true
  | .braceStart => true
  | .braceEnd lowestMv durationUs => fits 16 lowestMv && fits 32 durationUs
  | .vaonReset => true
  | .aonBrownout => true
  | .emergencyStart sensor => (sensor.all fun e => fits 8 e.1 && isTemperature e.2)
  | .emergencyEnd second => fits 64 second
  | .slowedSecond => true
  | .thermalTrip sensor tj => fits 8 sensor && isTemperature tj
  | .thermalTripRelease highest => isTemperature highest
  | .keyImport rq => rq.wf
  | .keyDestroy rq => rq.wf
  | .tenantEnrol rq => rq.wf
  | .tenantRelease rq => rq.wf
  | .tenantScrub rq => rq.wf
  | .tenantScrubDone p => isPart p
  | .credentials rq => rq.wf
  | .patternKeys rq => rq.wf
  | .publishers rq => rq.wf
  | .attestNonce rq => rq.wf
  | .attestReport rq => rq.wf
  | .mgmtTrust rq => rq.wf
  | .securityVersion rq => rq.wf
  | .warmReset rq w => rq.wf && w.wf
  | .coldReset rq => rq.wf
  | .sysResetN lowNs w => fits 64 lowNs && w.wf
  | .warmResetDeferred w => w.wf
  | .coldStart t => t.wf
  | .coldStartThermalHoldEnd ms t => fits 32 ms && t.wf
  | .mcuFailure mcu w => decide (mcu < 5) && w.wf
  | .pllFailure => true
  | .systemDataUncorrectable kind addr handles w => fits 8 kind && fits 64 addr && handles.all (fits 64) && w.wf
  | .firmwareStage rq => rq.wf
  | .firmwareCommit rq => rq.wf
  | .traceRing rq => rq.wf
  | .traceLoadSample vddMv tj mw => fits 16 vddMv && isTemperature tj && fits 32 mw
  | .jtagIdcode => true
  | .jtagTraceRegion region => fits 8 region
  | .jtagTraceRead => true
  | .jtagBypass code => fits 5 code
  | .portLinkChange port _ speed => isPort port && decide (speed ≤ 3)
  | .peerEmptyFrame port f => isPeerPort port && f.wf
  | .meshRouterMismatch router port hit => isSlot router && decide (port < 5) && (hit.all fun e => isPart e.1 && isCtx e.2.1 && isCore e.2.2.1 && fits 32 e.2.2.2)
  | .standbyPllFailure => true
  | .dramChannelLost group => isPart group
  | .sysResetNFallingEdge => true
  | .heldRequestsNextSecond => true
  | .regulatorLimitReached => true

end Sys2Proof
end

