-- ==== Sys2Proof/Tests/Slice0.lean ====
section
/-! SUPPORT. Tests of the model: ill-formed commands that are refused, values worked out from the spec, and for every statement with
hypotheses the states and operands that meet them. -/

set_option maxRecDepth 100000

open Sys2Proof Sys2Proof.Machine

namespace Sys2Proof.Tests

-- One test at a time: the tests need much memory, and so do threads that wait.
set_option Elab.async false

/-! ### Small states and operands -/

/-- Zero bytes. -/
def zeros (n : Nat) : Bytes := List.replicate n 0

/-- A request through the window of a PCIe function: 0 the operator, p + 1 the tenant of partition p. -/
def ask (fn op index sub typ : Nat) (payload : Bytes) : Request :=
  { source := .pcie fn, frame := { op := op, typ := typ, index := index, sub := sub, payload := payload } }

/-- A request on the management port. -/
def manage (op index sub typ : Nat) (payload : Bytes) : Request := { ask 0 op index sub typ payload with source := .mgmt 0 }

/-- A part whose management port has its first TLS connection open. -/
def managed : State := State.reset.modSvc fun x => { x with tls := [0] }

/-- A request of session 0 over UDP. -/
def anyone (op index sub typ : Nat) (payload : Bytes) : Request := { ask 0 op index sub typ payload with source := .udp 0 7 }

/-- An object of partition 0. -/
def obj (index kind state size : Nat) : Obj :=
  { owner := 0, index := index, gen := 0, kind := kind, state := state, size := size, allocated := size,
    claims := if state = 3 then [{ part := 0, level := 1, done := true }] else [] }

/-- A partition of two cores, slots 0 and 1, that runs with its key, a context of class 1, and objects 1 and 3 of kind SEALED (READY and
LOADING) and 2 of kind WORKING. -/
def tenanted : State :=
  let s := State.reset
  let s := { s with keys := s.keys.set 0 (some 7) }
  let s := s.modPart 0 fun x => { x with state := 2, map := [some 0, some 1] }
  let s := (s.modSlot 0 fun x => { x with part := 0, logical := 0 }).modSlot 1 fun x => { x with part := 0, logical := 1 }
  let s := (((s.setObj 0 0x3000 1 (be 1 2)).setObj 0 0x3010 1 [1]).setObj 0 0x3060 2 (be 8 (2 ^ 34))).setObj 0 0x3010 7 [16]
  { s with objects := [obj 1 1 3 4096, obj 2 2 3 8192, obj 3 1 1 4096] }

/-- The first 100 bytes of a container: two cores, two strokes from offset 100, one peal, two bindings. -/
def head : Bytes := [86, 90, 80, 84, 1, 0, 0, 1, 0, 0, 0, 0, 0, 0, 0, 0, 0, 0, 0, 0, 0, 0, 0, 0, 1, 0, 0, 0, 64, 134, 0, 0, 0, 0, 0, 0, 2, 7, 1, 0, 16, 0, 0, 0, 4, 0, 0, 0, 100, 0, 0, 0, 2, 0, 0, 0, 0, 0, 0, 0, 1, 0, 1, 0, 228, 0, 0, 0, 0, 0, 0, 0, 244, 0, 0, 0, 2, 0, 0, 0, 0, 0, 0, 0, 0, 0, 0, 0, 0, 0, 0, 0, 0, 0, 0, 0, 0, 0, 0, 0]

/-- The words of a stroke from those that are not zero at its end. -/
def words (l : List Nat) : List Nat := l ++ List.replicate (16 - l.length) 0

/-- A pattern of a stroke on core 0 and END on core 1, with a peal of both and bindings 1 and 65,533, in the least of bytes. -/
def container (w : List Nat) : Bytes :=
  head ++ ((words w ++ words [0x2000003F]).flatMap (le 4) ++ (3 :: zeros 15 ++ ([1, 0, 3, 0] ++ zeros 12 ++ ([253, 255, 3, 0] ++ zeros 12))))

/-- A location in the scratchpad share. -/
def spadAt (off : Nat) : List Nat := [off, 0x1000000]
/-- A location in the working share. -/
def accAt (off : Nat) : List Nat := [off, 0x2000000]
/-- The start of a bound object. -/
def bindAt (b : Nat) : List Nat := [0, 0x3000000 + b * 256]
/-- NONE. -/
def nowhere : List Nat := [0, 0]

/-- A flight of a submission whose core 0 stands before stroke 0 and core 1 before stroke 1. -/
def flight : Flight :=
  { sub := { index := 0, seq := 0, bucket := 0, flags := 0, tag := 0, releaseNs := 0 }, binds := [(1, 1), (65533, 3)],
    cores := [{ core := 0, todo := [0], queued := 1 }, { core := 1, todo := [1], queued := 1 }], started := true }

/-- Partition 0 in ACTIVE, its context 0 in flight before the stroke `w`. -/
def flying (w : List Nat) : State :=
  let s := { tenanted with mode := 5 }
  let c : Context → Context := fun x => { x with pattern := some { handle := 3, bytes := container w }, flight := some flight }
  let s := s.modPart 0 fun x => { x with ctxs := x.ctxs.modify 0 c }
  let s := (s.setObj 0 0x3010 4 (be 2 1024)).setObj 0 0x3010 6 (be 2 16)
  { s with objects := [obj 1 2 3 65536, obj 3 2 3 65536] }

/-! ### Well-formed commands -/

/-- A request that is well formed. -/
def good : Request := ask 0 1 0x1000 1 0 []
/-- One that is not: no function has this number. -/
def badSource : Request := ask 9 1 0x1000 1 0 []
/-- One whose index does not fit its field. -/
def badFrame : Request := ask 0 1 0x10000 1 0 []
/-- A time message. -/
def sync1 : PtpMsg := { port := 0, typ := 0, source := 5, sequenceId := 1, stamp := 2 ^ 64 }
/-- A peer-link frame. -/
def peerFrame : PeerFrame := { typ := 1, op := 1, src := 1, dst := 0, lines := 1, linkSeq := 1, payload := List.replicate 64 0 }
/-- An Ethernet frame. -/
def etherFrame : EtherFrame := { port := 0, src := 0x020000000001, dst := 0x020000000002, length := 64 }
/-- An RTP packet. -/
def rtp : RtpPacket := { port := 0, dest := 0xEF000001, source := 1, udpPort := 5004, payloadType := 97, seq := 0, timestamp := 0, ssrc := 1, payload := [], ticks := 2 ^ 64 }

/-- One ill-formed command for each check of WellFormed. -/
def illFormed : List Instr := [
  .read badSource, .write badFrame, .read (anyone (2 ^ 7) 0 1 0 []), .read { good with frame := { good.frame with version := 256 } },
  .read { good with frame := { good.frame with flags := 256 } }, .read { good with frame := { good.frame with typ := 256 } },
  .read { good with frame := { good.frame with session := 2 ^ 32 } }, .read { good with frame := { good.frame with seq := 2 ^ 32 } },
  .read { good with frame := { good.frame with sub := 256 } }, .read { good with frame := { good.frame with reserved := 256 } },
  .read { good with frame := { good.frame with status := 65536 } }, .read { good with source := .eth 2 0 }, .read { good with source := .udp 0 (2 ^ 160) },
  .read { good with source := .mgmt 4 }, .segmentGapTimer 16, .sessionIdleTimeout (2 ^ 32), .notifyResendTimer 0 (2 ^ 32), .reqSubmit 9 20 good.frame false,
  .notifyTail 0 0x4000 0, .windowStatusRead 9, .onnumClientResponse 0 65536 [], .onnumClientResponse 0 0 (zeros 1281), .answerTokensRelay ⟨0, zeros 1281⟩, .answerTokensRelay ⟨2 ^ 32, []⟩, .flashWindowOpen 0 [(131072, 1)] [], .flashWindowOpen 0 [] [131072],
  .nop 8 0 0, .nop 0 16 0, .nop 0 0 64, .syncComplete 0 0 0 (2 ^ 32), .strokeComplete 0 0 0 (2 ^ 32), .sramUncorrectable 72 false 0 0, .sramUncorrectable 0 false 32 0,
  .sramUncorrectable 0 false 0 32768, .coreReplacementDone 8 0, .scratchpadPatrol 0 0 0 (some (2 ^ 64)), .submissionComplete 0 0 (some (zeros 4097)) none,
  .prefetchBlockDelivered 72 0, .sliceFailure 17 [], .dramRefresh (some (2 ^ 64)), .refreshPeriodSelect 2001, .dramCorrectedError 8 0 0, .dramCorrectedError 0 80 0,
  .flashReadRetry 0 0 3 0 0 0, .meshFlitUncorrectable 72 0 0 0 0 0, .meshFlitUncorrectable 0 5 0 0 0 0, .peerDataFrame 4 peerFrame, .peerDataFrame 0 { peerFrame with lines := 2 },
  .peerReserve 0 peerFrame 65536, .peerIdentify 0 0 0 16 0 0, .peerLaneFail 0 5, .powerDutyUpdate [], .micInputFailed 34, .featureFrame 0 0 { tchirix := [2] },
  .feedBlockDeliver 0 { array := List.replicate 33 [] }, .tickFrame 0 256 1 {}, .csiFrameStart 0 4 0 0 false, .csiLongPacket 0 0 0x2B 3 true [],
  .csiLongPacket 0 0 0x2B 0 true [16384], .frameTimeout 8, .ptpSync { sync1 with checksum := 3 }, .ptpAnnounce sync1 ⟨256, 0, 0, 0, 0, 0, 0⟩, .delayReqTimer 2 0,
  .triggerFire 16, .captureEvent 0 65536 false 0, .bridgeFrame { etherFrame with kind := 7 }, .bridgeFrame { etherFrame with tag := some (4096, 0) }, .macAgeOut 4096 0,
  .aes67Packet { rtp with payloadType := 128 }, .aes67SampleRelease 1024 0, .aes67TxPacket 64, .igmpMldQuery 0 (2 ^ 128), .arpNdpIcmp 3 0 false false [],
  .apertureSelect 0 4 false 0, .apertureAccess 0 0 0 4097 none, .pcieError 0 (2 ^ 32) false, .perstN true 0 0 9 false, .mgmtTlsHandshake 4 true none,
  .descentFromAttend (some (6, 0)), .braceEnd 65536 0, .thermalTrip 256 0, .thermalTrip 0 (-1001), .warmReset good { drift := [8] }, .coldStart { slots := [72] },
  .coldStart { lanes := [(0, 80)] }, .mcuFailure 5 {}, .systemDataUncorrectable 256 0 [] {}, .jtagBypass 32, .portLinkChange 0 true 4, .dramChannelLost 8,
  .meshRouterMismatch 0 0 [(8, 0, 0, 0)], .pcieDoorbell 0 0 (2 ^ 32), .dramPatrolScrub 0 0 [(2 ^ 64, 0)]]

/-- Each is refused. -/
theorem test_ill_formed_commands_are_refused : (illFormed.all fun c => !c.wf) = true := by decide +kernel

/-- The same commands with operands in their ranges are well formed. -/
theorem test_well_formed_commands_pass : ([.read good, .segmentGapTimer 15, .nop 7 15 63, .sramUncorrectable 71 false 31 32767, .refreshPeriodSelect 2000,
  .peerDataFrame 3 peerFrame, .ptpSync sync1, .bridgeFrame etherFrame, .aes67Packet rtp, .jtagBypass 31, .coldStart {}, .warmReset good {}] : List Instr).all (·.wf) = true := by
  decide +kernel

/-- The table spells no command by bits. -/
theorem test_table_words_spell_nothing (nbits w : Nat) : Sys2Proof.decodeTableWord nbits w = none ∧ State.reset.withFetchWord nbits w = State.reset := ⟨rfl, rfl⟩


/-! ### Writes of own rows -/

/-- The row of a name. -/
def rowOf (name : String) : Option OwnRow := ownRows.find? fun r => r.name == name

/-- Whether a write of an own row is admitted and finds its object. -/
def reaches (name : String) (rq : Request) (s : State) : Bool :=
  match rowOf name with
  | none => false
  | some r => names rq r.name && (match s.admitted rq (if r.block then 4 else 2) (fun _ => true) true with
    | .stop _ => false
    | .go w s1 => match s1.writeTarget w rq.frame r.block with
      | .inl _ => false
      | .inr _ => true)

/-- Whether a write of an own row passes every check. -/
def accepts (name : String) (rq : Request) (s : State) : Bool :=
  match rowOf name with
  | none => false
  | some r => names rq r.name && (match s.admitted rq (if r.block then 4 else 2) (fun _ => true) true with
    | .stop _ => false
    | .go w s1 => match s1.writeTarget w rq.frame r.block with
      | .inl _ => false
      | .inr t => (r.check w t rq.frame.payload s1).1 == 0)

theorem accepts_accepts {name : String} {rq : Request} {s : State} (h : accepts name rq s = true) :
    ∃ r ∈ ownRows, r.name = name ∧ ∃ w t s1 s2, r.Accepts rq s w t s1 s2 := by
  unfold accepts at h
  split at h
  · cases h
  · rename_i r e
    simp only [Bool.and_eq_true] at h
    obtain ⟨h1, h2⟩ := h
    split at h2
    · cases h2
    · rename_i w s1 ea
      split at h2
      · cases h2
      · rename_i t et
        refine ⟨r, List.mem_of_find?_eq_some e, ?_, w, t, s1, _, h1, ea, et, Prod.ext (by simpa using h2) rfl⟩
        simpa using List.find?_some e

/-- A point on P-384: the base point. -/
def point : Bytes := 4 :: (be 48 0xaa87ca22be8b05378eb1c71ef320ad746e1d3b628ba79b9859f741e082542a385502f25dbf55296c3a545e3872760ab7 ++
  be 48 0x3617de4a96262c6f5d9e98bf9292dc29f8f41dbd289a147ce9da3113b5f0b8c00a60b1ce1d7e819d7a431d7c90ea0e5f)

/-- Partition 0 with a share of flash, and with camera 0, stream slot 0 and trigger unit 0 for its own. -/
def owning : State := ((((tenanted.setObj 0 0x3060 3 (be 8 (2 ^ 34))).setObj 0 0x6000 1 [0]).setObj 0 0x4000 1 [0]).setObj 0 0x1700 1 [0]).setObj 0 0x4000 2 [0]

/-- The same, where context 0 has rings of 64 entries and runs. -/
def ringing : State :=
  let s := { owning with objects := [obj 1 2 3 8192, obj 2 2 3 8192, obj 3 1 1 4096] }
  (s.setObj 0 0x3011 1 (be 8 1)).setObj 0 0x3011 2 (be 8 2)

/-- `owning`, with the bytes from 0 of object 3 selected. -/
def selecting : State := owning.modSvc fun x => { x with windowSel := [(.fn 1, 3, 0, 64)] }

/-- A trigger configuration that is not enabled: every member zero, no doorbell, no pin. -/
def trigOff : Bytes := zeros 30 ++ [255, 255, 0, 0, 0, 0]

/-- A write of each own row that passes every check, but for those whose check rests on a value that the spec leaves open. -/
def accepted : List (String × Request × State) := [
  ("CASCADE_MODELS", ask 1 2 0x1311 5 15 (zeros 27), tenanted),
  ("ANSWER_REQUEST", ask 1 4 0x1311 1 14 [1], tenanted),
  ("EXPOSURE_REQ", ask 1 2 0x6008 1 15 [1, 0, 0, 0, 0, 0, 0, 0, 0], owning),
  ("POWER_REQUEST", ask 0 2 0x1400 1 2 [5], State.reset),
  ("OBJECT_CREATE", ask 1 2 0x3061 1 15 (be 2 4 ++ [2, 0] ++ be 8 4096 ++ zeros 12), owning),
  ("OBJECT_SEAL", ask 1 2 0x3061 3 15 (be 8 3 ++ zeros 105), owning),
  ("OBJECT_CLAIM", ask 1 2 0x3061 4 15 (be 8 1 ++ [0]), owning),
  ("OBJECT_DELETE", ask 1 2 0x3061 2 5 (be 8 3), owning),
  ("OBJECT_WINDOW_SEL", ask 1 2 0x3061 5 15 (be 8 3 ++ be 8 0 ++ be 4 64), owning),
  ("OBJECT_WINDOW", ask 1 4 0x3061 6 14 (zeros 64), selecting),
  ("KV_POOL", ask 1 2 0x2070 1 15 ([2, 0] ++ be 4 4), owning),
  ("PARTITION_RUN", ask 0 2 0x3000 7 1 [0], tenanted),
  ("PARTITION_RESET", ask 0 2 0x3000 8 1 [1], tenanted),
  ("TENANT_RESET", ask 1 2 0x3001 2 1 [1], tenanted),
  ("PATTERN_UNLOAD", ask 1 2 0x3012 2 1 [1], tenanted),
  ("BINDINGS", ask 1 4 0x3012 4 14 (be 2 1 ++ be 2 0 ++ be 4 3), tenanted),
  ("CTX_CLASS", ask 0 2 0x3010 1 2 [1], tenanted),
  ("KEY_DESTROY", ask 1 2 0x3053 3 1 [1], tenanted),
  ("CREDENTIALS", ask 1 4 0x3052 1 14 (be 4 1 ++ point), tenanted),
  ("PATTERN_KEYS", ask 1 4 0x3052 2 14 (be 8 1 ++ point), tenanted),
  ("PUBLISHERS", ask 1 4 0x3052 3 14 (be 8 1 ++ point), tenanted),
  ("TENANT_ENROL", ask 0 2 0x3051 1 15 (be 4 1 ++ point), tenanted),
  ("SECURITY_VERSION", manage 2 0x1B00 1 2 [0], managed),
  ("TENANT_RELEASE", ask 0 2 0x3051 2 1 [1], tenanted),
  ("TENANT_SCRUB", ask 1 2 0x3054 1 1 [1], tenanted),
  ("FIRMWARE_COMMIT", manage 2 0x1330 3 1 [1], managed.modRas fun x => { x with staged := [0] }),
  ("SLOT_IMAGE", ask 1 4 0x4000 3 14 (zeros 24576), owning),
  ("SLOT_MOVE_TO", ask 1 2 0x4000 4 2 [1], owning),
  ("SLOT_CLOSE", ask 1 2 0x4000 5 1 [1], owning),
  ("DOORBELL", ask 1 2 0x3011 4 4 (be 4 1), ringing),
  ("CACHE_WAY_MASK", ask 0 2 0x3060 1 3 (be 2 15), tenanted),
  ("TIME_SET", ask 0 2 0x1610 13 11 (be 8 5 ++ be 4 0), State.reset.setObj 0 0x1610 1 [0]),
  ("TRACE_RING", ask 1 2 0x3070 3 5 (be 8 2), owning),
  ("TRIG_CFG", ask 1 2 0x1700 2 15 trigOff, owning),
  ("TRIG_CFG_OPERATOR", ask 0 2 0x1700 3 15 trigOff, tenanted),
  ("ERROR_CLEAR", ask 0 2 0x1200 4 1 [1], State.reset),
  ("VIOLATION_CLEAR", ask 0 2 0x1210 5 1 [1], State.reset),
  ("REFUSAL_CLEAR", ask 0 2 0x1420 4 1 [1], State.reset)]

/-- Writes that are admitted and find their object: a beam table, whose own check is shown apart, and those whose own check asks a
value that the spec leaves open: the cost of a Tick model, the signature of a pattern, the tag of a wrapped key, the signature of an image. -/
def open_ : List (String × Request × State) := [
  ("BEAM_TABLE", ask 0 4 0x2210 3 14 (zeros 8200), State.reset),
  ("TICK_MODEL", ask 0 4 0x2230 1 14 (zeros 64), State.reset),
  ("PATTERN_LOAD", ask 1 2 0x3012 1 5 (be 8 1), tenanted),
  ("KEY_IMPORT", ask 1 2 0x3053 1 15 (zeros 145), { tenanted with keys := List.replicate 8 none }),
  ("FIRMWARE_STAGE", manage 4 0x1330 2 14 (zeros 64), managed)]

/-- Each of those writes passes every check. -/
theorem test_own_writes_are_accepted : (accepted.all fun e => accepts e.1 e.2.1 e.2.2) = true := by decide +kernel

/-- Each of the others is admitted and finds its object, and no own row is left out. -/
theorem test_open_writes_reach_their_check : (open_.all fun e => reaches e.1 e.2.1 e.2.2) = true ∧
    (ownRows.all fun r => ((accepted ++ open_).map (·.1)).contains r.name) = true := by decide +kernel

/-- A part of zeros is zeros. -/
theorem slice_zeros (n a k : Nat) : slice (zeros n) a k = zeros k := by
  refine List.eq_replicate_iff.2 ⟨by simp [slice], fun b h => ?_⟩
  obtain ⟨i, -, rfl⟩ := List.mem_map.1 h
  simp only [zeros, List.getD_eq_getElem?_getD, List.getElem?_replicate]
  split <;> rfl

/-- A beam table of zeros passes its own check. -/
theorem test_beam_table_of_zeros_passes (w : Who) (t : Target) (s : State) : checkBeamTable w t (zeros 8200) s = (0, s) := by
  have h : ofBE (zeros 8) = 0 := by decide
  have l : (zeros 8200).length = 8200 := List.length_replicate
  simp only [checkBeamTable, slice_zeros, h, l]
  simp [bits, finiteFp32, fpIsZero]

/-! ### Hypotheses on an admitted request -/

/-- What holds of the sender and the state of an admitted request. -/
def goes (s : State) (rq : Request) (op : Nat) (fits : Bytes → Bool) (g : Who → State → Bool) : Bool :=
  match s.admitted rq op fits with
  | .stop _ => false
  | .go w t => g w t

/-- What holds of the object that was found. -/
def hits (x : Nat ⊕ Target) (g : Target → Bool) : Bool :=
  match x with
  | .inl _ => false
  | .inr t => g t

/-- That a check ended with a code. -/
def fails (x : Nat ⊕ Target) (code : Nat) : Bool :=
  match x with
  | .inl c => c == code
  | .inr _ => false

/-! ### Witnesses: the queue, memory, logs -/

/-- IdleStepTicksTheClock: an idle part that is served, and one that is not. -/
theorem witness_idle_step : State.reset.pending = [] ∧ (State.reset.serving = true ∧ 4 ≤ State.reset.mode) ∧
    ¬(({ State.reset with mode := 2 } : State).serving = true ∧ 4 ≤ ({ State.reset with mode := 2 } : State).mode) := by decide +kernel

/-- EveryStepKeepsTheCounters: the reset state's counters lie in their widths. -/
theorem witness_counters : State.reset.CountersHold := by unfold State.CountersHold; decide +kernel

/-- MemoryReadsWhatWasStored, LogRingHoldsItsRecords and ClearEmptiesOneView: a canonical memory of three bytes, a log of one record in a ring of two. -/
theorem witness_memory_and_logs :
    memWf (memWrite [] 5 [1, 2, 3]) = true ∧ 0 < 2 ∧ (State.reset.errorLog.add 2 (State.reset.record 1 0 0 [])).recs.length ≤ 2 ∧
    0 < State.reset.errorLog.count.length ∧ 0 < State.reset.errorLog.lost.length := by decide +kernel

/-! ### Witnesses: the dictionary -/

/-- OwnWritesCommitOrAbort and FailedChecksCommitNothing: a volatile write and a saved one that pass, one whose object's own check fails, and one that
fails a check of R79. -/
theorem witness_own_writes :
    (goes tenanted (ask 1 2 0x3053 3 1 [1]) 2 (fun _ => true) fun w s => hits (s.writeTarget w (ask 1 2 0x3053 3 1 [1]).frame false) fun t =>
      t.row.per != .saved) = true ∧
    (goes tenanted (ask 1 2 0x2070 1 15 ([2, 0] ++ be 4 4)) 2 (fun _ => true) fun w s =>
      hits (s.writeTarget w (ask 1 2 0x2070 1 15 ([2, 0] ++ be 4 4)).frame false) fun t => t.row.per == .saved) = true ∧
    (goes tenanted (ask 1 2 0x3061 2 5 (be 8 7)) 2 (fun _ => true) fun w s => hits (s.writeTarget w (ask 1 2 0x3061 2 5 (be 8 7)).frame false) fun t =>
      (checkObjectDelete w t (be 8 7) s).1 == 0x0201) = true ∧
    (goes tenanted (ask 1 2 0x3061 2 4 (be 8 7)) 2 (fun _ => true) fun w s => fails (s.writeTarget w (ask 1 2 0x3061 2 4 (be 8 7)).frame false) 0x0E08) = true := by
  decide +kernel

/-- CommitsLeaveWhatTheyName: a dictionary in order, a selected object that is held, an object to seal, a key to destroy, a pattern to unload and a view. -/
theorem witness_commits :
    tenanted.dict.Pairwise (fun a b => a.1 < b.1) ∧ ((selecting.objOf (selecting.selection (.fn 1)).1).map fun o => memWf o.content) = some true ∧
    (selecting.objOf (memberAt [5, 2, 264, 352] (be 8 3 ++ zeros 105) 0)).isSome = true ∧ ofBE [1] ≠ 0 ∧ (plainWho (.pcie 1)).view = some 0 := by decide +kernel

/-- ReadAnswersTheValue: a value that is answered, a DOMAIN, an object that may not be read. -/
theorem witness_reads :
    (goes State.reset (ask 0 1 0x1220 2 0 []) 1 (fun p => p.isEmpty) fun w s => hits (s.readAccess w (ask 0 1 0x1220 2 0 []).frame) fun t =>
      t.row.ty != 14 && decide ((s.valueOf w t).1.length ≤ 256)) = true ∧
    (goes State.reset (ask 0 1 0x1200 2 0 []) 1 (fun p => p.isEmpty) fun w s => hits (s.readAccess w (ask 0 1 0x1200 2 0 []).frame) fun t => t.row.ty == 14) = true ∧
    (goes State.reset (ask 0 1 0x1400 1 0 []) 1 (fun p => p.isEmpty) fun w s => fails (s.readAccess w (ask 0 1 0x1400 1 0 []).frame) 0x0E1A) = true := by
  decide +kernel

/-- A write that waits for its program. -/
def waits : Saving := { request := ask 0 2 0x1310 3 2 [2], who := plainWho (.pcie 0), part := 0, index := 0x1310, sub := 3, value := [2] }

/-- ReadAnswersTheValue: a read behind a saved write of its sender, and one whose share is full. -/
theorem witness_queue :
    (let rq := ask 0 1 0x1220 2 0 []
     let w := plainWho (.pcie 0)
     let one := State.reset.modSvc fun x => { x with saving := [waits] }
     let full := State.reset.modSvc fun x => { x with saving := List.replicate 32 waits }
     [one, full].all (fun s => s.listens rq.source && (match (s.countOnnum 0).sender rq with
       | some (.inr v) => v == w
       | _ => false) && (match (s.countOnnum 0).seqVerdict w rq.frame.seq with
       | .fresh => true
       | _ => false)) && rq.frame.op == 1 && rq.defect == .none && rq.frame.version == 1 && reservedOk rq.frame && rq.frame.payload == [] &&
     full.shareFull w && !one.shareFull w && one.behind rq w) = true := by decide +kernel

/-- WritesCommitAndAreSaved: a volatile and a saved object written, a write whose program completes, a brace. -/
theorem witness_writes :
    (goes tenanted (ask 0 2 0x1200 4 1 [1]) 2 (fun _ => true) fun w s => hits (s.writeTarget (s.elevate (ask 0 2 0x1200 4 1 [1]) w) (ask 0 2 0x1200 4 1 [1]).frame false) fun t =>
      (checkAny w t [1] s).1 == 0 && t.row.per != .saved) = true ∧
    (goes tenanted (ask 0 2 0x1310 3 2 [2]) 2 (fun _ => true) fun w s => hits (s.writeTarget (s.elevate (ask 0 2 0x1310 3 2 [2]) w) (ask 0 2 0x1310 3 2 [2]).frame false) fun t =>
      (checkAny w t [2] s).1 == 0 && t.row.per == .saved) = true ∧
    (State.reset.modSvc fun x => { x with saving := [waits] }).svc.saving = [waits] ∧ State.reset.power.braced = false ∧ waits.target.isSome = true ∧
    (State.reset.modPower fun x => { x with braced := true }).power.braced = true := by decide +kernel

/-- A block write of BINDINGS of 8 bytes, of which none has come. -/
def block : Block := { owner := .fn 1, who := plainWho (.pcie 1), write := true, part := 0, index := 0x3012, sub := 4, typ := 14, total := 8, crc := 5, gap := true }
/-- A block read of the same. -/
def blockOut : Block := { block with write := false, gap := false, value := zeros 8 }
/-- Partition 0 with a transfer open. -/
def moving (b : Block) : State := tenanted.modSvc fun x => { x with blocks := [b] }
/-- A segment of four bytes at offset 0. -/
def segment0 : Request := ask 1 8 0x3012 4 14 (be 4 0 ++ [1, 2, 3, 4])

/-- BlockTransfersMoveAndEnd: a read and a write that start, a segment, an acknowledgement that goes on and one that ends, a gap, and both ends. -/
theorem witness_blocks :
    (goes tenanted (ask 1 3 0x3012 4 0 (be 4 0)) 3 (fun p => p.length == 4) fun w s => hits (s.readAccess w (ask 1 3 0x3012 4 0 (be 4 0)).frame) fun t =>
      t.row.name != "ATTEST_REPORT" && t.row.name != "ATTEST_REPORT_DEVICE" && t.row.name != "OBJECT_WINDOW") = true ∧
    (goes tenanted (ask 1 4 0x3012 4 14 (be 4 8 ++ be 4 5)) 4 (fun p => p.length == 8) fun w s =>
      hits (s.writeAccess (s.elevate (ask 1 4 0x3012 4 14 (be 4 8 ++ be 4 5)) w) (ask 1 4 0x3012 4 14 (be 4 8 ++ be 4 5)).frame true) fun t =>
        t.row.fitsLength 8 && t.row.name != "OBJECT_WINDOW" && s.blockBusy w.owner true t == 0) = true ∧
    (goes (moving block) segment0 8 (fun p => decide (5 ≤ p.length) && decide (p.length ≤ 1028)) fun w s => !w.isAnon &&
      (s.svc.blocks.find? fun b => b.write && b.owner == w.owner && b.index == 0x3012 && b.sub == 4) == some block) = true ∧
    (0 ≤ block.value.length + 16384 ∧ block.value.length < 4) ∧ segment0.frame.flags.testBit 1 = false ∧ (2).testBit 1 = true ∧ 0 ≤ block.value.length ∧ block.sinceAck ≠ 15 ∧
    (goes (moving blockOut) (ask 1 9 0x3012 4 14 (be 4 4)) 9 (fun p => p.length == 4) fun w s =>
      (s.svc.blocks.find? fun b => !b.write && b.owner == w.owner && b.index == 0x3012 && b.sub == 4) == some blockOut) = true ∧
    ofBE (be 4 4) < blockOut.total ∧ ofBE (be 4 8) = blockOut.total ∧ (moving block).svc.blocks[0]? = some block ∧ block.write = true ∧ block.gap = true ∧
    (8 ≠ block.total ∨ crc32 (block.value.take 8) ≠ block.crc) ∧
    (let b := { block with value := [1], total := 1, crc := crc32 [1] }
     1 = b.total ∧ crc32 (b.value.take 1) = b.crc) := by decide +kernel

/-- A subscription of the operator to POWER_MODE, with a notification that no one has answered. -/
def sub7 : Subscription := { id := 7, who := plainWho (.pcie 0), part := 0, index := 0x1220, sub := 2, typ := 2, mode := 2, periodUs := 1000, unanswered := [{ seq := 3, frame := good.frame }] }
/-- A part with a subscription. -/
def subscribed (e : Subscription) : State := State.reset.modSvc fun x => { x with subs := [e] }
/-- SUBSCRIBE with a mode. -/
def subscribe (mode : Byte) : Request := ask 0 5 0x1220 2 0 ([mode, 0, 0, 0] ++ be 4 1000)

/-- SubscriptionsNotifyAndEnd: a subscription, its end, its period, a response, a resend and its last, and a stream that is dropped. -/
theorem witness_subscriptions :
    ([(2, 2), (0, 0)].all fun e => goes State.reset (subscribe e.1) 5 (fun p => p.length == 8 && ofBE (slice p 1 3) == 0) fun w s =>
      hits (s.find w 0x1220 2) fun t => t.row.rd && ofBE ((subscribe e.1).frame.payload.take 1) == e.2 && modeOk 2 1000 t && s.subOf w t == none && !s.subsFull w) = true ∧
    (let s := subscribed sub7
     (s.pullSignals.svc.subs.find? fun e => e.id == 7) = some sub7 ∧ (s.svc.subs.find? fun e => e.id == 7) = some sub7 ∧ sub7.mode = 2 ∧ sub7.unanswered.length < 16 ∧
     (sub7.unanswered.find? fun u => u.seq == 3) = some { seq := 3, frame := good.frame }) ∧
    (let rq : Request := { good with frame := { op := 6, response := true, index := 0x1220, sub := 2 } }
     State.reset.listens rq.source = true ∧ rq.defect = .none ∧ (State.reset.countOnnum 0).sender rq = some (.inr (plainWho rq.source))) ∧
    (let e := { sub7 with mode := 3, unanswered := List.replicate 16 { seq := 3, frame := good.frame, attempts := 3 } }
     ((subscribed e).svc.subs.find? fun e => e.id == 7) = some e ∧ e.mode = 3 ∧ 16 ≤ e.unanswered.length ∧
     (e.unanswered.find? fun u => u.seq == 3) = some { seq := 3, frame := good.frame, attempts := 3 }) := by decide +kernel

/-- A session of partition 0. -/
def session9 : Session := { id := 9, source := .udp 0 7, tenant := some 0, credential := 1, lastFrameNs := 0 }
/-- Partition 0 with its first credential, and a session. -/
def seated : State := (tenanted.setObj 0 0x3052 1 (be 4 1 ++ point)).modSvc fun x => { x with sessions := [session9] }
/-- SESSION_OPEN of partition 0's credential 1. -/
def opens : Request := anyone 0x10 0 0 0 ([1, 0, 0, 0] ++ be 4 1 ++ zeros 193)
/-- SESSION_CLOSE of session 9. -/
def closes : Request := { anyone 0x11 0 0 0 [] with tagOk := true, frame := { op := 0x11, flags := 4, session := 9, seq := 1 } }

/-- SessionsOpenAndClose: a credential that is installed, a session that closes and one that falls idle. -/
theorem witness_sessions :
    (goes seated opens 0x10 openPayload fun w s => w.isAnon && (s.openKey 1 0 1).isSome && !s.sessionsFull (some 0)) = true ∧
    (goes seated closes 0x11 (fun p => p.isEmpty) fun w _ => w.owner == .session 9) = true ∧ (seated.svc.sessions.find? fun e => e.id == 9) = some session9 := by decide +kernel

/-- WindowServesRequests: a window that is free and one that is not, a tail, a status. -/
theorem witness_window :
    (0 < 9 ∧ State.reset.listens (.pcie 0) = true ∧ (State.reset.svc.windows.getD 0 {}).reqPending = false ∧ frameLength good.frame ≤ 20) ∧
    ((State.reset.modSvc fun x => { x with windows := x.windows.modify 0 fun y => { y with reqPending := true, ringBytes := 64 } }).svc.windows.getD 0 {}).reqPending = true ∧
    8 < ((State.reset.modSvc fun x => { x with windows := x.windows.modify 0 fun y => { y with ringBytes := 64 } }).svc.windows.getD 0 {}).ringBytes ∧
    0 < State.reset.svc.windows.length ∧ 4 ≤ State.reset.mode := by decide +kernel

/-! ### Witnesses: strokes and submissions -/

/-- Whether a stroke may issue. -/
def mayIssue (op : Nat) (m : Meaning) (p c core : Nat) (s : State) : Bool :=
  match s.headSite op p c core with
  | none => false
  | some t => s.headCode t (m.own t s) == 0 && tokensReady (s.slot t.slot) c (waitTokens t.w) && !(m.units t.w).any (s.unitsHeld p core).contains && m.ready t s &&
    !s.passedOver p c core && !(s.reachedBinds t (m.binds t)).any (s.gone t) && (match s.accessAll t (s.reached t (m.binds t)) with
      | .ready => true
      | _ => false)

/-- A stroke of each opcode that may issue: its opcode and its words. -/
def strokeWords : List (Nat × List Nat) := [
  (0x00, [0]),
  (0x01, [1, 0]),
  (0x02, [2, 1]),
  (0x03, [0x203, 1000]),
  (0x08, [8] ++ spadAt 0 ++ nowhere ++ spadAt 64 ++ [0, 0x10001, 0x10001]),
  (0x09, [9, 0] ++ bindAt 1 ++ [2048, 0x10001, 1, 0, 0x10000FF]),
  (0x0A, [0x0A] ++ spadAt 0 ++ nowhere ++ spadAt 64 ++ [0, 0x10001, 0x10001, 0]),
  (0x0B, [0x0B] ++ spadAt 0 ++ spadAt 64 ++ spadAt 128 ++ [0, 0x10001, 0x10001, 1]),
  (0x0C, [0x0C] ++ spadAt 0 ++ spadAt 64 ++ spadAt 128 ++ [0, 0x10001, 0x10001, 1]),
  (0x10, [0x10] ++ spadAt 0 ++ spadAt 1024 ++ accAt 0 ++ [0x10101, 0x10001, 0x10001, 0x100000, 0x10]),
  (0x11, [0x11] ++ spadAt 0 ++ spadAt 1024 ++ accAt 0 ++ [0x10101, 0x10001, 0x10001, 0x100000, 0x10]),
  (0x12, [0x12] ++ spadAt 0 ++ spadAt 1024 ++ accAt 0 ++ [0x10101, 0x10001, 0x10001, 0x10001, 0x10, 0x11, 0x10001]),
  (0x13, [0x13] ++ spadAt 0 ++ nowhere ++ spadAt 512 ++ [0x10001, 0x10006, 0x80008]),
  (0x18, [0x18] ++ spadAt 0 ++ spadAt 64 ++ spadAt 128 ++ [0x10101, 0x10001, 0x10001, 1, 1]),
  (0x19, [0x19] ++ spadAt 0 ++ nowhere ++ spadAt 128 ++ [0x10001, 0x10001, 1, 1, 256]),
  (0x1A, [0x1A] ++ spadAt 0 ++ nowhere ++ spadAt 128 ++ [0x10001, 0x10001, 1, 1, 1]),
  (0x1B, [0x1B] ++ spadAt 0 ++ nowhere ++ spadAt 128 ++ [0x10001, 0x10001, 1, 1]),
  (0x1C, [0x1C] ++ spadAt 0 ++ nowhere ++ spadAt 128 ++ [0x10001, 0x10001, 1, 1, 0x3F800000]),
  (0x1D, [0x1D] ++ spadAt 0 ++ nowhere ++ spadAt 128 ++ [0x10001, 0x200001, 2, 2]),
  (0x1E, [0x1E] ++ spadAt 0 ++ nowhere ++ spadAt 128 ++ [0x20001, 0x10001, 1, 1]),
  (0x20, [0x20] ++ spadAt 0 ++ bindAt 1 ++ spadAt 256 ++ [0x20202, 1, 0, 1, 0x3F800000]),
  (0x21, [0x21] ++ spadAt 0 ++ bindAt 1 ++ spadAt 256 ++ [0x20202, 1, 0, 1, 0x3F800000]),
  (0x22, [0x22] ++ spadAt 0 ++ spadAt 256 ++ bindAt 1 ++ [0x20002, 1, 0, 0, 0x20002]),
  (0x23, [0x23] ++ bindAt 1 ++ [0, 1]),
  (0x28, [0x28] ++ spadAt 0 ++ spadAt 64 ++ spadAt 32768 ++ [0x10202, 0x10001, 0, 0, 0x40001, 0x10040, 0, 0x10]),
  (0x29, [0x29] ++ accAt 0 ++ nowhere ++ spadAt 128 ++ [0x10001, 0x400001, 0, 0, 0]),
  (0x2A, [0x2A, 0, 1]),
  (0x2B, [0x2B, 0x10000]),
  (0x30, [0x30] ++ spadAt 0 ++ nowhere ++ spadAt 128 ++ [0, 0x10001, 1, 0x10001]),
  (0x31, [0x31] ++ spadAt 0 ++ nowhere ++ spadAt 512 ++ [0x10001, 64, 3]),
  (0x3F, [0x2000003F])]

theorem mayIssue_mayIssue {op p c core : Nat} {m : Meaning} {s : State} (h : mayIssue op m p c core s = true) : ∃ t, s.MayIssue op m p c core t := by
  unfold mayIssue at h
  split at h
  · cases h
  · rename_i t e
    simp only [Bool.and_eq_true, beq_iff_eq, Bool.not_eq_true'] at h
    obtain ⟨⟨⟨⟨⟨⟨h1, h2⟩, h3⟩, h4⟩, h5⟩, h6⟩, h7⟩ := h
    split at h7
    · rename_i ha
      exact ⟨t, e, h1, h2, h3, h4, h5, h6, ha⟩
    · cases h7

/-- The rows of the strokes, PEER_REDUCE among them. -/
def everyStroke : List StrokeRow := strokeRows ++ [(⟨0x31, meaningPeerReduce, .peerReduce⟩ : StrokeRow)]

/-- Whether a row's stroke may issue in `flying`. -/
def rowIssues (r : StrokeRow) : Bool := strokeWords.any fun e => e.1 == r.op && mayIssue r.op r.meaning 0 0 0 (flying e.2)

/-- ReadyStrokesIssue: the control strokes and the transfers. -/
theorem witness_strokes_1 : ((everyStroke.take 9).all rowIssues) = true := by decide +kernel
/-- ReadyStrokesIssue: the matrix strokes. -/
theorem witness_strokes_2 : (((everyStroke.drop 9).take 4).all rowIssues) = true := by decide +kernel
/-- ReadyStrokesIssue: the vector strokes. -/
theorem witness_strokes_3 : (((everyStroke.drop 13).take 7).all rowIssues) = true := by decide +kernel
/-- ReadyStrokesIssue: the attention strokes, the streams, the peer strokes and END. -/
theorem witness_strokes_4 : (((everyStroke.drop 20).take 11).all rowIssues) = true ∧ everyStroke.length = 31 := by decide +kernel

/-- Where a core's head stands. -/
def siteIs (w : List Nat) (op : Nat) (g : Site → Bool) : Bool :=
  match (flying w).headSite op 0 0 0 with
  | some t => g t
  | none => false

/-- LaunchedStrokeRunsWithItsResults: a NOP, which meets no fault, and a SIGNAL. -/
theorem witness_launch : siteIs [0] 0 (fun t => decide (t.p < (flying [0]).parts.length) && !(flying [0]).splits t && (meaningNop.run t (flying [0])).1.fault == 0) = true ∧
    (∀ (t' : Site) (s' : State), (meaningNop.run t' s').2 = s') := ⟨by decide +kernel, fun _ _ => rfl⟩

/-- RefusedAndWaitingStrokesDoNothing: a NOP of a reserved word, and one that waits for a token. -/
theorem witness_refused_and_waiting :
    siteIs [0, 1] 0 (fun t => (flying [0, 1]).headCode t (meaningNop.own t (flying [0, 1])) != 0) = true ∧
    siteIs [0x10000] 0 (fun t => (flying [0x10000]).headCode t (meaningNop.own t (flying [0x10000])) == 0 &&
      !tokensReady ((flying [0x10000]).slot t.slot) 0 (waitTokens t.w)) = true := by decide +kernel

/-- Partition 0 with strokes running. -/
def running (l : List Running) : State := (flying [0]).modPart 0 fun x => { x with running := l }
/-- A NOP that runs. -/
def nop : Running := { ctx := 0, core := 0, stroke := 0, word0 := 0 }
/-- A MOVE that runs, preemptible, with the transfer engine. -/
def moves : Running := { nop with word0 := 0x10000008, units := [0] }

/-- StrokesComplete: a stroke that may complete, two SYNCs of peal 0, a WAIT_TIME. -/
theorem witness_complete :
    (running [nop]).runningAt 0 0 0 0 = some nop ∧ (running [nop]).mayComplete 0 nop = true ∧
    (let s := running [{ nop with sync := some (0, 1) }, { nop with core := 1, sync := some (0, 1) }]
     ((s.ctx 0 0).pattern.map fun pat => pat.peal 0 != [] && (pat.peal 0).all fun m => (s.waitingSyncs 0 0 0 1).any fun r => r.core == m) = some true) ∧
    (((running [{ nop with untilNs := some 5 }]).part 0).running.find? fun r => r.ctx == 0 && r.core == 0 && r.untilNs.isSome) = some { nop with untilNs := some 5 } := by
  decide +kernel

/-- TokenCountersHoldEightBits: a counter below its end and one at it. -/
theorem witness_tokens :
    (let s := (flying [0]).modSlot 0 fun x => { x with tokens := (x.tokens.set 0 254).set 1 255 }
     0 < s.slots.length ∧ 1 < (s.slot 0).tokens.length ∧ (s.slot 0).token 0 0 < 255 ∧ 255 ≤ (s.slot 0).token 0 1 ∧ (∀ x ∈ (s.slot 0).tokens, x ≤ 255)) := by decide +kernel

/-- Context 1 of class URGENT stands before a MOVE, while a MOVE of context 0 runs. -/
def contended (r : Running) : State :=
  let s := running [r]
  let x : Context := { (s.ctx 0 0) with pattern := some { handle := 3, bytes := container ([8] ++ spadAt 0 ++ nowhere ++ spadAt 64 ++ [0, 0x10001, 0x10001]) } }
  (s.setObj 0 0x3014 1 [3]).modPart 0 fun y => { y with ctxs := y.ctxs.set 1 x }

/-- TilesYieldAndTokensTimeOut: a unit that is wanted, a stroke that goes on, a token that does not come. -/
theorem witness_tiles :
    ((contended moves).runningAt 0 0 0 0 = some moves ∧ preemptOk [moves.word0] = true ∧ moves.preempted = false ∧
      (List.range 16).find? ((contended moves).wanted 0 0 moves) = some 1) ∧
    (let r := { moves with preempted := true }
     (running [r]).runningAt 0 0 0 0 = some r ∧ r.units.any ((running [r]).unitsHeld 0 0).contains = false) ∧
    (let s := flying [0x10000]
     ((s.ctx 0 0).flight.map fun f => f.stop == none && f.started && (f.run? 0).map (·.todo) == some [0]) = some true ∧
      ((s.part 0).running.find? fun r => r.ctx == 0 && r.core == 0 && r.sync.isSome) = none ∧ s.slotOf 0 0 = some 0 ∧
      ((s.ctx 0 0).pattern.map fun pat => tokensReady (s.slot 0) 0 (waitTokens (pat.stroke 0))) = some false) := by decide +kernel

/-- A pattern whose re-run table has one entry, of layer 5, with a wide range of one stroke on core 0. -/
def rerunPattern : Loaded :=
  { handle := 3, bytes := head.take 84 ++ le 4 100 ++ head.drop 88 ++ (le 4 1 ++ zeros 60) ++ (le 2 5 ++ zeros 14 ++ le 4 96 ++ zeros 12) ++ (le 4 0 ++ le 4 0 ++ le 4 1) }
/-- A context at the gate of layer 5 with its counts of elements and of saturated ones, after a number of re-runs. -/
def gated (layer : Nat × Nat × Nat) (reruns : Nat) : State :=
  (flying [0]).modPart 0 fun x => { x with ctxs := x.ctxs.modify 0 fun y => { y with pattern := some rerunPattern, flight := some { flight with
    cores := [{ core := 0, todo := [0], gate := some (5, 1), layers := [layer], rerun := reruns }] } } }
/-- What a gate decides: its outcome, and why it does not re-run. -/
def decides (s : State) : Option (Nat × Nat) :=
  match (s.ctx 0 0).flight with
  | some f => (f.run? 0).map fun r => (s.outcome rerunPattern r 5 (some 1), s.noRerun 0 0 rerunPattern f r 5 (some 1))
  | none => none

/-- GateDecidesTheLayer: a layer that is clear, one that trips and re-runs, one that trips and may not. -/
theorem witness_gate : (decides (gated (5, 10, 0) 0)).map (·.1) = some 0 ∧ decides (gated (5, 10, 1) 0) = some (2, 0) ∧
    decides (gated (5, 10, 1) 99) = some (2, 3) ∧ ((gated (5, 10, 0) 0).part 0).running.any (fun x => x.ctx == 0 && x.core == 0) = false := by decide +kernel

/-- A submission that waits for its release. -/
def sub5 : Submission := { index := 5, seq := 5, bucket := 0, flags := 1, tag := 0, releaseNs := 3000000000 }
/-- Context 0 of a class with changes. -/
def queued (cls : Byte) (f : Context → Context) : State := ((flying [0]).setObj 0 0x3010 1 [cls]).modPart 0 fun x => { x with ctxs := x.ctxs.modify 0 f }

/-- SubmissionsRunToCompletion: a beat, a release time, the end of a step and of a submission, a doorbell that is held. -/
theorem witness_submissions :
    (let s := queued 2 fun x => { x with flight := none, queue := [{ sub5 with flags := 0 }] }
     s.ctxClass 0 0 = 2 ∧ (s.part 0).state = 2 ∧ s.ns ≤ s.beatStart 0 0 300 ∧ (s.ctx 0 0).flight = none ∧ (s.ctx 0 0).queue = [{ sub5 with flags := 0 }] ∧ sub5.released = none) ∧
    (let s := queued 1 fun x => { x with queue := [sub5] }
     ((s.ctx 0 0).queue.find? fun x => x.released.isNone && x.flags.testBit 0) = some sub5 ∧ s.ctxClass 0 0 = 1) ∧
    (let f := { flight with cores := [{ core := 0, todo := [], ended := true, steps := 1 }] }
     let s := queued 1 fun x => { x with flight := some f }
     (s.ctx 0 0).flight = some f ∧ f.stepEnded = true ∧ f.cores.all (·.ended) = true ∧
     (let s := s.setObj 0 0x1310 4 [1]
      0 ≠ s.cascadePart ∧ ((s.submissionComplete 0 0).ctx 0 0).flight.map (·.sub.index) ≠ some f.sub.index)) ∧
    (let s := queued 3 fun x => { x with flight := none, held := [4] }
     (s.ctx 0 0).held = [4] ∧ (s.ctx 0 0).flight = none ∧ (s.ctx 0 0).queue = [] ∧ (s.ctx 0 0).lastAcceptNs = none) := by decide +kernel

/-- DoorbellsAreAcceptedOrRefused: a doorbell that is taken, and one that is refused, over PCIe and over Onnum. -/
theorem witness_doorbells :
    4 ≤ ringing.mode ∧ ringing.area 0 0x50 1 ≠ 1 ∧ ringing.hostDoorbellCode 0 0 1 = 0 ∧ ringing.hostDoorbellCode 0 1 1 = 0x0E15 ∧
    (let rq := ask 1 7 0x3011 4 0 (be 4 1)
     (goes ringing rq 7 (fun p => p.length == 4) fun w s => !w.isAnon && hits (s.resolve w 0x3011 4) fun t => t.row.name == "DOORBELL" && s.hostDoorbellCode t.i t.j 1 == 0) = true) ∧
    (let rq := ask 1 7 0x3015 4 0 (be 4 1)
     (goes ringing rq 7 (fun p => p.length == 4) fun w s => !w.isAnon && hits (s.resolve w 0x3015 4) fun t => t.row.name == "DOORBELL" && s.hostDoorbellCode t.i t.j 1 == 0x0E15) = true) := by
  decide +kernel

/-- A context whose chunks are submitted by the part, with its features bound. -/
def chunked : State :=
  let s := ((flying [0]).setObj 0 0x2420 1 ([1, 1, 255] ++ zeros 8 ++ [1] ++ be 2 0 ++ be 4 1000)).modPart 0 fun x => { x with ctxs := x.ctxs.modify 0 fun y => { y with binds := [(65529, 1)] } }
  { s with objects := [{ obj 1 2 3 4194304 with owner := 0 }] }
/-- A prefetcher of two blocks. -/
def prefetcher : Prefetcher := { part := 0, ctx := 0, core := 0, desc := zeros 14 ++ le 2 2 ++ zeros 16, stroke := 0, handle := 1 }

/-- ChunksAreReleasedAndDelivered: a chunk that falls due, a gate submission that has completed, a prefetcher with a block left. -/
theorem witness_chunks :
    (let s1 := (chunked.reach (chunked.chunkRelease 0 0 300 * 2 ^ 32)).modCtx 0 0 fun x => { x with chunkIndex := 301 }
     chunked.autoChunks 0 0 = true ∧ (chunked.ctx 0 0).chunkIndex ≤ 300 ∧ 4 ≤ chunked.mode ∧ (chunked.part 0).state = 2 ∧ chunked.ns ≤ chunked.chunkRelease 0 0 300 ∧
     ((s1.boundIn (chunked.ctx 0 0).binds 65529).map fun o => decide (2 * (64 + s1.chunkCfg 0 0 0 * 2049 * ((2 * s1.cfg 0x2220 1 + 63) / 64 * 64)) ≤ o.size) &&
       (s1.writeFeatures 0 300 (s1.chunkCfg 0 0 0) o).chunkCfg 0 0 2 == 0xFF) = some true) ∧
    ((queued 1 fun x => { x with gating := some (4, some 0) }).ctx 0 0).gating = some (4, some 0) ∧
    (let s := (flying [0]).modSlot 0 fun x => { x with prefetchers := x.prefetchers.set 3 (some prefetcher) }
     (s.slot 0).prefetchers.getD 3 none = some prefetcher ∧ (s.ctx 0 0).pattern.isSome = true ∧ (s.objOf 1).map (·.state) = some 3 ∧ prefetcher.block < dU prefetcher.desc 14 2) := by
  decide +kernel

/-! ### Witnesses: modes, starts, slots, tiers, objects, tenants -/

/-- A part in a mode, with its power manager changed. -/
def inMode (m : Nat) (f : Power → Power) : State := ({ State.reset with mode := m }).modPower f
/-- A stream slot that is open and keeps the part from a descent. -/
def streaming (s : State) : State := { s with streams := [(0, { opened := true })] }

/-- IdlePartsDescend: idle in ACTIVE, idle in ATTEND with both holds, a refuser that is recorded, and a retry with and without it. -/
theorem witness_descents :
    (let s := inMode 5 id
     s.activeIdle = true ∧ s.power.braced = false ∧ s.refuser 4 false = none) ∧
    (let s := inMode 4 id
     s.attendIdle = true ∧ s.effectiveFloor < 4 ∧ s.power.braced = false ∧ s.refuser s.effectiveFloor false = none ∧ s.power.shortHold ≠ 2 ∧
     (inMode 4 fun x => { x with shortHold := 2 }).power.shortHold = 2) ∧
    (let s := streaming (inMode 5 fun x => { x with refused := some (0x0B02, 4) })
     s.activeIdle = true ∧ (s.refuser 4 false).map (·.code) = some 0x0B02 ∧ s.power.refused = some (0x0B02, 4)) ∧
    (let s := inMode 5 fun x => { x with refused := some (0x0B02, 4) }
     s.power.refused = some (0x0B02, 4) ∧ s.refuser 4 false = none ∧ s.activeIdle = true) := by decide +kernel

/-- WakeSourcesRaiseTheTarget and TransitionsReachTheirMode: HIBERNATE with no wake and with one, an alarm, a failed wake, the two ascents, and the two descents. -/
theorem witness_transitions :
    ((inMode 1 id).mode = 1 ∧ (inMode 1 id).power.up = none ∧ ofBE (((State.reset.setObj 0 0x1400 3 (1 :: zeros 12 ++ [4])).obj 0 0x1400 3).take 1) ≠ 0 ∧
      (inMode 2 fun x => { x with failed := true }).power.failed = true) ∧
    (let s := inMode 1 fun x => { x with up := some 4 }
     s.power.up = some 4 ∧ s.mode = 1 ∧ s.power.braced = false) ∧
    (let s := inMode 2 fun x => { x with up := some 4 }
     s.mode = 2 ∧ s.power.up = some 4 ∧ s.power.failed = false ∧ s.power.braced = false) ∧
    (let s := { inMode 4 id with ascend := true }
     s.mode = 4 ∧ s.ascend = true ∧ s.power.down = none ∧ s.power.failed = false ∧ s.power.braced = false) ∧
    (let s := inMode 5 fun x => { x with down := some (4, 1) }
     s.power.down = some (4, 1) ∧ s.mode = 5 ∧ s.power.braced = false ∧ s.refuser 4 false = none) ∧
    (let s := inMode 4 fun x => { x with down := some (2, 1) }
     s.power.down = some (2, 1) ∧ s.mode = 4 ∧ s.power.braced = false ∧ s.refuser 2 false = none) := by decide +kernel

/-- BracesAndEmergenciesHoldAndEnd and DutyFollowsTheCap: no brace and one, no emergency and one, a second slowed and one not, a partition's duty. -/
theorem witness_braces :
    State.reset.power.braced = false ∧ (inMode 4 fun x => { x with braced := true }).power.braced = true ∧ State.reset.power.emergency = false ∧ 4 ≤ State.reset.mode ∧
    (let s := inMode 4 fun x => { x with emergency := true, emergencyAtNs := 1500000000 }
     s.power.emergency = true ∧ s.power.emergencyAtNs + 1000000000 ≤ 3 * 1000000000) ∧
    (inMode 4 fun x => { x with slowed := true }).power.slowed = true ∧ State.reset.power.slowed = false ∧ 0 < State.reset.power.duty.length := by decide +kernel

/-- ResetsTakeEverythingDown, ColdStartsFollowAFall and ResetRequestsBeginOrWait: no start in progress, a trip, a start that may go on, one that waits for its
temperature, a reset that is deferred, a start in progress, and the two writes that ask for a reset. -/
theorem witness_resets :
    State.reset.ras.cold = none ∧ (inMode 0 fun x => { x with tripped := true }).power.tripped = true ∧
    (let s := State.reset.modRas fun x => { x with cold := some 0x0D02 }
     s.power.tripped = false ∧ s.ras.cold = some 0x0D02) ∧
    (State.reset.modRas fun x => { x with held := true }).ras.held = true ∧ State.reset.power.braced = false ∧
    (inMode 4 fun x => { x with braced := true }).power.braced = true ∧ State.reset.ras.deferred = none ∧
    (State.reset.modRas fun x => { x with deferred := some (0x0D03, false) }).ras.deferred = some (0x0D03, false) ∧
    ([("WARM_RESET", 6), ("COLD_RESET", 7)].all fun e => names (ask 0 2 0x1300 e.2 1 [1]) e.1 && goes State.reset (ask 0 2 0x1300 e.2 1 [1]) 2 (fun _ => true) fun w s =>
      hits (s.writeTarget w (ask 0 2 0x1300 e.2 1 [1]).frame false) fun t => t.row.per != .saved && s.ras.asked == none) = true := by decide +kernel

/-- SparesTakeOver: a duty with a spare left and with none, and a standby PLL that is good and that is not. -/
theorem witness_spares :
    State.reset.ras.mcus.getD 0 (3, 7) = (1, 0) ∧
    ((State.reset.ras.mcus.set 0 (3, 7)).findIdx? fun e => e.1 == 2) = some 4 ∧ ((([(1, 0), (1, 1), (1, 2), (1, 3), (3, 7)] : List (Nat × Nat)).set 0 (3, 7)).findIdx? fun e => e.1 == 2) = none ∧
    State.reset.ras.plls = [1, 2] ∧ (State.reset.modRas fun x => { x with plls := [1, 3] }).ras.plls = [1, 3] := by decide +kernel

/-- FailedSlotsAreRetiredAndReplaced: a slot in service, one that is not, one with no spare left, one that is powered, a replacement in progress. -/
theorem witness_slots :
    (State.reset.slot 70).state ≠ 1 ∧ 5 < State.reset.slots.length ∧ (State.reset.slot 5).state = 1 ∧ (State.reset.slot 5).part = 0xFF ∧
    (let s := { State.reset with slots := State.reset.slots.map fun (x : Slot) => { x with state := if x.state = 2 then 3 else x.state } }
     (s.slot 5).state = 1 ∧ (s.slot 5).part = 0xFF ∧ s.replacementOf 5 false = none) ∧ (flying [0]).powered 0 = true ∧
    (let s := { (flying [0]) with replacing := [{ part := 0, logical := 1, retired := 9, slot := 64 }], slots := (flying [0]).slots.modify 64 fun x => { x with state := 1 } }
     ((s.replacing.find? fun r => r.part == 0 && r.logical == 1).map fun r => (s.slot r.slot).state) = some 1) := by decide +kernel

/-- CacheRefreshAndWindowFollowTheirRules: no submission in flight and one, a slice and the spare, a window that is open. -/
theorem witness_tiers :
    State.reset.anyFlight 0 = false ∧ (flying [0]).anyFlight 0 = true ∧ State.reset.tiers.slices.length = 17 ∧ State.reset.tiers.slices.getD 3 3 % 8 = 1 ∧
    State.reset.tiers.slices.getD 16 3 % 8 = 2 ∧ (State.reset.modTiers fun t => { t with windowOpen := true }).tiers.windowOpen = true ∧ State.reset.cfg 0x2100 4 < 1000 := by decide +kernel

/-- MemoryErrorsAreCountedAndHandled: a group, a SEALED object that is READY and a WORKING one with no stroke on it. -/
theorem witness_memory_errors :
    0 < tenanted.tiers.groups.length ∧ ((tenanted.objOf 1).map fun o => (o.kind, o.state)) = some (1, 3) ∧
    ((tenanted.objOf 2).map fun o => (o.kind, (((tenanted.modGroup 0 fun x => { x with uncorrectable := x.uncorrectable + 1 }).logError 0x0209 0xFF 0 [byteOf 0]).damage o 0x0209).runningAt 0 0 0 0))
      = some (2, none) := by decide +kernel

/-- Partition 0 with one object. -/
def holding (o : Obj) : State := { tenanted with objects := [o] }

/-- ObjectsAreSealedClaimedAndDeleted: an object that seals, a claim that completes and one that is none, an object that waits to be taken back, one that may vanish and one that may not. -/
theorem witness_objects :
    ((holding (obj 1 1 2 64)).objOf 1).map (fun o => (o.state, o.pub)) = some (2, false) ∧
    (let s := holding { obj 1 1 3 64 with claims := [{ part := 0, level := 1 }] }
     (s.objOf 1).map (fun o => (((s.completeClaim 0 o).objOf 1).map fun x => x.claimed 0 1).getD true) = some true) ∧
    (let s := holding { obj 1 1 3 64 with claims := [] }
     (s.objOf 1).map (fun o => (((s.completeClaim 0 o).objOf 1).map fun x => x.claimed 0 1).getD true) = some false) ∧
    (let s := (holding { obj 1 1 5 64 with keyCheck := some 7 }).setObj 0 0x3000 3 [4]
     (s.objOf 1).map (fun o => (s.readoptTurn o, decide (o.keyCheck = s.keys.getD o.owner none))) = some (true, true)) ∧
    (let s := holding { obj 1 1 3 64 with deleting := true }
     (s.objAt 0 1).map (fun o => (o.deleting, decide (∀ c ∈ o.claims, c.part = 0), s.inFlight o.handle)) = some (true, true, false)) ∧
    ((holding (obj 1 1 3 64)).objAt 0 1).map (·.deleting) = some false := by decide +kernel

/-- TenantsAreResetScrubbedAndAttested: a partition that resets and one that does not, a scrub in progress, a nonce, a report that it arms, the anchors. -/
theorem witness_tenants :
    ((tenanted.modPart 0 fun x => { x with state := 4 }).part 0).state = 4 ∧ (tenanted.part 0).state ≠ 4 ∧
    (tenanted.modSec fun x => { x with scrubbing := x.scrubbing.set 0 (some 1) }).sec.scrubbing.getD 0 none = some 1 ∧
    (let rq := ask 1 2 0x3055 1 12 (zeros 48)
     names rq "ATTEST_NONCE" = true ∧ (goes tenanted rq 2 (fun _ => true) fun w s => hits (s.writeTarget w rq.frame false) fun t => t.row.per != .saved) = true) ∧
    (let rq := ask 1 3 0x3055 2 0 (be 4 0)
     let s0 := tenanted.modSec fun x => { x with nonces := [(.fn 1, 0, zeros 48)] }
     names rq "ATTEST_REPORT" = true ∧ (goes s0 rq 3 (fun b => b.length == 4) fun w s => hits (s.resolve w rq.frame.index rq.frame.sub) fun t =>
       (s.sec.nonces.find? fun e => e.1 == w.owner && e.2.1 == attestPart t).isSome && s.blockBusy w.owner false t == 0) = true) ∧
    (let rq := ask 0 4 0x1B10 1 14 (be 4 1 ++ [5])
     names rq "MGMT_TRUST" = true ∧ (goes State.reset rq 4 (fun _ => true) fun w s => w.owner == .fn 0 && s.obj 0 0x1B10 1 == [] &&
       hits (s.writeTarget { w with management := true } rq.frame true) fun t => (checkMgmtTrust w t rq.frame.payload s).1 == 0) = true) := by decide +kernel

/-! ### Witnesses: the peer links -/

/-- Member 0 of a ring of four, its port 0 in a state. -/
def linked (f : PeerPort → PeerPort) : State := State.reset.modPeer fun x => { x with members := 4, topology := 1, ports := x.ports.modify 0 fun y => f { y with lanes := 4, laneStates := [1, 9, 17, 25, 60] } }
/-- A collective of two members. -/
def coll : Coll := { p := 0, c := 0, core := 0, stroke := 0, pair := 1, xferSeq := 1, reduce := false, members := [0, 1] }

/-- PeerFramesAreDeliveredInOrder and PeerRowsTakeTheirFrames: a data frame and a control frame on a port that is up, and a port that is down. -/
theorem witness_peer_frames :
    ((linked fun x => { x with state := 3 }).port 0).up = true ∧ peerFrame.reserved = 0 ∧ [1].contains peerFrame.op = true ∧ (peerFrame.typ = 1 ∧ peerFrame.op < 5 ∧ peerFrame.lines ≤ 16) ∧
    peerFrame.dst < (linked fun x => { x with state := 3 }).peer.members ∧ peerFrame.nak = false ∧ peerFrame.lines ≠ 0 ∧
    peerFrame.linkSeq = ((((linked fun x => { x with state := 3 }).countPort 0 1).port 0).rxSeq + 1) % 65536 ∧
    (let f := { peerFrame with typ := 2, op := 6, lines := 0 }
     f.typ = 2 ∧ 5 ≤ f.op ∧ f.lines = 0 ∧ [6].contains f.op = true) ∧ ((linked fun x => { x with state := 1 }).port 0).up = false := by decide +kernel

/-- PortsRetryTrainAndFail: a gap that is open and one that is not, a lane that fails, a port that trains, the partner that it should have and another, a collective that waits. -/
theorem witness_ports :
    (((linked fun x => { x with state := 3, gap := true }).countPort 0 2).port 0).gap = true ∧ (((linked fun x => { x with state := 3 }).countPort 0 2).port 0).gap = false ∧
    (((linked fun x => { x with state := 3 }).port 0).laneStates.getD 2 60 % 8 = 1 ∧ ((linked fun x => { x with state := 3 }).port 0).laneStates.getD 4 60 % 8 ≠ 2) ∧
    ((linked fun x => { x with state := 2 }).port 0).state = 2 ∧ (linked id).peer.neighbour (linked id).peer.index 0 = 1 ∧
    (let s := (linked fun x => { x with state := 3 }).modPeer fun q => { q with colls := [coll] }
     (s.peer.colls.find? fun x => x.p == 0 && x.c == 0 && x.core == 0 && x.stroke == 0) = some coll ∧ ((s.portsOf coll).any fun k => (s.port k).state == 4) = false ∧ coll.extended = false) ∧
    (let s := (linked fun x => { x with state := 4 }).modPeer fun q => { q with colls := [coll] }
     ((s.portsOf coll).any fun k => (s.port k).state == 4) = true) := by decide +kernel

/-- MeshErrorsStopTheTransfer: no stroke, and one that runs. -/
theorem witness_mesh :
    let s1 := fun (s : State) => (s.modPeer fun q => { q with meshErrors := bump q.meshErrors 1 }).logError 0x0301 0xFF 0 [byteOf 3, byteOf 1]
    (s1 (flying [0])).runningAt 0 0 0 0 = none ∧ (s1 ((flying [0]).modPart 0 fun x => { x with running := [{ ctx := 0, core := 0, stroke := 0, word0 := 0 }] })).runningAt 0 0 0 0 =
      some { ctx := 0, core := 0, stroke := 0, word0 := 0 } ∧ 4 ≤ State.reset.mode := by decide +kernel

/-! ### Witnesses: the Gong client, listening, candidates -/

/-- A request of the part as a client. -/
def asks (purpose : ClientPurpose) (attempts : Nat) : ClientReq := { id := 4, part := 0, purpose := purpose, frame := good.frame, attempts := attempts }
/-- A part with such a request. -/
def asking (r : ClientReq) : State := State.reset.modSvc fun x => { x with clients := [r] }

/-- GongClientAsksTriesAgainAndRelays: a request of each purpose, one that may be sent again and one that may not, the right identity and another, a session. -/
theorem witness_gong :
    ([ClientPurpose.readNode, .openSession, .subscribeTokens, .answer].all fun p => [1, 3].all fun n =>
      ((asking (asks p n)).svc.clients.find? fun e => e.id == 4) == some (asks p n)) = true ∧ (asks .answer 1).sentTo = none ∧
    ({ asks .answer 1 with sentTo := some 0 } : ClientReq).sentTo ≠ none ∧ 4 ≤ State.reset.mode ∧
    ofBE (be 4 0) = State.reset.cfg 0x1310 5 ∧ ofBE (be 4 1) ≠ State.reset.cfg 0x1310 5 ∧ 4 ≤ (be 4 1).length ∧
    (State.reset.modCascade fun x => { x with session := some 9 }).cascade.session = some 9 := by decide +kernel

/-- The record of a feed of the single microphone, 16 samples a block, two blocks in the ring. -/
def feedRecord : Bytes := [1, 1, 0, 0, 0] ++ be 4 0 ++ be 2 16 ++ [2, 0, 0, 0, 0] ++ be 2 0
/-- A part in ACTIVE that feeds core 0 of partition 0, with 600 samples heard. -/
def feeding : State :=
  ((flying [0]).setObj 0 0x2240 1 feedRecord).modAfe fun x => { x with history := x.history.set 0 { next := 600 }, preroll := { next := 600 }, feeds := x.feeds.set 0 { on := true } }

/-- ListeningRunsFromInputsToFeeds: chains that settle, inputs that fail with a spare and without, a table that waits, a frame whose last sample has arrived, a feed. -/
theorem witness_listening :
    (State.reset.afe.tcx.settled = false ∧ State.reset.afe.tcx.running = true ∧ State.reset.afe.array.settled = false ∧ State.reset.afe.array.running = true ∧ 4 ≤ State.reset.mode) ∧
    State.reset.afe.micFailed.contains 32 = false ∧ State.reset.afe.spare = false ∧ (State.reset.modAfe fun x => { x with spare := true }).afe.spare = true ∧
    (State.reset.modAfe fun x => { x with waiting := some (1, []) }).afe.waiting = some (1, []) ∧ State.reset.afe.waiting = none ∧
    4 ≤ (feeding.hear {}).mode ∧ ((feeding.hear {}).frameInput 1024 1).isSome = true ∧
    (let h := feeding.hear {}
     match h.afe.feeds[0]? with
     | none => false
     | some f =>
       let r := h.feedOverrun 0 f
       h.slotOf h.cascadePart (h.feedCfg 0 4) == some 0 && h.feedCfg 0 0 != 0 && r.1.on && r.2.feedReady 0 r.1 && h.powered 0 && decide (r.1.block < max 1 (h.feedCfg 0 7)) &&
         decide (h.feedCfg 0 5 * 64 + max 1 (h.feedCfg 0 7) * h.blockBytes 0 ≤ h.ctxCfg h.cascadePart (h.feedCfg 0 3) 0 4 * 64) && h.feedCfg 0 11 != 1) = true := by decide +kernel

/-- CandidatesAreHeldOneAtATime: a score below the threshold and one at it, with a candidate held and with none, a block of a ring and none. -/
theorem witness_candidates :
    (2 ≤ (feeding.hear {}).mode ∧ 160 * 1 + 400 ≤ (feeding.hear {}).afe.preroll.next ∧ 191 < (feeding.hear {}).cfg 0x2230 2 ∧ (feeding.hear {}).cfg 0x2230 2 ≤ 192 ∧
      (feeding.hear {}).afe.held = none ∧ ((feeding.modAfe fun x => { x with held := some 1 }).hear {}).afe.held.isSome = true) ∧
    (let s := (feeding.setObj 0 0x2251 1 (zeros 11)).modSlot 0 fun x => { x with tokens := x.tokens.set 0 1 }
     (s.ringBlock s.cascadePart 0 (s.afe.played.getD 0 0)).isSome = true) ∧
    (feeding.ringBlock feeding.cascadePart 0 (feeding.afe.played.getD 0 0)).isNone = true := by decide +kernel

/-! ### Witnesses: cameras -/

/-- Camera 0 of partition 0 is enabled, in ACTIVE. -/
def filming : State := ((tenanted.setObj 0 0x6000 1 [0]).setObj 0 0x6000 2 [1]).modPart 0 id |> fun s => { s with mode := 5 }
/-- A frame of two lines of four samples. -/
def frame0 : CamFrame := { seq := 0, csi := 0, fsNs := 0, valid := false, ctl := List.replicate 12 [] ++ [be 2 4, be 2 2, [0x2B]] }
/-- Camera 0 with a frame. -/
def shooting (f : CamFrame) (fifo : List (Nat × CamLine)) : State := filming.modCam 0 fun x => { x with recving := some 0, frames := [f], fifo := fifo }
/-- Whether a frame that starts now is accepted, and whether its outputs have their credits. -/
def starts (s : State) : Option (Bool × Bool) :=
  if s.camOn 0 0 = some 0 ∧ s.camRuns 0 = true ∧ 16 ≤ ((s.reach 0).closeFrame 0 false).camCfg 0 10 then
    let s1 := (s.reach 0).closeFrame 0 false
    some (s1.acceptsFrame 0, (s1.takeCredits 0 (((s1.camControls 0).drop 8).take 4)).isSome)
  else none

/-- CamerasTakeFramesWhole: a frame that is accepted, one without a credit, one that is not accepted, lines of a frame, an FE with none, an unknown packet, a line for the
pipeline, a frame that is published, an output's object, settings that are sent. -/
theorem witness_cameras :
    starts filming = some (true, true) ∧ starts (filming.setObj 0 0x6004 1 (1 :: zeros 80)) = some (true, false) ∧ starts (filming.setObj 0 0x6000 7 (be 4 100)) = some (false, true) ∧
    (((shooting frame0 []).cam 0).current? = some frame0 ∧ frame0.arrived < ofBE (frame0.ctl.getD 13 []) ∧ 4 = ofBE (frame0.ctl.getD 12 []) ∧ filming.camCfg 0 4 = 0x2B) ∧
    (let f := { frame0 with arrived := 2 }
     ((shooting f []).cam 0).current? = some f ∧ ofBE (f.ctl.getD 13 []) ≤ f.arrived ∧ f.flags.testBit 1 = false) ∧
    (filming.cam 0).current? = none ∧ filming.camOn 1 0 = none ∧ State.reset.camRuns 0 = false ∧
    (let s := shooting frame0 [(0, { samples := [1, 2, 3, 4] })]
     (((List.range 8).map fun i => (s.image.served + 1 + i) % 8).find? fun k => !(s.cam k).fifo.isEmpty && !([] : List Nat).contains k) = some 0) ∧
    (let f := { frame0 with closed := true }
     let s := shooting f []
     ((s.cam 0).frames.find? fun f => f.closed && !f.dropped && decide (f.lines.length = f.arrived)) = some f ∧ s.camOwner 0 < 8 ∧
     (f.slots.zip ((f.ctl.drop 8).take 4)).all (fun e => e.1.isNone) = true ∧ ¬(outField (f.ctl.getD 8 []) 0 = 1 ∧ outField (f.ctl.getD 8 []) 24 = 1)) ∧
    (tenanted.objOf (outField (0 :: be 8 1 ++ zeros 80) 1)).isSome = true ∧ ((filming.modCam 0 fun x => { x with slotE := some { gen := 1, value := 9 } }).cam 0).slotE.isSome = true ∧
    0 < filming.image.cams.length := by decide +kernel

/-! ### Witnesses: time -/

/-- A master. -/
def master : Master := { port := 0, identity := 5, data := ⟨128, 6, 0x21, 0, 128, 5, 0⟩ }
/-- A part that follows it, with a two-step Sync, a Delay_Req and a Pdelay_Req kept. -/
def timed0 : State := { State.reset with time := { State.reset.time with parent := some master, syncDelta := some 3, state := 2, keptPtp := [
  { typ := 0, port := 0, source := 5, sequenceId := 1, stamp := 2 ^ 64 }, { typ := 1, port := 0, source := 0, sequenceId := 1, stamp := 2 ^ 64 },
  { typ := 2, port := 0, source := 0, sequenceId := 1, stamp := 2 ^ 64 }] } }

/-- TimeMessagesAreTakenOrDiscarded and TimeRecoveriesKeepOneTime: a message that is not well formed, each that is, a parent, the mechanisms and the modes. -/
theorem witness_time :
    PtpMsg_wellFormed { sync1 with version := 1 } = false ∧
    (PtpMsg_wellFormed sync1 = true ∧ sync1.domain = timed0.cfg 0x1610 3 ∧ sync1.toUs = true ∧ sync1.egress = none) ∧
    (let at_ := fun (k : Nat) => (timed0.reach sync1.stamp).countPtp k
     (at_ 4).inProfile 1 sync1.logInterval = true ∧ (at_ 0).inProfile 0 sync1.logInterval = true ∧ (at_ 0).following = true ∧ (at_ 0).fromParent sync1 = true ∧
     ((at_ 1).keptFor 0 sync1.source sync1.sequenceId).isSome = true ∧ ((at_ 1).keptFor 0 6 1).isNone = true ∧ (at_ 2).inProfile 2 sync1.logInterval = true ∧
     ((at_ 2).keptFor 1 0 sync1.sequenceId).isSome = true ∧ (at_ 2).time.syncDelta.isSome = true ∧ ((at_ 3).keptFor 2 0 sync1.sequenceId).isSome = true ∧ sync1.typ ≠ 10 ∧ sync1.twoStep = false) ∧
    (((timed0.setObj 0 0x1610 7 [2]).reach sync1.stamp).countPtp 3).peerDelay = true ∧ (timed0.reach 5).peerDelay = false ∧ (timed0.reach 5).time.parent.map (·.port) = some 0 ∧
    ((timed0.setObj 0 0x1610 7 [1]).reach sync1.stamp).cfg 0x1610 7 = 1 ∧ timed0.time.parent = some master ∧ timed0.time.nsInForce = true ∧ timed0.time.state = 2 ∧
    State.reset.time.state ≠ 2 ∧ State.reset.time.state ≠ 3 := by decide +kernel

/-- TriggersFireAndCapturesStamp: a unit that is armed and one that is not, a capture unit of a trigger unit and of a pin, an event close to the last, a ring that is full. -/
theorem witness_triggers :
    ((({ State.reset with time := { State.reset.time with triggers := State.reset.time.triggers.set 3 { state := 1 } } } : State).time.triggers.getD 3 {}).state = 1 ∧
      (State.reset.time.triggers.getD 3 {}).state ≠ 1 ∧ 4 ≤ State.reset.mode ∧ State.reset.time.nsInForce = true ∧ 3 < State.reset.time.captures.length) ∧
    (let s := State.reset.setObj 0 0x1783 2 [1, 0x21, 0]
     s.field 0 (0x1780 + 3) 2 0 ≠ 0 ∧ s.field 0 (0x1780 + 3) 2 1 = 0x21) ∧
    (let s := State.reset.setObj 0 0x1783 2 [1, 0, 1]
     s.field 0 (0x1780 + 3) 2 0 ≠ 0 ∧ s.field 0 (0x1780 + 3) 2 1 = 0 ∧ (s.field 0 (0x1780 + 3) 2 2 = 1 ∨ s.field 0 (0x1780 + 3) 2 2 = 3)) ∧
    (State.reset.time.captures.getD 3 {}).lastAt = none ∧ (State.reset.time.captures.getD 3 {}).undelivered.length < 256 ∧ 5 < 4 + 100 * 2 ^ 32 ∧
    256 ≤ (List.replicate 256 ([] : Bytes)).length := by decide +kernel

/-! ### Witnesses: the network and the host ports -/

/-- Both ports enabled, port 0 with a link, and VLAN 7 on both. -/
def bridging : State :=
  (((State.reset.setObj 0 0x1800 1 ([1, 0, 0, 0] ++ be 2 7 ++ [0])).setObj 0 0x1800 2 ([1, 0, 0, 0] ++ be 2 7 ++ [0])).setObj 0 0x1800 5 (be 2 7 ++ [3, 3])).modLan 0 fun x => { x with link := true, speed := 1 }

/-- BridgeTakesLearnsAndForwards: a port enabled and one that is not, the automatic speed, an oversize frame, one of no VLAN and one that is forwarded, an address that is the part's. -/
theorem witness_bridge :
    (bridging.portCfg 0 0 ≠ 0 ∧ bridging.portCfg 0 1 = 0 ∧ bridging.trains 0 = 1 ∧ (bridging.net.ports.getD 1 {}).link = false ∧ (bridging.net.ports.getD 0 {}).link = true ∧
      (State.reset.setObj 0 0x1800 1 (zeros 7)).portCfg 0 0 = 0) ∧
    (etherFrame.port < 2 ∧ etherFrame.kind ≠ 6 ∧ etherFrame.kind ≠ 1 ∧ 64 ≤ etherFrame.length ∧ etherFrame.length ≤ 1522 ∧ 1522 < ({ etherFrame with length := 2000 } : EtherFrame).length) ∧
    bridging.portCfg 0 4 = 7 ∧ (bridging.vlan 7).isSome = true ∧ bridging.vlan 8 = none ∧ (etherFrame.dst / 2 ^ 40).testBit 0 = false ∧ etherFrame.dst ≠ etherFrame.src ∧
    (bridging.net.macs.all fun m => !(m.vid == 7 && m.mac == etherFrame.dst)) = true ∧ (bridging.net.macs.filter fun m => !(m.vid == 7 && m.mac == etherFrame.src)).length < 4096 ∧
    etherFrame.dst ∉ ptpGroups ∧ etherFrame.dst ≠ 2 ^ 48 - 1 ∧ State.reset.ownAddress 0 0 false = true ∧ State.reset.ownAddress 0 1 false = false := by decide +kernel

/-- The addresses of the part are free values, yet some unicast address is neither. -/
theorem witness_foreign_address : ∃ d ∈ [2, 4, 8], d ≠ macBase ∧ d ≠ macBase + 1 := by
  by_cases h : 4 < macBase
  · exact ⟨2, by simp, by omega, by omega⟩
  · exact ⟨8, by simp, by omega, by omega⟩

/-- Receive channel 0 enabled, with a sample that waits. -/
def receiving (got : List (Nat × Nat)) : State :=
  (bridging.setObj 0 0x5000 2 (1 :: zeros 60)).modRx 0 fun x => { x with got := got }

/-- StreamsReleaseConcealAndSend: a packet, a malformed one, a sample that is released and one that is concealed, a transmit channel. -/
theorem witness_streams :
    4 ≤ bridging.mode ∧ (bridging.net.ports.getD rtp.port {}).link = true ∧ ({ rtp with version := 1 } : RtpPacket).version ≠ 2 ∧
    ((receiving [(5, 7)]).rxCfg 0 0 ≠ 0 ∧ ((receiving [(5, 7)]).rxChan 0).next = none ∧ (((receiving [(5, 7)]).rxChan 0).got.find? fun e => e.1 == 5) = some (5, 7) ∧
      (((receiving []).rxChan 0).got.find? fun e => e.1 == 5) = none) ∧
    (let s := (bridging.setObj 0 0x5400 2 (1 :: zeros 60)).modTx 0 fun x => { x with m0 := some 3 }
     (kvGet s.net.tx 0).map (·.m0) = some (some 3) ∧ s.txCfg 0 0 ≠ 0) := by decide +kernel

/-- The anchors: one of a byte. -/
def anchored : State := tenanted.setObj 0 0x1B10 1 (be 4 1 ++ [5])

/-- HostPortsServeTheirFunctions: an aperture on an object and on none, within it and beyond it, to a SEALED object and to a WORKING one, a function, the anchors. -/
theorem witness_host_ports :
    (4 ≤ tenanted.mode ∧ tenanted.area 0 0x50 1 ≠ 1 ∧ (tenanted.setObj 0 0x3050 1 [1]).area 0 0x50 1 = 1 ∧ tenanted.apertureObj 0 9 = none) ∧
    ((tenanted.apertureObj 0 1).map fun o => (o.kind, o.size)) = some (1, 4096) ∧ ((tenanted.apertureObj 0 2).map fun o => (o.kind, o.size, tenanted.ptProtected o 0 4)) = some (2, 8192, none) ∧
    ({ tenanted.net with apertures := [(4, 2, 0)] } : Net).apertures.find? (fun e => e.1 == 1 * 4 + 0) = some (4, 2, 0) ∧ 0 < tenanted.svc.windows.length ∧
    tenanted.serving = true ∧ (lengthPrefixed 4 (tenanted.obj 0 0x1B10 1)).length = 0 ∧ (lengthPrefixed 4 (anchored.obj 0 0x1B10 1)).length = 1 ∧ 3 ∉ anchored.svc.tls ∧
    anchored.svc.tls.length < 4 := by decide +kernel

/-! ### Witnesses: trace and numbers -/

/-- TraceIsHeldAndRead and DebugPortReadsTheIdcode: a region that takes a record, one with a record to read. -/
theorem witness_trace :
    (0 < 9 ∧ State.reset.trace.regions.length = 9 ∧ (State.reset.region 0).recs.length ≤ regionSize 0 ∧ 4 ≤ State.reset.mode ∧ State.reset.jtagRecord = none) ∧
    ((State.reset.setObj 0 0x3070 1 [0, 0, 0, 16]).traceKinds 0).testBit (5 - 1) = true ∧
    (let s := { (State.reset.setObj 0 0x1C00 3 [1]) with trace := { State.reset.trace with jtagRegion := 8, regions := State.reset.trace.regions.set 8 { seq := 1, recs := [(0, zeros 32, true)] } } }
     s.jtagRecord = some (0, zeros 32)) := by decide +kernel

/-- IntegerAccumulationSaturates: one product that goes beyond INT32 at each end, and one that does not. -/
theorem witness_numbers :
    (let p : Pairing := { k := 64, chunk := 64, int := true }
     p.int = true ∧ ([] : List (ScaledElem × ScaledElem)).length % p.chunk = 0 ∧ 0 < [((1 : Int), (1 : Int))].length ∧ [((1 : Int), (1 : Int))].length ≤ p.chunk ∧
     2147483647 < signed 32 (accumulate p 2147483647 []).1 + ([((1 : Int), (1 : Int))].map fun e => e.1 * e.2).sum ∧
     signed 32 (accumulate p 2147483648 []).1 + ([((-1 : Int), (1 : Int))].map fun e => e.1 * e.2).sum < -2147483648) := by decide +kernel

/-! ### Witnesses: further clauses -/

/-- WritesCommitAndAreSaved: a waiting write whose value another write has made illegal, the second urgent context of a partition. -/
theorem witness_saved_write_refused :
    (let e := { waits with request := ask 0 2 0x3010 1 2 [3], index := 0x3010, sub := 1, value := [3] }
     let s := (tenanted.setObj 0 0x3014 1 [3]).modSvc fun x => { x with saving := [e] }
     s.svc.saving = [e] ∧ s.power.braced = false ∧
     (e.target.map fun t => decide ((checkAny e.who t e.value (s.modSvc fun x => { x with saving := [] })).1 = 0)) = some false) := by decide +kernel

/-- SubscriptionsNotifyAndEnd: a response that comes from the management port. -/
theorem witness_notify_response :
    (let rq : Request := { manage 6 0x1220 2 0 [] with frame := { op := 6, response := true, index := 0x1220, sub := 2 } }
     managed.listens rq.source = true ∧ rq.frame.op = 6 ∧ notifyResponse rq = true ∧ rq.frame.version = 1 ∧ rq.defect = .none ∧
     (match (managed.countOnnum 0).sender rq with
      | some (.inr _) => true
      | _ => false) = true) := by decide +kernel

/-- RefusedAndWaitingStrokesDoNothing: a head that a head of lesser rank passes over. -/
theorem witness_passed_over :
    (let w := [8] ++ spadAt 0 ++ nowhere ++ spadAt 64 ++ [0, 0x10001, 0x10001]
     let s := flying w
     let x : Context := { (s.ctx 0 0) with pattern := some { handle := 3, bytes := container w } }
     let s := (((s.setObj 0 0x3014 1 [3]).setObj 0 0x3014 3 (be 2 1024)).setObj 0 0x3014 4 (be 2 1024)).modPart 0 fun y => { y with ctxs := y.ctxs.set 1 x }
     (match s.headSite 8 0 0 0 with
      | some t => s.headCode t (meaningMove.own t s) == 0 && tokensReady (s.slot t.slot) 0 (waitTokens t.w) && !(meaningMove.units t.w).any (s.unitsHeld 0 0).contains &&
        meaningMove.ready t s && s.passedOver 0 0 0
      | none => false) = true) := by decide +kernel

/-- TilesYieldAndTokensTimeOut: a tile that ends with its unit wanted and with it not, an interrupted stroke that may resume and one that may not, a SYNC that waits. -/
theorem witness_tiles_pass :
    (let r := { moves with tiles := 2 }
     r.tile + 1 < r.tiles ∧ (contended r).runningAt 0 0 0 0 = some r ∧ (contended r).heldBack 0 r = false ∧
     (List.range 16).find? (((contended r).passTile 0 r).2.wanted 0 0 ((contended r).passTile 0 r).1) = some 1 ∧
     (running [r]).runningAt 0 0 0 0 = some r ∧ (running [r]).heldBack 0 r = false ∧
     (List.range 16).find? (((running [r]).passTile 0 r).2.wanted 0 0 ((running [r]).passTile 0 r).1) = none) ∧
    (let r := { moves with preempted := true }
     (running [r]).mayResume 0 0 r = true ∧ (contended r).runningAt 0 0 0 0 = some r ∧ (contended r).mayResume 0 0 r = false) ∧
    (let r := { nop with sync := some (0, 1) }
     let s := running [r]
     ((s.ctx 0 0).flight.map (·.stop)) = some none ∧ ((s.part 0).running.find? fun r => r.ctx == 0 && r.core == 0 && r.sync.isSome) = some r) := by decide +kernel

/-- GateDecidesTheLayer: the gate's stroke has completed, and a stroke of the core still runs. -/
theorem witness_gate_busy :
    (let s := (gated (5, 10, 1) 0).modPart 0 fun x => { x with running := [{ nop with stroke := 7 }] }
     (s.part 0).running.any (fun x => x.ctx == 0 && x.core == 0) = true ∧
     (s.part 0).running.any (fun x => x.ctx == 0 && x.core == 0 && x.stroke == (rerunPattern.rerunCore 1 0).1) = false ∧
     (rerunPattern.rerunCore 1 0).1 = 0) := by decide +kernel

/-- SubmissionsRunToCompletion: an end on every core with nothing running, and one that was stopped. -/
theorem witness_submission_ends :
    (let f := { flight with cores := [{ core := 0, todo := [], ended := true, steps := 1 }] }
     let s := queued 1 fun x => { x with flight := some f }
     (s.ctx 0 0).flight = some f ∧ f.stop = none ∧ f.cores.all (·.ended) = true ∧ f.stepEnded = true ∧ ((s.part 0).running.filter fun r => r.ctx == 0) = [] ∧
     (((if f.started then s.boundary 0 0 f else s).ctx 0 0).flight).isSome = true) ∧
    (let f := { flight with stop := some (0x0104, 0, 0) }
     let s := queued 1 fun x => { x with flight := some f }
     (s.ctx 0 0).flight = some f ∧ f.stop.isSome = true ∧ ((s.part 0).running.filter fun r => r.ctx == 0) = []) ∧
    (let s := queued 3 fun x => { x with flight := none, held := [4] }
     (s.ctx 0 0).held = [4] ∧ (s.part 0).state = 2 ∧ (s.ctx 0 0).flight = none ∧ (s.ctx 0 0).queue = []) := by decide +kernel

/-- A stream context whose gate context is 2, with a submission of the host that waits. -/
def hostGated (auto : Byte) : State :=
  let s := (flying [0]).setObj 0 0x2420 1 ([1, auto, 2] ++ zeros 8 ++ [1] ++ be 2 0 ++ be 4 1000)
  s.modPart 0 fun x => { x with ctxs := x.ctxs.modify 0 fun y => { y with flight := none, queue := [{ sub5 with released := some 1 }], pattern := some { handle := 3, bytes := (container [0]).set 4 3 } } }

/-- ChunksAreReleasedAndDelivered: a chunk with a gate context, the update after a gate submission where the part submits and where the host does, a host's chunk
that waits for its gate, a block that is requested. -/
theorem witness_chunk_gates :
    (let c := chunked.setObj 0 0x2420 1 ([1, 1, 2] ++ zeros 8 ++ [1] ++ be 2 0 ++ be 4 1000)
     c.autoChunks 0 0 = true ∧ c.gateContext 0 0 = some 2) ∧
    ((hostGated 0).autoChunks 0 0 = false ∧ (hostGated 1).autoChunks 0 0 = true) ∧
    (let s := hostGated 0
     (s.ctx 0 0).gating = none ∧ s.gateContext 0 0 = some 2 ∧ (s.ctx 0 0).queue = [{ sub5 with released := some 1 }] ∧ (s.ctx 0 0).flight = none ∧
     s.awaitsGate 0 0 { sub5 with released := some 1 } = true) ∧
    (let s := (flying [0]).modSlot 0 fun x => { x with prefetchers := x.prefetchers.set 3 (some prefetcher) }
     ((s.ctx 0 0).pattern.map fun pat => s.requested 0 prefetcher pat && !(s.replacing.any fun x => x.part == 0 && (dCores prefetcher.desc pat 0).contains x.logical)) = some true ∧
     ((s.objOf 1).map fun o => decide (o.state ≠ 4)) = some true) := by decide +kernel

/-- IdlePartsDescend: a part that is not idle, a refuser that is new, a brace, a descent from ATTEND that is tried again, and one whose refuser stands. -/
theorem witness_idle_clauses :
    State.reset.activeIdle = false ∧ (inMode 5 id).attendIdle = false ∧ State.reset.power.shortHold ≠ 2 ∧
    (let s := streaming (inMode 5 id)
     s.activeIdle = true ∧ s.power.braced = false ∧ (s.refuser 4 false).map (·.code) = some 0x0B02 ∧ s.power.refused = none) ∧
    (let s := inMode 5 fun x => { x with braced := true }
     s.activeIdle = true ∧ s.power.braced = true) ∧
    (let s := inMode 4 fun x => { x with refused := some (0x0B02, 2) }
     s.power.refused = some (0x0B02, 2) ∧ s.power.braced = false ∧ s.refuser 2 false = none ∧ s.attendIdle = true) ∧
    (let s := streaming (inMode 4 fun x => { x with refused := some (0x0B02, 2) })
     (s.refuser 2 false).map (·.code) = some 0x0B02 ∧ s.power.refused = some (0x0B02, 2)) := by decide +kernel

/-- WakeSourcesRaiseTheTarget: a wake that came before, the first wake in LISTEN, an alarm that is off. -/
theorem witness_wakes :
    (let s := inMode 1 fun x => { x with up := some 4 }
     1 ≤ s.mode ∧ s.mode < 4 ∧ s.mode = 1 ∧ s.power.up = some 4) ∧
    (let s := (inMode 2 id).setObj 0 0x1400 5 [4]
     s.mode = 2 ∧ 4 ≤ s.cfg 0x1400 5 ∧ s.power.up = none) ∧ ofBE ((State.reset.obj 0 0x1400 3).take 1) = 0 := by decide +kernel

/-- TransitionsReachTheirMode: a supply that is late with tries left and with none. -/
theorem witness_late_supplies :
    (let s := { inMode 4 id with ascend := true }
     s.power.retries < 3 ∧ s.mode = 4 ∧ s.ascend = true) ∧
    (let s := { inMode 4 fun x => { x with retries := 3 } with ascend := true }
     3 ≤ s.power.retries ∧ s.mode = 4 ∧ s.power.failed = false) ∧ (inMode 5 id).power.wanted = none := by decide +kernel

/-- BracesAndEmergenciesHoldAndEnd: a brace that ends with its record on top, an emergency below its second. -/
theorem witness_brace_clauses :
    (let s := (inMode 4 fun x => { x with braced := true }).logError 0x0B09 0xFF 0 []
     s.power.braced = true ∧ s.power.store = [] ∧ s.errorLog.recs.map (·.code) = [0x0B09]) ∧
    (let s := inMode 4 fun x => { x with emergency := true, emergencyAtNs := 1500000000 }
     s.power.emergency = true ∧ 1 * 1000000000 < s.power.emergencyAtNs + 1000000000) := by decide +kernel

/-- ColdStartsFollowAFall: no root PLL is good, one is, and the part is warm or cold. -/
theorem witness_cold_starts :
    (pllStates [0, 1]).contains 1 = false ∧ (pllStates []).contains 1 = true ∧ ({} : SelfTest).cold = false ∧ ({ cold := true } : SelfTest).cold = true := by decide +kernel

/-- ResetRequestsBeginOrWait: a program in progress, none, and a start in progress. -/
theorem witness_reset_clauses :
    ({ programming := true } : WarmTest).programming = true ∧ ({} : WarmTest).programming = false ∧ State.reset.ras.cold = none ∧ State.reset.ras.deferred = none ∧
    (State.reset.modRas fun x => { x with cold := some 0x0D02 }).ras.cold = some 0x0D02 ∧ State.reset.ras.asked = none := by decide +kernel

/-- SparesTakeOver: the spare microcontroller fails, and a root PLL in use fails beside a good standby and beside a bad one. -/
theorem witness_spare_clauses :
    State.reset.ras.mcus.getD 4 (3, 7) = (2, 7) ∧ State.reset.ras.plls.findIdx? (· == 1) = some 0 ∧ (State.reset.ras.plls.set 0 3).getD (1 - 0) 3 = 2 ∧
    (let s := State.reset.modRas fun x => { x with plls := [1, 3] }
     s.ras.plls.findIdx? (· == 1) = some 0 ∧ (s.ras.plls.set 0 3).getD (1 - 0) 3 ≠ 2) := by decide +kernel

/-- FailedSlotsAreRetiredAndReplaced: a slot of a partition that a STANDBY slot replaces. -/
theorem witness_replaced_slot :
    (let s := flying [0]
     0 < s.slots.length ∧ (s.slot 0).state = 1 ∧ (s.slot 0).part < 8 ∧ (s.replacing.find? fun r => r.slot == 0) = none ∧ s.replacementOf 0 true = some 64) := by decide +kernel

/-- CacheRefreshAndWindowFollowTheirRules: the spare slice is in use already, and a window of a whole second. -/
theorem witness_tier_clauses :
    (let s := State.reset.modTiers fun t => { t with slices := t.slices.set 16 (1 + 8 * 5) }
     s.tiers.slices.getD 3 3 % 8 = 1 ∧ s.tiers.slices.getD 16 3 % 8 ≠ 2) ∧ 1000 ≤ (State.reset.setObj 0 0x2100 4 (be 2 1000)).cfg 0x2100 4 := by decide +kernel

/-- MemoryErrorsAreCountedAndHandled: a SEALED object with its digest, a WORKING object under a stroke that runs, an object whose page is lost. -/
theorem witness_memory_error_clauses :
    (let s := { tenanted with objects := [{ obj 1 1 3 4096 with digest := [1] }] }
     ((s.objOf 1).map fun o => (o.kind, o.state, decide (o.digest ≠ []))) = some (1, 3, true)) ∧
    (let s := running [nop]
     ((s.objOf 1).map fun o => (decide (o.kind ≠ 1),
       (((s.modGroup 0 fun x => { x with uncorrectable := x.uncorrectable + 1 }).logError 0x0209 0xFF 0 []).damage o 0x0209).runningAt 0 0 0 0)) = some (true, some nop)) ∧
    ((((tenanted.stallSome 0 3).stallSome 0 4).logError 0x020F 0xFF 0 []).objOf 1).isSome = true := by decide +kernel

/-- An object whose digest is its chunk tree, and one whose digest is not. -/
def digested (o : Obj) (more : Bytes) : Obj := { o with digest := chunkTree o ++ more }

/-- ObjectsAreSealedClaimedAndDeleted: a chunk that fails its digest and one that agrees, an object whose digest agrees and one whose does not. -/
theorem witness_digests (o : Obj) : chunkTree (digested o []) = (digested o []).digest ∧ chunkTree (digested o [0]) ≠ (digested o [0]).digest ∧
    (o.kind = 1 → o.residence = 2 → (digested o []).digest = (digested o []).digestNow ∧ (digested o [0]).digest ≠ (digested o [0]).digestNow) := by
  have e : ∀ more, chunkTree (digested o more) = chunkTree o := fun _ => rfl
  have d : ∀ more, (digested o more).digest = chunkTree o ++ more := fun _ => rfl
  refine ⟨by rw [e, d, List.append_nil], fun h => ?_, fun k r => ?_⟩
  · rw [e, d] at h
    simpa using congrArg List.length h
  · have n : ∀ more, (digested o more).digestNow = chunkTree o := fun more => by
      have : (digested o more).kind = 1 ∧ (digested o more).residence ≠ 3 := ⟨k, by show o.residence ≠ 3; omega⟩
      rw [Obj.digestNow, if_pos this, e]
    refine ⟨by rw [n, d, List.append_nil], fun h => ?_⟩
    rw [n, d] at h
    simpa using congrArg List.length h

/-- ObjectsAreSealedClaimedAndDeleted: a window that is open, a claim in progress of a copy that is read from flash and of one in DRAM, with and without a release, a key that
agrees and one that does not, an object that others claim, and one that a submission names. -/
theorem witness_object_clauses :
    (let s := (holding (obj 1 1 2 64)).modTiers fun t => { t with windowOpen := true }
     s.tiers.windowOpen = true ∧ (holding (obj 1 1 2 64)).tiers.windowOpen = false ∧ (s.objOf 1).map (·.state) = some 2) ∧
    ([(1, false), (2, true)].all fun e =>
      let o := { obj 1 1 3 64 with residence := e.1, claims := [{ part := 0, level := 1, release := e.2 }] }
      ((holding o).objOf 1 == some o) && (o.claim? 0).map (·.done) == some false) = true ∧
    (let o := { obj 1 1 5 64 with keyCheck := some 7 }
     let s := (holding o).setObj 0 0x3000 3 [4]
     s.objOf 1 = some o ∧ s.readoptTurn o = true ∧ o.keyCheck = s.keys.getD o.owner none ∧ o.residence = 2) ∧
    (let o := { obj 1 1 5 64 with keyCheck := some 8 }
     let s := (holding o).setObj 0 0x3000 3 [4]
     s.objOf 1 = some o ∧ s.readoptTurn o = true ∧ o.keyCheck ≠ s.keys.getD o.owner none) ∧
    (let o := { obj 1 1 3 64 with deleting := true, claims := [{ part := 1, level := 1, done := true }] }
     (holding o).objAt 0 1 = some o ∧ o.deleting = true ∧ ¬(∀ c ∈ o.claims, c.part = 0) ∧ (holding o).inFlight o.handle = false) ∧
    (let o := { obj 1 2 3 64 with deleting := true }
     ({ flying [0] with objects := [o] } : State).objAt 0 1 = some o ∧ ({ flying [0] with objects := [o] } : State).inFlight o.handle = true) := by decide +kernel

/-- TenantsAreResetScrubbedAndAttested: the anchors are written by a session of the management port. -/
theorem witness_trust_by_management :
    (let rq := manage 4 0x1B10 1 14 (be 4 1 ++ [5])
     let s0 := (managed.setObj 0 0x1B10 1 (be 4 1 ++ [6]))
     names rq "MGMT_TRUST" = true ∧ (goes s0 rq 4 (fun _ => true) fun w s => s.obj 0 0x1B10 1 != [] && w.owner != .fn 0 &&
       hits (s.writeTarget w rq.frame true) fun t => (checkMgmtTrust w t rq.frame.payload s).1 == 0) = true) := by decide +kernel

/-- PeerFramesAreDeliveredInOrder: a frame in order, one that came before, one beyond a gap that stands and that does not, an empty one with and without a gap, an illegal one. -/
theorem witness_peer_order :
    (let s := linked fun x => { x with state := 3, rxSeq := 9 }
     let behind := fun (n : Nat) => (n + 65536 - (((s.countPort 0 1).port 0).rxSeq + 1) % 65536) % 65536
     (s.port 0).up = true ∧ s.peer.frameOk [1] { peerFrame with linkSeq := 10 } = true ∧ behind 10 = 0 ∧ 32768 ≤ behind 9 ∧ behind 12 ≠ 0 ∧ behind 12 < 32768 ∧
     ((s.countPort 0 1).port 0).gap = false ∧ s.peer.frameOk [1] { peerFrame with lines := 0, payload := [] } = true ∧
     s.peer.frameOk [1] { peerFrame with reserved := 1 } = false ∧ 0 < s.peer.ports.length) ∧
    (((linked fun x => { x with state := 3, gap := true }).countPort 0 1).port 0).gap = true ∧
    (let s := linked fun x => { x with state := 3 }
     (peerFrame.dst = s.peer.index) ∧ ({ peerFrame with dst := 1 } : PeerFrame).dst ≠ s.peer.index) := by decide +kernel

/-- PeerRowsTakeTheirFrames: a SEND that partition 0's pair 2 takes into the share of context 0 on core 0, the last of its transfer and one before it. -/
theorem witness_peer_send :
    (let s := (flying [0]).modPeer fun q => { q with members := 4, topology := 1, pairs := [(2, 0, 0, 3)] }
     let f := { peerFrame with pair := 2, last := true }
     s.peer.late f = false ∧ kvGet s.peer.refused (f.pair * 16 + f.src) ≠ some f.xferSeq ∧ (s.peer.pairs.find? fun e => e.1 == f.pair) = some (f.pair, 0, 0, 3) ∧
     (3).testBit f.src = true ∧ f.dstCore < s.cores 0 ∧ s.slotOf 0 f.dstCore = some 0 ∧ 0 < s.slots.length ∧ f.dstLine + f.lines ≤ s.ctxCfg 0 0 0 4 ∧
     ({ f with last := false } : PeerFrame).last = false) := by decide +kernel

/-- PortsRetryTrainAndFail: an empty frame that is legal and one that is not, a lane that fails beside a spare, a port that retrains, one that trains, a collective on a port
that recovers and one that was extended. -/
theorem witness_port_clauses :
    (let s := linked fun x => { x with state := 3 }
     let f := { peerFrame with lines := 0, payload := [] }
     f.lines = 0 ∧ s.peer.frameOk [1, 2, 3, 4, 5, 6, 7, 8] f = true ∧ s.peer.frameOk [1, 2, 3, 4, 5, 6, 7, 8] { f with dst := 5 } = false) ∧
    (let s := (linked fun x => { x with state := 3 }).modPort 0 fun x => { x with laneStates := [1, 9, 17, 25, 58] }
     (s.port 0).up = true ∧ (s.port 0).laneStates.getD 2 60 % 8 = 1 ∧ (s.port 0).laneStates.getD 4 60 % 8 = 2) ∧
    ((linked fun x => { x with state := 6 }).port 0).state = 6 ∧
    (let s := linked fun x => { x with state := 2 }
     (s.port 0).state = 2 ∧ s.peer.neighbour s.peer.index 0 = 1 ∧ s.peer.id = 0 ∧ s.peer.topology = 1 ∧ ¬(9 = s.peer.id)) ∧
    (let s := (linked fun x => { x with state := 5 }).modPeer fun q => { q with colls := [coll, { coll with stroke := 1, extended := true }] }
     ((s.portsOf coll).any fun k => (s.port k).state == 4 || (s.port k).state == 5 || (s.port k).state == 6) = true ∧
     ((s.peer.colls.find? fun x => x.p == 0 && x.c == 0 && x.core == 0 && x.stroke == 1).map (·.extended)) = some true) := by decide +kernel

/-- MeshErrorsStopTheTransfer: a block of a PREFETCH, and a buddy copy that leaves the core. -/
theorem witness_mesh_clauses :
    (let s := (flying [0]).modSlot 0 fun x => { x with prefetchers := x.prefetchers.set 3 (some { prefetcher with stroke := 7 }) }
     s.runningAt 0 0 0 7 = none ∧ s.prefetches 0 0 0 7 = true) ∧
    (let s := ({ flying [0] with streams := [(5, { opened := true, home := 0, buddyValid := true })] } : State).modFlight 0 0 fun f => { f with chunkSlots := [5] }
     s.runningAt 0 0 0 0xFFFFFFFF = none ∧ s.prefetches 0 0 0 0xFFFFFFFF = false ∧ s.leaving 0 0 0 = [5]) ∧
    (flying [0]).leaving 0 0 0 = [] ∧ (flying [0]).prefetches 0 0 0 0xFFFFFFFF = false := by decide +kernel

/-- GongClientAsksTriesAgainAndRelays: an answer that is in progress, one that is refused, one whose session is gone, tokens that come again. -/
theorem witness_gong_clauses :
    ((asking (asks .answer 1)).svc.clients.find? fun e => e.id == 4) = some (asks .answer 1) ∧ (be 2 16 ++ be 2 1024) ≠ [] ∧ 0x0E18 ≠ 0x0E0D ∧
    (let s := State.reset.modCascade fun x => { x with session := some 9, tokenSeqs := [3] }
     s.cascade.session = some 9 ∧ 3 ∈ s.cascade.tokenSeqs ∧ 4 ∉ s.cascade.tokenSeqs) := by decide +kernel

/-- TimeMessagesAreTakenOrDiscarded: a Pdelay_Resp_Follow_Up whose response and request are both kept. -/
theorem witness_pdelay_follow_up :
    (let m := { sync1 with typ := 10 }
     let s := { timed0 with time := { timed0.time with keptPtp := { typ := 3, port := 0, source := 5, sequenceId := 1, stamp := 2 ^ 64 } :: timed0.time.keptPtp } }
     let s1 := (s.reach m.stamp).countPtp 3
     PtpMsg_wellFormed m = true ∧ m.domain = s.cfg 0x1610 3 ∧ m.toUs = true ∧ m.egress = none ∧ (s1.keptFor 3 m.source m.sequenceId).isSome = true ∧
     (s1.keptFor 2 0 m.sequenceId).isSome = true) ∧
    (let m := { sync1 with typ := 1, egress := some (2 ^ 65) }
     PtpMsg_wellFormed m = true ∧ m.egress = some (2 ^ 65) ∧ m.domain = timed0.cfg 0x1610 3 ∧ ({ m with domain := 99 } : PtpMsg).domain ≠ timed0.cfg 0x1610 3) := by decide +kernel

/-- An OUT_CFG that is enabled, with DOORBELL_EN or without. -/
def outCfg (bell : Bool) : Bytes := (1 :: zeros 80).set 65 (if bell then 1 else 0)

/-- CamerasTakeFramesWhole: a frame whose output rings a doorbell and one whose does not, and a transfer that fails with nothing newer waiting, for the first and for the third time. -/
theorem witness_camera_clauses :
    (let f := { frame0 with closed := true, ctl := List.replicate 8 [] ++ [outCfg true] ++ List.replicate 3 [] ++ [be 2 4, be 2 2, [0x2B]] }
     let s := shooting f []
     ((s.cam 0).frames.find? fun f => f.closed && !f.dropped && decide (f.lines.length = f.arrived)) = some f ∧ 4 ≤ s.mode ∧ s.camOwner 0 < 8 ∧
     ((filming.setObj 0 0x6004 1 (1 :: zeros 80)).camControls 0).length = f.ctl.length) ∧
    ([outCfg true, outCfg false].map fun v => outField v 0 == 1 && outField v 24 == 1) = [true, false] ∧
    ([0, 2].all fun n =>
      let v : CamSetting := { gen := 1, value := 9, failed := n }
      ((filming.modCam 0 fun x => { x with slotE := some v }).cam 0).slotE == some v && ((filming.modCam 0 fun x => { x with slotE := some v }).cam 0).waitE == none) = true := by
  decide +kernel

/-- BridgeTakesLearnsAndForwards: a frame for the part on a VLAN whose member it is. -/
theorem witness_own_frame :
    ((bridging.setObj 0 0x1800 5 (be 2 7 ++ [7, 7])).vlan 7).map (fun e => e.1.testBit 2) = some true ∧
    ({ etherFrame with dst := macBase } : EtherFrame).dst = macBase ∧ (bridging.net.macs.filter fun m => !(m.vid == 7 && m.mac == etherFrame.src)).length < 4096 := ⟨by decide +kernel, rfl, by decide +kernel⟩

/-- HostPortsServeTheirFunctions: a write into the header of a sequence is one that its page table keeps out. -/
theorem witness_protected_write :
    (let o := { obj 1 3 3 65536 with state := 3 }
     let s := holding o
     s.apertureObj 0 1 = some o ∧ o.kind ≠ 1 ∧ 0 + [5].length ≤ o.size ∧ s.ptProtected o 0 [5].length = some 0xFF ∧ s.area 0 0x50 1 ≠ 1) := by decide +kernel

/-! ### The spec's own examples -/

/-- 04 "FP32 500.0 to E4M3", and the example of R138's chunk: its sum onto an accumulator, and the result as E4M3 under RNE and RDN. -/
theorem test_number_format_examples :
    ((encodeFmt 1 4 0 false (ofInt 500)).1 = 0x7F ∧ (encodeFmt 1 4 0 true (ofInt 500)).1 = 0x7E ∧ (encodeFmt 1 4 2 false (ofInt 500)).1 = 0x7E) ∧
    (accumulate { k := 64, chunk := 32, int := false } 0x3FC00000 (((ofInt 100, .num 1 0), (ofInt (-7), scaleOf 14 0x3C00)) ::
      ((ofInt (-3), .num 1 0), (ofInt 90, scaleOf 14 0x3C00)) :: List.replicate 30 ((ofInt 0, .num 1 0), (ofInt 0, scaleOf 14 0x3C00)))).1 = 0xC0C28000 ∧
    (encodeFmt 1 4 0 false (ofFp32 0xC0C28000)).1 = 0xCC ∧ (encodeFmt 1 4 4 false (ofFp32 0xC0C28000)).1 = 0xCD := by decide +kernel

/-- 07 "one VG8 group of 32": its scale, its codes, and the clamp under a scale that is given. -/
theorem test_vg8_group_example :
    let g : List Machine.Num := [ofInt 3, ofInt (-1), .num 1 (-4)] ++ List.replicate 29 (.zero false)
    (quantise 14 0 false none g).2 = 0x3CC2 ∧ ((quantise 14 0 false none g).1.map (·.1)).take 4 = [127, 256 - 42, 3, 0] ∧
    ((quantise 14 0 false (some 0x3C80) g).1.headD (0, noFlags)) = (127, satFlag) := by decide +kernel

/-- 05 "a matrix product fused with a normalisation": both strokes pass the checks of their words, and a MATMUL of a reserved bit does not. -/
theorem test_worked_strokes_are_legal :
    let mm := [0x18000010, 0, 0x01000000, 0x8000, 0x01000000, 0, 0x02000000, 0x00014E0B, 0x02000040, 0x02000200, 0x00400000, 0x00000042, 0, 0, 0, 0]
    let norm := [0x5901031B, 0, 0x02000000, 0, 0, 0x0004A800, 0x01000000, 0x00030001, 0x02000040, 0, 0x00000010, 0x3727C5AC, 0x0004A000, 0, 0, 0]
    staticCheck 0xFF [] [] [] 8 1 none mm = 0 ∧ staticCheck 0xFF [] [] [] 8 1 none norm = 0 ∧ waitTokens norm = 1 ∧ signalToken norm = 1 ∧ satCheck norm = true ∧
    ((pairing (wd mm 7 % 256) (wd mm 7 / 256 % 256)).map fun p => (p.chunk, p.int)) = some (64, false) ∧ staticCheck 0xFF [] [] [] 8 1 none (mm.set 0 0x98000010) = 0x0121 := by decide +kernel

/-- 09 "one state element of a GLR slot": a step of the recurrence, and the renormalisation that follows. -/
theorem test_scan_example : fpFma 0 0x3F400000 0x3F200000 0x3E000000 = 0x3F180000 ∧ fpFma 0 0x3E800000 0x3F200000 0x3F800000 = 0x3F940000 := by decide +kernel

/-- 12 "the first block of 4 KiB": the mesh term for a line, for 64 lines and for 113. -/
theorem test_mesh_term_example : meshLm 1 4 = 68 ∧ meshLm 64 4 = 1013 ∧ meshLm 113 4 = 1748 := by decide +kernel

/-- 14 "four cameras": the load of a camera, and who is accepted. -/
theorem test_camera_load_example :
    let s := [(0, 0), (2, 1), (4, 2), (6, 3)].foldl (fun s (e : Nat × Nat) =>
      (((s.setObj 0 (0x6000 + 0x20 * e.1) 2 [1]).setObj 0 (0x6000 + 0x20 * e.1) 5 (be 2 3840)).setObj 0 (0x6000 + 0x20 * e.1) 7 (be 4 7407)).setObj 0 (0x6000 + 0x20 * e.1) 8 [byteOf e.2])
      { State.reset with mode := 5 }
    s.loadPpm 0 = 317743 ∧ s.acceptsFrame 4 = true ∧ s.acceptsFrame 6 = false := by decide +kernel

/-- 02 "a read": the frames as they stand on the wire, and the answer to the wrong type. -/
theorem test_read_example :
    let s := State.reset.setObj 0 0x1310 2 [3]
    let rq := fun (ty : Nat) => { anyone 1 0x1310 2 ty [] with frame := { (anyone 1 0x1310 2 ty []).frame with seq := 1 } }
    let told := fun (o : Host.Outcome State Fault Refusal) => match o with
      | .next t => match t.sent with
        | .frame _ f :: _ => some (wireBytes f)
        | _ => none
      | _ => none
    wireBytes (rq 0).frame = [1, 1, 0, 0, 0, 0, 0, 0, 0, 0, 0, 1, 0x13, 0x10, 2, 0, 0, 0, 0, 0] ∧
    told (exec (.read (rq 0)) s) = some [1, 0x81, 0, 2, 0, 0, 0, 0, 0, 0, 0, 1, 0x13, 0x10, 2, 0, 0, 1, 0, 0, 3] ∧
    told (exec (.read (rq 4)) s) = some [1, 0x81, 0, 0, 0, 0, 0, 0, 0, 0, 0, 1, 0x13, 0x10, 2, 0, 0, 0, 0x0E, 0x08] := by decide +kernel

/-- 16 "a receive channel of an L24 stream": the PTP times of index 48,000,000 and of index 48,000,047, in 2⁻³² ns. -/
theorem test_sample_times_example :
    sampleTicks false 48000000 = 1000 * 1000000000 * 2 ^ 32 ∧ sampleTicks false 48000047 / 2 ^ 32 / 1000 = 1000 * 1000000 + 979 := by decide +kernel

/-- 05 "FFT": the first stage's only twiddle factor is 1. -/
theorem test_fft_first_twiddle : twiddle false 1 0 = (fpOne, 0) := by decide

/-- A step serves the front command alone: a NOP on no pattern leaves the part as it was, and the command behind it waits. -/
theorem test_step_serves_the_front_command :
    (match step { State.reset with pending := [.nop 0 0 0, .segmentGapTimer 0] } with
    | .next t => t.pending == [.segmentGapTimer 0] && t.mode == 4
    | _ => false) = true := by decide +kernel

/-- 13 "an endpoint in LISTEN hears a wake phrase": the group delay of the listening chain, and the indices of the wake record where the array has started. -/
theorem test_wake_record_example :
    groupDelay 32 1536 = 42736 ∧
    (let s := (((State.reset.setObj 0 0x2240 1 ([1, 0, 1, 0, 0] ++ be 4 0 ++ be 2 160 ++ [8, 0, 0, 0, 0] ++ be 2 0)).setObj 0 0x2230 3 (be 4 3200)).setObj 0 0x2200 1 [1]).modAfe fun x =>
      { x with preroll := { next := 1012132 }, array := { s0 := 1012079 * 1536 + 137626 } }
     ((s.raiseCandidate 6323 255 75).afe.wakes.map fun w => [w.start, w.stop, w.chime, w.forward, w.arrayValid]) = [[1000080, 1012079, 996880, 1012132, 3036774]] ∧
     s.switchIndex 996880 1012280 = 1012400) := by decide +kernel

/-- 15 "an endpoint wakes from LISTEN into ATTEND": INCREMENT after its first offset, and after one of 300,000 ns from LOCKED. -/
theorem test_servo_example :
    (let s := { State.reset with time := { State.reset.time with state := 2, freq := -125 / 10000000, firstOffset := false } }
     (s.servo 40000).time.increment = 0x270FACCCD ∧ (s.servo 300000).time.increment = 0x270F00000) := by decide +kernel

/-- 15 "When time steps while work is in flight": a step of 1,000 ns moves the end of a WAIT_TIME with BASE 2, one with BASE 0 whose deadline it passes
is late, and chunks of 40 ms with a latency of 5 ms go on from the first release that the new time has not passed. -/
theorem test_step_in_flight :
    (Running.stepped 1000 6000 { ctx := 0, core := 0, stroke := 0, word0 := 0x203, untilNs := some 5500 }).untilNs = some 6500 ∧
    (Running.stepped 1000 6000 { ctx := 0, core := 0, stroke := 0, word0 := 0x003, untilNs := some 5500 }).marks = 2 ∧
    chunkFrom 40000000 5000000 100000000 = 2 := by decide

end Sys2Proof.Tests
end

section
/-! SUPPORT. INT32 accumulation in the MAC array (R136, R137): what one chunk of integer products adds to the accumulator held. -/

namespace Sys2Proof.Machine

/-! ### Words of two's complement -/

/-- A w-bit field reads back the integer written to it, where the field holds it. -/
theorem signed_unsigned {w : Nat} {i : Int} (hw : 0 < w) (hlo : -2 ^ (w - 1) ≤ i) (hhi : i < 2 ^ (w - 1)) :
    signed w (unsigned w i) = i := by
  obtain ⟨v, rfl⟩ : ∃ v, w = v + 1 := ⟨w - 1, by omega⟩
  have hpow : (2 : Nat) ^ (v + 1) = 2 * 2 ^ v := Nat.pow_succ'
  have hcast : (2 : Int) ^ v = (2 ^ v : Nat) := (Int.natCast_pow 2 v).symm
  simp only [Nat.add_sub_cancel, hcast] at hlo hhi
  simp only [signed, unsigned, Nat.add_sub_cancel, hpow]
  generalize 2 ^ v = h at hlo hhi
  by_cases hneg : i < 0
  · have hmod : i % (2 * h : Nat) = i + (2 * h : Nat) := by
      rw [← Int.add_emod_right, Int.emod_eq_of_lt] <;> omega
    rw [hmod, Nat.mod_eq_of_lt (by omega), if_neg (by omega)]
    omega
  · have hmod : i % (2 * h : Nat) = i := Int.emod_eq_of_lt (by omega) (by omega)
    rw [hmod, Nat.mod_eq_of_lt (by omega), if_pos (by omega)]
    omega

/-! ### INT32 saturation -/

theorem satInt32_of_lt {i : Int} (h : i < -2147483648) : satInt32 i = (-2147483648, ovfFlag) := if_pos h

theorem satInt32_of_gt {i : Int} (h : 2147483647 < i) : satInt32 i = (2147483647, ovfFlag) := by
  rw [satInt32, if_neg (by omega), if_pos h]

theorem satInt32_of_mem {i : Int} (hlo : -2147483648 ≤ i) (hhi : i ≤ 2147483647) : satInt32 i = (i, noFlags) := by
  rw [satInt32, if_neg (by omega), if_neg (by omega)]

/-- A saturated integer is one that an INT32 word holds. -/
theorem signed_unsigned_satInt32 (i : Int) : signed 32 (unsigned 32 (satInt32 i).1) = (satInt32 i).1 := by
  have hrange : -2147483648 ≤ (satInt32 i).1 ∧ (satInt32 i).1 ≤ 2147483647 := by
    by_cases hlt : i < -2147483648
    · rw [satInt32_of_lt hlt]
      decide
    · by_cases hgt : 2147483647 < i
      · rw [satInt32_of_gt hgt]
        decide
      · rw [satInt32_of_mem (by omega) (by omega)]
        omega
  exact signed_unsigned (by decide) hrange.1 (Int.lt_of_le_of_lt hrange.2 (by decide))

@[simp] theorem Flags.join_noFlags (f : Flags) : f.join noFlags = f := by simp only [Flags.join, noFlags, Bool.or_false, Nat.add_zero]

@[simp] theorem Flags.join_ovfFlag_intOverflow (f : Flags) : (f.join ovfFlag).intOverflow = true := Bool.or_true _

/-! ### The sum of a chunk of integer products -/

theorem ofInt_mul_ofInt (a b : Int) : (ofInt a).mul (ofInt b) = mkNum (a * b) 0 (decide (a < 0) != decide (b < 0)) := by
  by_cases ha : a = 0
  · by_cases hb : b = 0
    · simp only [ofInt, mkNum, Num.mul, Num.neg, ha, hb, ↓reduceIte, Int.lt_irrefl, decide_false, Int.mul_zero, bne_self_eq_false]
    · simp only [ofInt, mkNum, Num.mul, Num.neg, ha, hb, ↓reduceIte, Int.lt_irrefl, decide_false, Int.zero_mul, Bool.false_bne]
  · by_cases hb : b = 0
    · simp only [ofInt, mkNum, Num.mul, Num.neg, ha, hb, ↓reduceIte, Int.lt_irrefl, decide_false, Int.mul_zero, Bool.bne_false]
    · simp only [ofInt, mkNum, Num.mul, ha, hb, Int.mul_ne_zero ha hb, ↓reduceIte, Int.add_zero]

/-- A chunk sum that has met integer products alone, of the sum i. -/
def ChunkSum.whole (i : Int) : ChunkSum := { fin := (i, 0) }

theorem ChunkSum.whole_add_mkNum (i m : Int) (z : Bool) : (whole i).add (mkNum m 0 z) = whole (i + m) := by
  by_cases hm : m = 0
  · simp only [mkNum, hm, ChunkSum.add, ↓reduceIte, Int.add_zero]
  · simp only [mkNum, hm, ChunkSum.add, whole, dyAdd, alignTo, ↓reduceIte, Int.min_self, Int.sub_self, Int.toNat_zero, Int.pow_zero, Int.mul_one]

theorem ChunkSum.whole_value_dy (i : Int) : (whole i).value.dy = (i, 0) := by
  by_cases hi : i = 0
  · simp only [value, whole, mkNum, hi, Num.dy, Bool.false_eq_true, and_self, or_self, ↓reduceIte]
  · simp only [value, whole, mkNum, hi, Num.dy, Bool.false_eq_true, and_self, or_self, ↓reduceIte]

/-- Pairs of integers as the elements that are multiplied, each with the scale 1. -/
def unscaled (c : List (Int × Int)) : List (ScaledElem × ScaledElem) :=
  c.map fun e => ((ofInt e.1, Num.num 1 0), (ofInt e.2, Num.num 1 0))

/-- The exact sum of the products of pairs of integers. -/
def dot (c : List (Int × Int)) : Int := (c.map fun e => e.1 * e.2).sum

theorem foldl_add_ofInt (c : List (Int × Int)) (i : Int) :
    (c.map fun e => (ofInt e.1, ofInt e.2)).foldl (fun s p => s.add (p.1.mul p.2)) (ChunkSum.whole i) = ChunkSum.whole (i + dot c) := by
  induction c generalizing i with
  | nil => simp only [dot, List.map_nil, List.foldl_nil, List.sum_nil, Int.add_zero]
  | cons e c ih =>
    rw [List.map_cons, List.foldl_cons, ofInt_mul_ofInt, ChunkSum.whole_add_mkNum, ih]
    simp only [dot, List.map_cons, List.sum_cons, Int.add_assoc]

/-- The sum of a chunk's products as the INT32 accumulator takes it. -/
def chunkInt (c : List (ScaledElem × ScaledElem)) : Int :=
  let sum := (chunkSum (c.map fun e => (e.1.1, e.2.1))).dy
  sum.1 * 2 ^ sum.2.toNat

/-- The chunk sum of integer products is their exact sum (R136). -/
theorem chunkInt_unscaled (c : List (Int × Int)) : chunkInt (unscaled c) = dot c := by
  have hcodes : ((unscaled c).map fun e => (e.1.1, e.2.1)) = c.map fun e => (ofInt e.1, ofInt e.2) := List.map_map
  have hsum : chunkSum (c.map fun e => (ofInt e.1, ofInt e.2)) = (ChunkSum.whole (0 + dot c)).value := congrArg ChunkSum.value (foldl_add_ofInt c 0)
  simp only [chunkInt, hcodes, hsum, ChunkSum.whole_value_dy, Int.toNat_zero, Int.pow_zero, Int.mul_one, Int.zero_add]

/-! ### The last chunk of a reduction -/

@[simp] theorem chunks_nil {α : Type} (n fuel : Nat) : chunks n fuel ([] : List α) = [] := by cases fuel <;> rfl

theorem chunks_cons {α : Type} (n fuel : Nat) {l : List α} (h : l ≠ []) :
    chunks n (fuel + 1) l = l.take n :: chunks n fuel (l.drop n) := by
  cases l with
  | nil => exact absurd rfl h
  | cons a l => rfl

/-- Behind a whole number of runs, what fits one run is cut off as one run, with any fuel that suffices. -/
theorem chunks_append_run {α : Type} {n : Nat} {c : List α} (hc : c ≠ []) (hcn : c.length ≤ n) (q : Nat) :
    ∀ (l : List α) (fuel fuel' : Nat), l.length = n * q → q ≤ fuel → q < fuel' → chunks n fuel' (l ++ c) = chunks n fuel l ++ [c] := by
  have hn : 0 < n := Nat.lt_of_lt_of_le (List.length_pos_iff.mpr hc) hcn
  induction q with
  | zero =>
    intro l fuel fuel' hl _ hfuel'
    obtain rfl : l = [] := List.eq_nil_of_length_eq_zero hl
    obtain ⟨f', rfl⟩ := Nat.exists_eq_add_one_of_ne_zero (Nat.ne_of_gt hfuel')
    rw [List.nil_append, chunks_cons n f' hc, List.take_of_length_le hcn, List.drop_of_length_le hcn, chunks_nil, chunks_nil, List.nil_append]
  | succ q ih =>
    intro l fuel fuel' hl hfuel hfuel'
    obtain ⟨f, rfl⟩ := Nat.exists_eq_add_one_of_ne_zero (n := fuel) (by omega)
    obtain ⟨f', rfl⟩ := Nat.exists_eq_add_one_of_ne_zero (n := fuel') (by omega)
    have hlen : l.length = n * q + n := hl
    have hnl : n ≤ l.length := by omega
    have hl0 : l ≠ [] := List.ne_nil_of_length_pos (Nat.lt_of_lt_of_le hn hnl)
    have hrest : (l.drop n).length = n * q := by rw [List.length_drop, hlen, Nat.add_sub_cancel]
    rw [chunks_cons n f' (List.append_ne_nil_of_left_ne_nil hl0 c), chunks_cons n f hl0, List.take_append_of_le_length hnl,
      List.drop_append_of_le_length hnl, ih _ f f' hrest (by omega) (by omega), List.cons_append]

/-! ### Integer accumulation -/

/-- An integer accumulator and its flags after the addition of one chunk's exact sum (R137). -/
def addInt32 (r : Nat × Flags) (sum : Int) : Nat × Flags :=
  let s := satInt32 (signed 32 r.1 + sum)
  (unsigned 32 s.1, r.2.join s.2)

theorem accumulate_of_int {p : Pairing} (acc : Nat) (l : List (ScaledElem × ScaledElem)) (hint : p.int = true) :
    accumulate p acc l = (chunks p.chunk l.length l).foldl (fun r c => addInt32 r (chunkInt c)) (acc, noFlags) := by
  simp only [accumulate, hint, if_true, addInt32, chunkInt]

/-- A chunk of integers behind whole chunks adds its exact sum, once, to what the chunks before it have left. -/
theorem accumulate_append_unscaled {p : Pairing} (acc : Nat) {l : List (ScaledElem × ScaledElem)} {c : List (Int × Int)} (hint : p.int = true)
    (hl : l.length % p.chunk = 0) (hc : 0 < c.length) (hcn : c.length ≤ p.chunk) :
    accumulate p acc (l ++ unscaled c) = addInt32 (accumulate p acc l) (dot c) := by
  obtain ⟨q, hq⟩ := Nat.dvd_of_mod_eq_zero hl
  have hlen : (unscaled c).length = c.length := List.length_map _
  have hne : unscaled c ≠ [] := List.ne_nil_of_length_pos (hlen ▸ hc)
  have hfuel : q ≤ l.length := hq ▸ Nat.le_mul_of_pos_left q (Nat.lt_of_lt_of_le hc hcn)
  have hcut : chunks p.chunk (l ++ unscaled c).length (l ++ unscaled c) = chunks p.chunk l.length l ++ [unscaled c] :=
    chunks_append_run hne (hlen ▸ hcn) q l _ _ hq hfuel (by rw [List.length_append]; omega)
  rw [accumulate_of_int acc _ hint, accumulate_of_int acc _ hint, hcut, List.foldl_append, List.foldl_cons, List.foldl_nil, chunkInt_unscaled]

theorem signed_addInt32 (r : Nat × Flags) (sum : Int) : signed 32 (addInt32 r sum).1 = (satInt32 (signed 32 r.1 + sum)).1 :=
  signed_unsigned_satInt32 _

theorem addInt32_flags (r : Nat × Flags) (sum : Int) : (addInt32 r sum).2 = r.2.join (satInt32 (signed 32 r.1 + sum)).2 := rfl

end Sys2Proof.Machine

open Sys2Proof.Machine

/-- Settles O60: the last chunk is one saturating addition of its exact sum (`accumulate_append_unscaled`), which ends in one of the three cases
of `satInt32`. -/
theorem integerAccumulationSaturates : Obligations.IntegerAccumulationSaturates := by
  intro p acc l c hint _ hl hc hcn before after exact
  have hafter : after = addInt32 before (dot c) := accumulate_append_unscaled acc hint hl hc hcn
  have hvalue : signed 32 after.1 = (satInt32 exact).1 := hafter ▸ signed_addInt32 before (dot c)
  have hflags : after.2 = before.2.join (satInt32 exact).2 := hafter ▸ addInt32_flags before (dot c)
  rw [hvalue, hflags]
  refine ⟨fun hlt => ?_, fun hgt => ?_, fun hlo hhi => ?_⟩
  · rw [satInt32_of_lt hlt]
    exact ⟨rfl, Flags.join_ovfFlag_intOverflow _⟩
  · rw [satInt32_of_gt hgt]
    exact ⟨rfl, Flags.join_ovfFlag_intOverflow _⟩
  · rw [satInt32_of_mem hlo hhi]
    exact ⟨rfl, Flags.join_noFlags _⟩

end

section
/-! SUPPORT. The identification register: a word that holds its fields side by side gives each of them back (R584). -/

namespace Sys2Proof.Machine

theorem bits_lt (w hi lo : Nat) : bits w hi lo < 2 ^ (hi + 1 - lo) := Nat.mod_lt _ (Nat.two_pow_pos _)

/-- A field is what its own bits hold, whatever stands above and below it. -/
theorem bits_packed {w hi lo field : Nat} (above below : Nat) (hlo : lo ≤ hi + 1) (hfield : field < 2 ^ (hi + 1 - lo)) (hbelow : below < 2 ^ lo)
    (hw : w = above * 2 ^ (hi + 1) + field * 2 ^ lo + below) : bits w hi lo = field := by
  have hshift : w = below + 2 ^ lo * (field + 2 ^ (hi + 1 - lo) * above) := by
    rw [hw, Nat.mul_add, ← Nat.mul_assoc, ← Nat.pow_add, Nat.add_sub_of_le hlo, Nat.mul_comm above, Nat.mul_comm field]
    omega
  rw [bits, hshift, Nat.add_mul_div_left _ _ (Nat.two_pow_pos lo), Nat.div_eq_of_lt hbelow, Nat.zero_add, Nat.add_mul_mod_self_left,
    Nat.mod_eq_of_lt hfield]

/-- The identification word of a part whose VERSION field is `version` (R584). -/
def idcodeOf (version : Nat) : Nat := version * 2 ^ 28 + 0x8640 * 2 ^ 12 + 0x6B3 * 2 + 1

/-- The VERSION field that the fuses of a part give (R584). The state, which does not alter it, keeps the term open: the kernel evaluates a closed
multiple of 2 ^ 28 by repeated addition. -/
def State.dieVersion (_ : State) : Nat := bits (ofBE (fuseBytes 0x1000 4 2)) 11 8

theorem State.dieVersion_lt (s : State) : s.dieVersion < 2 ^ 4 := bits_lt _ 11 8

theorem idcode_eq_idcodeOf (s : State) : idcode = idcodeOf s.dieVersion := rfl

section
variable {version : Nat} (hversion : version < 2 ^ 4)
include hversion

theorem idcodeOf_lt : idcodeOf version < 2 ^ 32 := by
  unfold idcodeOf
  omega

theorem idcodeOf_version : bits (idcodeOf version) 31 28 = version :=
  bits_packed 0 (0x8640 * 2 ^ 12 + 0x6B3 * 2 + 1) (by decide) hversion (by decide) (by unfold idcodeOf; omega)

end

theorem idcodeOf_part (version : Nat) : bits (idcodeOf version) 27 12 = 0x8640 :=
  bits_packed version (0x6B3 * 2 + 1) (by decide) (by decide) (by decide) (by unfold idcodeOf; omega)

theorem idcodeOf_manufacturer (version : Nat) : bits (idcodeOf version) 11 1 = 0x6B3 :=
  bits_packed (version * 2 ^ 16 + 0x8640) 1 (by decide) (by decide) (by decide) (by unfold idcodeOf; omega)

theorem idcodeOf_bit_zero (version : Nat) : bits (idcodeOf version) 0 0 = 1 :=
  bits_packed (version * 2 ^ 27 + 0x8640 * 2 ^ 11 + 0x6B3) 0 (by decide) (by decide) (by decide) (by unfold idcodeOf; omega)

theorem idcodeOf_one : idcodeOf 1 = 0x18640D67 := rfl

/-- A part in ATTEND or above selects the identification register and loads it; the rest of the part stays. -/
theorem exec_jtagIdcode_of_powered {s : State} (hmode : 4 ≤ s.mode) :
    exec .jtagIdcode s = .next (s.settle { s with trace := { s.trace with ir := 1, jtagData := idcode } }) := by
  have harm : exec .jtagIdcode s = execJtagIdcode s := rfl
  rw [harm, execJtagIdcode, if_neg (Nat.not_lt.mpr hmode), settled, State.modTrace]

end Sys2Proof.Machine

open Sys2Proof.Machine

/-- Settles O59: the debug port loads `idcodeOf` the four stepping bits (`exec_jtagIdcode_of_powered`), whose fields do not overlap (`bits_packed`). -/
theorem debugPortReadsTheIdcode : Obligations.DebugPortReadsTheIdcode := by
  intro s hmode
  have hversion := s.dieVersion_lt
  refine ⟨_, exec_jtagIdcode_of_powered hmode, ?_, ?_⟩
  · rw [State.settle_trace, idcode_eq_idcodeOf s]
    refine ⟨idcodeOf_lt hversion, idcodeOf_version hversion, idcodeOf_part _, idcodeOf_manufacturer _, idcodeOf_bit_zero _, fun hone => ?_⟩
    rw [show s.dieVersion = 1 from hone, idcodeOf_one]
  · rw [State.settle_trace]

end

section
/-! SUPPORT. What every command has in common: it answers the settled form of some state, so the queue stands behind it as it was and the counters
lie in their widths. -/

namespace Sys2Proof.Machine

/-- Every meaning ends in `settled`, whatever it computes. -/
theorem exec_settles (c : Instr) (s : State) : ∃ n, exec c s = .next (s.settle n) := by
  cases c <;> exact ⟨_, rfl⟩

theorem step_of_pending_cons (c : Instr) (rest : List Instr) (s : State) : step { s with pending := c :: rest } = exec c { s with pending := rest } := rfl

theorem step_of_pending_nil {s : State} (h : s.pending = []) : step s = .next (s.settle s.idle) := by
  simp only [step, h, settled]

/-- A step takes one command off the queue, where there is one, and settles what it answers. -/
theorem step_settles (s : State) : ∃ t n : State, t.pending = s.pending.tail ∧ step s = .next (t.settle n) := by
  cases hq : s.pending with
  | nil => exact ⟨s, s.idle, hq, step_of_pending_nil hq⟩
  | cons c rest =>
    obtain ⟨n, hn⟩ := exec_settles c { s with pending := rest }
    exact ⟨{ s with pending := rest }, n, rfl, by rw [← hn, step, hq]⟩

theorem holdIncrement_band (i : Nat) : 0x270F00000 ≤ holdIncrement i ∧ holdIncrement i ≤ 0x271100000 := by
  unfold holdIncrement
  omega

/-- What `settle` leaves lies in the widths and the band of R386 and R447 to R449, whatever was there before. -/
theorem State.settle_countersHold (s n : State) : (s.settle n).CountersHold :=
  ⟨Nat.mod_lt _ (Nat.two_pow_pos _), holdIncrement_band _, Nat.mod_lt _ (by decide), Nat.mod_lt _ (Nat.two_pow_pos _), Nat.mod_lt _ (Nat.two_pow_pos _)⟩

theorem State.idle_of_served {s : State} (h : s.serving = true ∧ 4 ≤ s.mode) :
    s.idle = (s.tick.modAfe (Afe.tick s.mode)).drainTrace.flushStreams := if_pos h

theorem State.idle_of_not_served {s : State} (h : ¬(s.serving = true ∧ 4 ≤ s.mode)) : s.idle = s.tick.modAfe (Afe.tick s.mode) := if_neg h

theorem run_succ_of_step {s t : State} (h : step s = .next t) (k : Nat) : Sys2Proof.core.run (k + 1) s = Sys2Proof.core.run k t := by
  have hcore : Sys2Proof.core.step s = .next t := h
  simp only [Host.Core.run, hcore]

/-- As many steps as there are commands leave none waiting. -/
theorem run_length_serves (s : State) : ∃ t, s.Serves t ∧ t.pending = [] := by
  unfold State.Serves
  induction hlen : s.pending.length generalizing s with
  | zero => exact ⟨s, rfl, List.eq_nil_of_length_eq_zero hlen⟩
  | succ k ih =>
    obtain ⟨u, n, htail, hstep⟩ := step_settles s
    obtain ⟨t, hrun, hempty⟩ := ih (u.settle n) (by rw [State.settle_pending, htail, List.length_tail, hlen, Nat.add_sub_cancel])
    refine ⟨t, ?_, hempty⟩
    rw [run_succ_of_step hstep]
    exact hrun

end Sys2Proof.Machine

open Sys2Proof.Machine

/-- Settles O1: it is how `step` takes the queue apart. -/
theorem stepRunsTheFrontCommand : Obligations.StepRunsTheFrontCommand := step_of_pending_cons

/-- Settles O3: every command settles the state it began with (`exec_settles`), and `settle` keeps the queue. -/
theorem noCommandStopsTheBlock : Obligations.NoCommandStopsTheBlock := fun c s =>
  have ⟨n, hn⟩ := exec_settles c s
  ⟨s.settle n, hn, State.settle_pending s n⟩

/-- Settles O4, by induction on the number of commands that wait (`run_length_serves`). -/
theorem everyWaitingCommandIsServed : Obligations.EveryWaitingCommandIsServed := run_length_serves

/-- Settles O5: a step ends in `settle`, which holds every counter in its width. -/
theorem everyStepKeepsTheCounters : Obligations.EveryStepKeepsTheCounters := by
  intro s t _ hstep
  obtain ⟨u, n, _, hnext⟩ := step_settles s
  obtain rfl : t = u.settle n := by injection hstep.symm.trans hnext
  exact State.settle_countersHold u n

/-- Settles O2: with no command a step settles `State.idle`, in its two cases. -/
theorem idleStepTicksTheClock : Obligations.IdleStepTicksTheClock := by
  intro s hq
  rw [step_of_pending_nil hq]
  refine ⟨fun hserved => ?_, fun hserved => ?_⟩
  · rw [State.idle_of_served hserved]
  · rw [State.idle_of_not_served hserved]
    rfl

end

section
/-! SUPPORT. Reset, the reads of a memory after its stores, the two byte orders, and the views of a log. -/

namespace Sys2Proof.Machine

theorem reset_slot_active : ∀ n, n < 64 → (State.reset.slot n).state = 1 := by decide

theorem reset_slot_standby : ∀ n, 64 ≤ n → n < 72 → (State.reset.slot n).state = 2 := by
  have h : ∀ k, k < 8 → (State.reset.slot (64 + k)).state = 2 := by decide
  intro n hlo hhi
  have hn := h (n - 64) (by omega)
  rwa [Nat.add_sub_of_le hlo] at hn

theorem reset_part_undefined : ∀ p, p < 8 → (State.reset.part p).state = 0 ∧ State.reset.keys.getD p none = none := by decide

theorem reset_countersHold : State.reset.CountersHold := by
  unfold State.CountersHold
  decide

/-! ### Memories -/

theorem memAbove.get_eq_zero {k a : Nat} {m : List Host.Cell} (hm : memAbove k m) (ha : a ≤ k) : memGet m a = 0 := by
  induction m with
  | nil => rfl
  | cons e r ih =>
    obtain ⟨j, c⟩ := e
    have hj : k < j := hm (j, c) (List.mem_cons_self ..)
    rw [memGet, if_neg (by omega)]
    exact ih fun x hx => hm x (List.mem_cons_of_mem _ hx)

theorem memGet_cons (j : Nat) (c : Byte) (r : List Host.Cell) (k : Nat) : memGet ((j, c) :: r) k = if k = j then c else memGet r k := by
  simp only [memGet, eq_comm]

/-- A byte put in front of what holds none at its address; a zero takes no place. -/
theorem memGet_put {r : List Host.Cell} {a : Nat} (hr : memGet r a = 0) (b : Byte) (k : Nat) :
    memGet (if b = 0 then r else (a, b) :: r) k = if k = a then b else memGet r k := by
  by_cases hb : b = 0
  · by_cases hk : k = a
    · rw [if_pos hb, if_pos hk, hk, hr, hb]
    · rw [if_pos hb, if_neg hk]
  · rw [if_neg hb, memGet_cons]

/-- A byte that is stored is read back, and every other byte reads as it did. -/
theorem memGet_memSet {m : List Host.Cell} (hm : memWf m = true) (a : Nat) (b : Byte) (k : Nat) :
    memGet (memSet m a b) k = if k = a then b else memGet m k := by
  induction m with
  | nil => exact memGet_put rfl b k
  | cons e r ih =>
    obtain ⟨j, c⟩ := e
    obtain ⟨_, habove, hr⟩ := (memWf_cons j c r).mp hm
    have hzero : ∀ x, x ≤ j → memGet r x = 0 := fun x => habove.get_eq_zero
    unfold memSet
    rcases Nat.lt_trichotomy a j with hlt | rfl | hgt
    · rw [if_pos hlt]
      exact memGet_put (by rw [memGet_cons, if_neg (Nat.ne_of_lt hlt), hzero a (Nat.le_of_lt hlt)]) b k
    · rw [if_neg (Nat.lt_irrefl a), if_pos rfl, memGet_put (hzero a (Nat.le_refl a)), memGet_cons]
      split <;> rfl
    · rw [if_neg (Nat.not_lt.mpr (Nat.le_of_lt hgt)), if_neg (Nat.ne_of_gt hgt), memGet_cons, ih hr, memGet_cons]
      by_cases hk : k = j
      · rw [if_pos hk, if_neg (hk ▸ Nat.ne_of_lt hgt), if_pos hk]
      · rw [if_neg hk, if_neg hk]

theorem memGet_memWrite_outside {m : List Host.Cell} (hm : memWf m = true) {a k : Nat} {b : Bytes} (hk : k < a ∨ a + b.length ≤ k) :
    memGet (memWrite m a b) k = memGet m k := by
  induction b generalizing m a with
  | nil => rfl
  | cons x r ih =>
    rw [List.length_cons] at hk
    rw [memWrite, ih (memSet_wf m a x hm) (by omega), memGet_memSet hm, if_neg (by omega)]

theorem memGet_memWrite_inside {m : List Host.Cell} (hm : memWf m = true) (a : Nat) {i : Nat} {b : Bytes} (hi : i < b.length) :
    memGet (memWrite m a b) (a + i) = b[i] := by
  induction b generalizing m a i with
  | nil => exact absurd hi (Nat.not_lt_zero i)
  | cons x r ih =>
    cases i with
    | zero => rw [Nat.add_zero, memWrite, memGet_memWrite_outside (memSet_wf m a x hm) (Or.inl a.lt_succ_self), memGet_memSet hm, if_pos rfl, List.getElem_cons_zero]
    | succ i => rw [memWrite, ← Nat.add_assoc, Nat.add_right_comm, ih (memSet_wf m a x hm) (a + 1) (Nat.lt_of_succ_lt_succ hi), List.getElem_cons_succ]

/-- What is stored is read back. -/
theorem memRead_memWrite {m : List Host.Cell} (hm : memWf m = true) (a : Nat) (b : Bytes) : memRead (memWrite m a b) a b.length = b := by
  refine List.ext_getElem (by simp [memRead]) fun i hi hb => ?_
  simp only [memRead, List.getElem_map, List.getElem_range, memGet_memWrite_inside hm a hb]

/-- Canonical memories that read alike hold the same entries: their first entries are at the least address that does not read 0. -/
theorem eq_of_memGet_eq {m n : List Host.Cell} (hm : memWf m = true) (hn : memWf n = true) (h : ∀ a, memGet m a = memGet n a) : m = n := by
  induction m generalizing n with
  | nil =>
    cases n with
    | nil => rfl
    | cons e r =>
      obtain ⟨j, c⟩ := e
      have hj := h j
      rw [memGet_cons, if_pos rfl] at hj
      exact absurd hj.symm ((memWf_cons j c r).mp hn).1
  | cons e r ih =>
    obtain ⟨j, c⟩ := e
    obtain ⟨hc, habove, hr⟩ := (memWf_cons j c r).mp hm
    cases n with
    | nil =>
      have hj := h j
      rw [memGet_cons, if_pos rfl] at hj
      exact absurd hj hc
    | cons f q =>
      obtain ⟨i, d⟩ := f
      obtain ⟨hd, habove', hq⟩ := (memWf_cons i d q).mp hn
      have hji : j = i := by
        refine Decidable.byContradiction fun hne => ?_
        rcases Nat.lt_or_gt_of_ne hne with hlt | hgt
        · have hj := h j
          rw [memGet_cons, if_pos rfl, memGet_cons, if_neg hne, habove'.get_eq_zero (Nat.le_of_lt hlt)] at hj
          exact hc hj
        · have hi := h i
          rw [memGet_cons, if_neg (Ne.symm hne), habove.get_eq_zero (Nat.le_of_lt hgt), memGet_cons, if_pos rfl] at hi
          exact hd hi.symm
      subst hji
      have hcd : c = d := by simpa only [memGet_cons, if_true] using h j
      have hrest : r = q := ih hr hq fun a => by
        by_cases ha : a ≤ j
        · rw [habove.get_eq_zero ha, habove'.get_eq_zero ha]
        · simpa only [memGet_cons, if_neg (Nat.ne_of_gt (Nat.lt_of_not_le ha))] using h a
      rw [hcd, hrest]

/-! ### Byte orders -/

theorem toNat_byteOf (v : Nat) : (byteOf v).toNat = v % 256 := BitVec.toNat_ofNat v 8

@[simp] theorem length_be (n v : Nat) : (be n v).length = n := by
  induction n with
  | zero => rfl
  | succ n ih => rw [be, List.length_cons, ih]

@[simp] theorem length_le (n v : Nat) : (le n v).length = n := by
  induction n generalizing v with
  | zero => rfl
  | succ n ih => rw [le, List.length_cons, ih]

theorem ofBE_foldl (b : Bytes) (a : Nat) : b.foldl (fun a x => a * 256 + x.toNat) a = a * 256 ^ b.length + ofBE b := by
  unfold ofBE
  induction b generalizing a with
  | nil => simp
  | cons x r ih =>
    rw [List.foldl_cons, ih, List.foldl_cons, ih (0 * 256 + x.toNat), List.length_cons, Nat.zero_mul, Nat.zero_add, Nat.add_mul, Nat.pow_succ, Nat.mul_assoc,
      Nat.mul_comm 256, Nat.add_assoc]

theorem ofBE_be (n v : Nat) : ofBE (be n v) = v % 256 ^ n := by
  induction n with
  | zero => simp [be, ofBE, Nat.mod_one]
  | succ n ih =>
    rw [be, ofBE, List.foldl_cons, ofBE_foldl, ih, length_be, toNat_byteOf, Nat.zero_mul, Nat.zero_add, Nat.pow_succ, Nat.mod_mul, Nat.mul_comm,
      Nat.add_comm]

theorem ofLE_le (n v : Nat) : ofLE (le n v) = v % 256 ^ n := by
  induction n generalizing v with
  | zero => simp [le, ofLE, Nat.mod_one]
  | succ n ih => rw [le, ofLE, ih, toNat_byteOf, Nat.pow_succ', Nat.mod_mul]

theorem be_getElem? {n i : Nat} (v : Nat) (hi : i < n) : (be n v)[i]? = some (byteOf (v / 256 ^ (n - 1 - i))) := by
  induction n generalizing i with
  | zero => exact absurd hi (Nat.not_lt_zero i)
  | succ n ih =>
    cases i with
    | zero => rfl
    | succ i => rw [be, List.getElem?_cons_succ, ih (Nat.lt_of_succ_lt_succ hi), Nat.add_sub_cancel, Nat.sub_add_eq, Nat.sub_right_comm]

theorem le_getElem? {n i : Nat} (v : Nat) (hi : i < n) : (le n v)[i]? = some (byteOf (v / 256 ^ i)) := by
  induction n generalizing i v with
  | zero => exact absurd hi (Nat.not_lt_zero i)
  | succ n ih =>
    cases i with
    | zero => simp [le]
    | succ i => rw [le, List.getElem?_cons_succ, ih _ (Nat.lt_of_succ_lt_succ hi), Nat.div_div_eq_div_mul, Nat.pow_succ']

end Sys2Proof.Machine

open Sys2Proof.Machine

/-- Settles O6: each part of the reset state is evaluated. -/
theorem resetStandsInAttend : Obligations.ResetStandsInAttend :=
  ⟨reset_countersHold, rfl, rfl, rfl, rfl, reset_slot_active, reset_slot_standby, reset_part_undefined, rfl, rfl, rfl, rfl⟩

/-- Settles O7: reads after `memWrite` inside and outside the stored bytes, and `eq_of_memGet_eq`. -/
theorem memoryReadsWhatWasStored : Obligations.MemoryReadsWhatWasStored :=
  ⟨fun _ a b hm => ⟨memRead_memWrite hm a b, fun _ hk => memGet_memWrite_outside hm hk⟩, fun _ _ hm hn h => eq_of_memGet_eq hm hn h⟩

/-- Settles O8: a byte order is read back by induction on its length, and so is each byte's place. -/
theorem byteOrdersReadBack : Obligations.ByteOrdersReadBack := fun n v =>
  ⟨length_be n v, length_le n v, ofBE_be n v, ofLE_le n v, fun _ hi => ⟨be_getElem? v hi, le_getElem? v hi⟩⟩

/-- Settles O10: a record of the view is what the filter takes, and the view's place is the one that `List.set` writes. -/
theorem clearEmptiesOneView : Obligations.ClearEmptiesOneView := by
  intro v u l hcount hlost hne
  refine ⟨fun r hr => ?_, fun r hr hview => ?_, ?_, ?_, ?_, ?_, rfl⟩
  · simpa using (List.mem_filter.mp hr).2
  · exact List.mem_filter.mpr ⟨hr, by simpa using hview⟩
  · simp [Log.clear, List.getD_eq_getElem?_getD, hcount]
  · simp [Log.clear, List.getD_eq_getElem?_getD, hlost]
  · simp [Log.clear, List.getD_eq_getElem?_getD, Ne.symm hne]
  · simp [Log.clear, List.getD_eq_getElem?_getD, Ne.symm hne]

end

section
/-! SUPPORT. What a read of a slot, a partition or a context gives after a write of the same one and of another; token counters and duties. -/

namespace Sys2Proof.Machine

/-! ### Places of a list -/

theorem getD_of_length_le {α : Type} {l : List α} {i : Nat} (h : l.length ≤ i) (d : α) : l.getD i d = d := by
  rw [List.getD_eq_getElem?_getD, List.getElem?_eq_none h, Option.getD_none]

theorem getD_modify_self {α : Type} {l : List α} {i : Nat} (h : i < l.length) (f : α → α) (d : α) : (l.modify i f).getD i d = f (l.getD i d) := by
  simp [List.getD_eq_getElem?_getD, h]

theorem getD_modify_ne {α : Type} (l : List α) {i j : Nat} (h : i ≠ j) (f : α → α) (d : α) : (l.modify i f).getD j d = l.getD j d := by
  simp [List.getD_eq_getElem?_getD, h]

theorem getD_bump_self {l : List Nat} {i : Nat} (h : i < l.length) : (bump l i).getD i 0 = l.getD i 0 + 1 := getD_modify_self h _ 0

theorem getD_bump_ne (l : List Nat) {i j : Nat} (h : i ≠ j) : (bump l i).getD j 0 = l.getD j 0 := getD_modify_ne l h _ 0

/-! ### Slots -/

theorem State.modSlot_slot_self {s : State} {n : Nat} (h : n < s.slots.length) (f : Slot → Slot) : (s.modSlot n f).slot n = f (s.slot n) :=
  getD_modify_self h f _

theorem State.modSlot_slot_ne (s : State) {n m : Nat} (h : n ≠ m) (f : Slot → Slot) : (s.modSlot n f).slot m = s.slot m :=
  getD_modify_ne s.slots h f _

/-! ### Tokens -/

theorem State.addToken_of_lt {s : State} {slot c k : Nat} (h : (s.slot slot).token c k < 255) (p : Nat) (signaller : Option (Nat × Nat)) :
    s.addToken p slot c k signaller = s.modSlot slot fun x => { x with tokens := bump x.tokens (8 * c + k) } := if_pos h

theorem State.addToken_of_full {s : State} {slot c k : Nat} (h : 255 ≤ (s.slot slot).token c k) (p : Nat) (signaller : Option (Nat × Nat)) :
    s.addToken p slot c k signaller = s.stopFlight p c 0x0103 (signaller.getD ((s.slot slot).logical, 0xFFFFFFFF)).1
      (signaller.getD ((s.slot slot).logical, 0xFFFFFFFF)).2 := if_neg (Nat.not_lt.mpr h)

@[simp] theorem State.stopFlight_slot (s : State) (p c code core idx n : Nat) : (s.stopFlight p c code core idx).slot n = s.slot n := rfl

/-- A place that counts within its eight bits still does once it is raised from below 255. -/
theorem le_of_mem_bump {l : List Nat} {i : Nat} (hi : l.getD i 0 < 255) (hl : ∀ x ∈ l, x ≤ 255) : ∀ x ∈ bump l i, x ≤ 255 := by
  intro x hx
  obtain ⟨j, hj, rfl⟩ := List.mem_iff_getElem.mp hx
  have hlen : j < l.length := by simpa [bump] using hj
  by_cases hij : i = j
  · subst hij
    have hsmall : l[i] < 255 := by simpa [List.getD_eq_getElem?_getD, hlen] using hi
    have hraised : (bump l i)[i] = l[i] + 1 := by simp [bump]
    omega
  · simpa [bump, List.getElem_modify, hij] using hl _ (List.getElem_mem hlen)

/-! ### Duties -/

/-- The duty that follows a partition's duty `was` in 100 µs, by whether it runs, its share and its mean (R521). -/
def nextDuty (runs : Bool) (cap mean was : Nat) : Nat :=
  if !runs then 16 else if cap < mean then max 4 (was - 1) else if 10 * mean < 9 * cap then min 16 (was + 1) else was

/-- The power manager after 100 µs: each duty moved, and what the slowed partitions were held off counted. -/
def State.afterDuty (s : State) (means : List Nat) : Power :=
  { s.power with
    duty := s.power.duty.zipIdx.map fun e => nextDuty (s.running e.2) (s.capShares.getD e.2 0) (means.getD e.2 0) e.1
    view := s.power.view.zipIdx.map fun e =>
      let d := s.power.duty.getD e.2 16
      if d < 16 then bumpBy (bump e.1 0) 1 ((if s.halfRate then 81920 else 163840) * (16 - d) / 16) else e.1 }

theorem exec_powerDutyUpdate (means : List Nat) (s : State) :
    exec (.powerDutyUpdate means) s = .next (s.settle { s with power := s.afterDuty means }) := rfl

theorem State.afterDuty_getD {s : State} {p : Nat} (hp : p < s.power.duty.length) (means : List Nat) :
    (s.afterDuty means).duty.getD p 16 = nextDuty (s.running p) (s.capShares.getD p 0) (means.getD p 0) (s.power.duty.getD p 16) := by
  simp [State.afterDuty, List.getD_eq_getElem?_getD, hp]

end Sys2Proof.Machine

open Sys2Proof.Machine

/-- Settles O24: `addToken` either raises the one counter or stops the flight, which keeps the slots. -/
theorem tokenCountersHoldEightBits : Obligations.TokenCountersHoldEightBits := by
  intro p slot c k signaller s hslot hk hplace
  refine ⟨fun hlt => ?_, fun hfull => State.addToken_of_full hfull p signaller, fun hall => ?_⟩
  · rw [State.addToken_of_lt hlt, State.modSlot_slot_self hslot]
    refine ⟨getD_bump_self hplace, fun c' k' hk' hne => getD_bump_ne _ fun hplaces => hne ?_⟩
    exact Prod.ext (by omega) (by omega)
  · rcases Nat.lt_or_ge ((s.slot slot).token c k) 255 with hlt | hfull
    · rw [State.addToken_of_lt hlt, State.modSlot_slot_self hslot]
      exact le_of_mem_bump hlt hall
    · rw [State.addToken_of_full hfull, State.stopFlight_slot]
      exact hall

/-- Settles O34: only the power manager changes, each duty by `nextDuty`. -/
theorem dutyFollowsTheCap : Obligations.DutyFollowsTheCap := by
  intro s means
  refine ⟨_, exec_powerDutyUpdate means s, rfl, ?_, fun p hp => ?_⟩
  · simp [State.afterDuty]
  · rw [State.settle_power]
    simp only [State.afterDuty_getD hp, nextDuty, Bool.not_eq_true']

end

section
/-! SUPPORT. A time recovery (R462): the clocks that it steps, and what moves with them. -/

namespace Sys2Proof.Machine

/-- Arming changes the trigger units alone. -/
theorem State.armTrigger_eq (b : Bool) (t : Nat) (s : State) :
    ∃ l, s.armTrigger b t = { s with time := { s.time with triggers := l } } := by
  unfold State.armTrigger
  dsimp only
  split
  · exact ⟨_, rfl⟩
  · split <;> exact ⟨_, rfl⟩

theorem foldl_armTrigger_eq (ts : List Nat) (s : State) :
    ∃ l, ts.foldl (fun s t => s.armTrigger false t) s = { s with time := { s.time with triggers := l } } := by
  induction ts generalizing s with
  | nil => exact ⟨s.time.triggers, rfl⟩
  | cons t ts ih =>
    obtain ⟨l, hl⟩ := s.armTrigger_eq false t
    obtain ⟨l', hl'⟩ := ih (s.armTrigger false t)
    exact ⟨l', by rw [List.foldl_cons, hl', hl]⟩

theorem State.armAll_eq (s : State) : ∃ l, s.armAll = { s with time := { s.time with triggers := l } } := foldl_armTrigger_eq _ s

/-- What a recovery has set when the work in flight is moved: the clocks, the generation and the state, and the record of it. -/
def State.recovered (s : State) (step : Int) (case_ newState : Nat) : State :=
  let moved := ((s.time.ns112 : Int) + step).toNat % 2 ^ 112
  let ns := roundEven (nsOf step)
  let clamped := clampInt (-(2 ^ 63)) (2 ^ 63 - 1) ns
  { s with time := { s.time with
      ns112 := moved, secns := moved, increment := incrementOf s.time.freq, phase := 0, generation := s.time.generation + 1, state := newState,
      counts := bump s.time.counts 11, thetas := [], insideRun := 0, beyond := 0, largeLogged := false } }.logError 0x0A02 0xFF 0xFF
    (be 8 (unsigned 64 clamped) ++ [byteOf case_, byteOf (b01 (clamped != ns))])

theorem State.recovered_time (s : State) (step : Int) (case_ newState : Nat) :
    (s.recovered step case_ newState).time = { s.time with
      ns112 := ((s.time.ns112 : Int) + step).toNat % 2 ^ 112, secns := ((s.time.ns112 : Int) + step).toNat % 2 ^ 112,
      increment := incrementOf s.time.freq, phase := 0, generation := s.time.generation + 1, state := newState,
      counts := bump s.time.counts 11, thetas := [], insideRun := 0, beyond := 0, largeLogged := false } := State.logError_time ..

theorem State.recovered_parts (s : State) (step : Int) (case_ newState : Nat) : (s.recovered step case_ newState).parts = s.parts := State.logError_parts ..

/-- A recovery moves the work in flight after the clocks; the trigger units that it arms change nothing else. -/
theorem State.recover_eq (step : Int) (case_ newState : Nat) (s : State) :
    ∃ l, s.recover step case_ newState =
      let u := (s.recovered step case_ newState).shiftWork step
      { u with time := { u.time with triggers := l } } := State.armAll_eq _

theorem State.shiftWork_part_running (step : Int) (s : State) (p : Nat) :
    ((s.shiftWork step).part p).running = (s.part p).running.map (Running.stepped (step / 2 ^ 32) (s.time.ns112 / 2 ^ 32)) := by
  simp only [State.part, State.shiftWork, List.getD_eq_getElem?_getD, List.getElem?_mapIdx]
  cases s.parts[p]? <;> rfl

theorem defaultPartition_ctx (c : Nat) : (List.replicate 16 ({} : Context))[c]?.getD {} = {} := by
  rw [List.getElem?_replicate]
  split <;> rfl

theorem State.shiftWork_ctx (step : Int) (s : State) (p c : Nat) :
    ((s.shiftWork step).ctx p c).queue = (s.ctx p c).queue.map (Submission.stepped (step / 2 ^ 32)) ∧
    ((s.shiftWork step).ctx p c).flight = (s.ctx p c).flight.map fun g => { g with sub := g.sub.stepped (step / 2 ^ 32) } := by
  simp only [State.ctx, State.part, State.shiftWork, List.getD_eq_getElem?_getD, List.getElem?_mapIdx]
  cases s.parts[p]? with
  | none =>
    simp only [Option.map_none, Option.getD_none, defaultPartition_ctx]
    exact ⟨rfl, trivial⟩
  | some x =>
    simp only [Option.map_some, Option.getD_some, List.getElem?_mapIdx]
    cases x.ctxs[c]? <;> exact ⟨rfl, rfl⟩

theorem State.holdover_of_not_following {s : State} (h2 : s.time.state ≠ 2) (h3 : s.time.state ≠ 3) (why : Nat) : s.holdover why = s :=
  if_neg (not_or.mpr ⟨h2, h3⟩)

theorem State.traceTime_time (s : State) : s.traceTime.time = s.time := State.capture_time ..

theorem State.holdover_time {s : State} (h : s.time.state = 2 ∨ s.time.state = 3) (why : Nat) :
    (s.holdover why).time = { s.time with
      state := 4, phase := 0, increment := incrementOf s.time.freq, insideRun := 0, beyond := 0, counts := bump s.time.counts 10 } := by
  rw [State.holdover, if_pos h, State.traceTime_time, State.logError_time]

end Sys2Proof.Machine

open Sys2Proof.Machine

/-- Settles O53: `recover_eq` takes a recovery apart into its clocks, the work that moves and the units that are armed. -/
theorem timeRecoveriesKeepOneTime : Obligations.TimeRecoveriesKeepOneTime := by
  refine ⟨fun step case_ state s => ?_, fun why s => ⟨fun h2 h3 => State.holdover_of_not_following h2 h3 why, fun h => ?_⟩⟩
  · obtain ⟨l, hl⟩ := s.recover_eq step case_ state
    have htime := s.recovered_time step case_ state
    have hpart : ∀ p, (s.recovered step case_ state).part p = s.part p := fun p => congrArg (·.getD p {}) (s.recovered_parts step case_ state)
    have hctx : ∀ p c, (s.recovered step case_ state).ctx p c = s.ctx p c := fun p c => congrArg (·.ctxs.getD c {}) (hpart p)
    have hslots : (s.recovered step case_ state).slots = s.slots := State.logError_slots ..
    have hobjects : (s.recovered step case_ state).objects = s.objects := State.logError_objects ..
    have hmode : (s.recovered step case_ state).mode = s.mode := State.logError_mode ..
    have hkeys : (s.recovered step case_ state).keys = s.keys := State.logError_keys ..
    generalize s.recovered step case_ state = r at *
    rw [hl]
    refine ⟨congrArg Meridian.ns112 htime, (congrArg Meridian.secns htime).trans (congrArg Meridian.ns112 htime).symm,
      congrArg Meridian.generation htime, congrArg Meridian.state htime, fun p c => ?_, fun p => ?_, ?_, ?_, ?_, ?_⟩
    · obtain ⟨hq, hf⟩ := r.shiftWork_ctx step p c
      rw [hctx] at hq hf
      refine ⟨hq, (congrArg _ hf).trans ?_⟩
      rw [Option.map_map]
      rfl
    · have hrun := r.shiftWork_part_running step p
      rw [hpart] at hrun
      exact hrun
    · rw [← hslots]
      rfl
    · exact hobjects
    · exact hmode
    · exact hkeys
  · rw [State.holdover_time h]
    exact ⟨rfl, rfl, rfl⟩

end

section
/-! SUPPORT. The arrival of a peer frame (R344, R348, R349): one lemma per way that `State.arrive` goes. -/

namespace Sys2Proof.Machine

/-! ### Ports -/

theorem State.modPort_port_self {s : State} {k : Nat} (h : k < s.peer.ports.length) (f : PeerPort → PeerPort) : (s.modPort k f).port k = f (s.port k) :=
  getD_modify_self h f _

theorem State.modPort_port_ne (s : State) {k m : Nat} (h : k ≠ m) (f : PeerPort → PeerPort) : (s.modPort k f).port m = s.port m :=
  getD_modify_ne s.peer.ports h f _

@[simp] theorem State.modPort_ports_length (s : State) (k : Nat) (f : PeerPort → PeerPort) : (s.modPort k f).peer.ports.length = s.peer.ports.length :=
  List.length_modify ..

theorem State.countPort_port_self {s : State} {k : Nat} (h : k < s.peer.ports.length) (i : Nat) :
    (s.countPort k i).port k = { s.port k with counts := bump (s.port k).counts i } := State.modPort_port_self h _

/-- A port that retrains stands in RETRAINING. -/
theorem State.retrain_port_state {s : State} {k : Nat} (h : k < s.peer.ports.length) : ((s.retrain k).port k).state = 6 := by
  rw [State.retrain, State.countPort_port_self (by rw [State.modPort_ports_length]; exact h), State.modPort_port_self h]

/-! ### Violations -/

theorem State.peerViolation_port_state {s : State} {k : Nat} (h : k < s.peer.ports.length) (f : PeerFrame) : ((s.peerViolation k f).port k).state = 6 := by
  refine State.retrain_port_state ?_
  rw [State.countPort, State.modPort_ports_length, State.logViolation_peer]
  exact h

/-- A violation leaves the objects and the slots, and is in the violation log. -/
theorem State.peerViolation_frame (s : State) (k : Nat) (f : PeerFrame) :
    (s.peerViolation k f).objects = s.objects ∧ (s.peerViolation k f).slots = s.slots ∧
    (s.peerViolation k f).violationLog = s.violationLog.add 1024 (s.record 0x0308 0xFF (0x30 + k) (byteOf k :: (peerHeader f).take 8)) := by
  simp only [State.peerViolation, State.retrain, State.countPort, State.modPort_objects, State.modPort_slots, State.modPort_violationLog,
    State.logViolation_objects, State.logViolation_slots, State.logViolation_violationLog, and_self]

/-! ### Arrival -/

section
variable {s : State} {k : Nat} {f : PeerFrame} {ops : List Nat} (deliver : PeerFrame → State → State)

/-- How far a frame stands from the one that a port waits for, in the 16 bits of LINK_SEQ. -/
def State.linkLag (s : State) (k : Nat) (f : PeerFrame) : Nat := (f.linkSeq + 65536 - ((s.port k).rxSeq + 1) % 65536) % 65536

/-- What a port that is up does with a frame of its operations, once it is counted. -/
def State.takeIn (k : Nat) (f : PeerFrame) (ops : List Nat) (deliver : PeerFrame → State → State) (s : State) : State :=
  if !s.peer.frameOk ops f then s.peerViolation k f
  else if f.lines = 0 then
    if (s.port k).gap then s
    else
      let s := s.takeHeader k f
      if f.dst = s.peer.index then deliver f s else s.toMember f.dst f
  else if s.linkLag k f ≠ 0 then
    if 32768 ≤ s.linkLag k f then (s.countPort k 3).emitIdle k
    else if (s.port k).gap then s
    else s.peerViolation k f
  else
    let s := (s.modPort k fun x => { x with rxSeq := f.linkSeq, gap := false }).takeHeader k f
    (if f.dst = s.peer.index then deliver f s else s.toMember f.dst f).emitIdle k

theorem State.arrive_eq_takeIn (hup : (s.port k).up = true) (hop : ops.contains f.op = true) :
    s.arrive k f ops deliver = (s.countPort k 1).takeIn k f ops deliver := by
  unfold State.arrive
  rw [if_neg (by rw [hup, hop]; simp)]
  rfl

theorem State.takeIn_of_illegal (h : s.peer.frameOk ops f = false) : s.takeIn k f ops deliver = s.peerViolation k f := by
  rw [State.takeIn, h, if_pos (by rfl)]

variable (hok : s.peer.frameOk ops f = true)
include hok

theorem State.takeIn_of_legal :
    s.takeIn k f ops deliver = if f.lines = 0 then
      if (s.port k).gap then s
      else if f.dst = (s.takeHeader k f).peer.index then deliver f (s.takeHeader k f) else (s.takeHeader k f).toMember f.dst f
    else if s.linkLag k f ≠ 0 then
      if 32768 ≤ s.linkLag k f then (s.countPort k 3).emitIdle k
      else if (s.port k).gap then s
      else s.peerViolation k f
    else
      let u := (s.modPort k fun x => { x with rxSeq := f.linkSeq, gap := false }).takeHeader k f
      (if f.dst = u.peer.index then deliver f u else u.toMember f.dst f).emitIdle k := by
  rw [State.takeIn, hok, if_neg (by decide)]

end

end Sys2Proof.Machine

open Sys2Proof.Machine

/-- Settles O44: each case decides the tests of `State.takeIn` in turn. -/
theorem peerFramesAreDeliveredInOrder : Obligations.PeerFramesAreDeliveredInOrder := by
  intro k f ops deliver s hup hop s1 behind
  have hbehind : s1.linkLag k f = behind := rfl
  have harrive : s.arrive k f ops deliver = s1.takeIn k f ops deliver := State.arrive_eq_takeIn deliver hup hop
  rw [harrive]
  refine ⟨fun hok => ?_, fun hbad => State.takeIn_of_illegal (s := s1) deliver hbad,
    fun hk => ⟨State.peerViolation_port_state hk f, State.peerViolation_frame s k f⟩⟩
  rw [State.takeIn_of_legal (s := s1) deliver hok]
  refine ⟨fun hlines hzero => ?_, fun hlines hlate => ?_, fun hlines hne hlt hgap => ?_, fun hlines hne hlt hgap => ?_, fun hlines hgap => ?_, fun hlines hgap => ?_⟩
  · rw [if_neg hlines, hbehind, if_neg (not_not_intro hzero)]
  · rw [if_neg hlines, hbehind, if_pos (by omega), if_pos hlate]
  · rw [if_neg hlines, hbehind, if_pos hne, if_neg (by omega), if_pos hgap]
  · rw [if_neg hlines, hbehind, if_pos hne, if_neg (by omega), if_neg (by rw [hgap]; decide)]
  · rw [if_pos hlines, if_pos hgap]
  · rw [if_pos hlines, if_neg (by rw [hgap]; decide)]

end

section
/-! SUPPORT. Commands as what they settle; the records that a trace region holds and the debug port's reader (R576 to R583). -/

namespace Sys2Proof.Machine

/-- A command that settles a state which is known to be `b` answers the settled form of `b`. -/
theorem settled_eq {s a b : State} (h : a = b) : settled s a = .next (s.settle b) := by
  rw [h, settled]

/-! ### Trace regions -/

theorem getD_set_self {α : Type} {l : List α} {i : Nat} (h : i < l.length) (a d : α) : (l.set i a).getD i d = a := by
  simp [List.getD_eq_getElem?_getD, h]

theorem getD_set_ne {α : Type} (l : List α) {i j : Nat} (h : i ≠ j) (a d : α) : (l.set i a).getD j d = l.getD j d := by
  simp [List.getD_eq_getElem?_getD, h]

@[simp] theorem length_slice (b : Bytes) (off n : Nat) : (slice b off n).length = n := by simp [slice]

theorem State.capture_of_not_traced {s : State} {r kind : Nat} (h : (s.traceKinds r).testBit (if r < 8 then kind - 1 else kind - 0x20) = false) (b : Bytes) :
    s.capture r kind b = s := if_pos (by rw [h]; rfl)

/-- A record that the region takes is the newest, of 32 bytes under the region's SEQ; the oldest leaves a region that is full. -/
theorem State.capture_of_traced {s : State} {r kind : Nat} (h : (s.traceKinds r).testBit (if r < 8 then kind - 1 else kind - 0x20) = true)
    (hr : r < s.trace.regions.length) (b : Bytes) :
    ((s.capture r kind b).region r).seq = (s.region r).seq + 1 ∧
    ∃ bytes consent, ((s.capture r kind b).region r).recs =
      (if regionSize r ≤ (s.region r).recs.length then (s.region r).recs.drop 1 else (s.region r).recs) ++ [((s.region r).seq, bytes, consent)] ∧
      bytes.length = 32 := by
  unfold State.capture State.region
  rw [if_neg (by rw [h]; decide)]
  dsimp only
  rw [getD_set_self hr]
  exact ⟨rfl, _, _, rfl, by simp⟩

/-- A region that holds no more than its bound still does when a record has come. -/
theorem State.capture_recs_length {s : State} {r : Nat} (hr : r < s.trace.regions.length) (hbound : (s.region r).recs.length ≤ regionSize r) (kind : Nat) (b : Bytes) :
    ((s.capture r kind b).region r).recs.length ≤ regionSize r := by
  cases h : (s.traceKinds r).testBit (if r < 8 then kind - 1 else kind - 0x20) with
  | false => rw [State.capture_of_not_traced h]; exact hbound
  | true =>
    obtain ⟨_, bytes, consent, hrecs, _⟩ := State.capture_of_traced h hr b
    have hpos : 0 < regionSize r := by unfold regionSize; split <;> decide
    rw [hrecs]
    split
    · rw [List.length_append, List.length_drop, List.length_singleton]; omega
    · rw [List.length_append, List.length_singleton]; omega

/-! ### The debug port -/

section
variable {s : State} (hmode : 4 ≤ s.mode)
include hmode

theorem exec_traceLoadSample_of_powered (v mw : Nat) (tj : Int) : exec (.traceLoadSample v tj mw) s = .next (s.settle
    (s.capture 8 0x24 ([byteOf s.poweredSlots.length, 0] ++ le 2 v ++ le 2 (unsigned 16 tj) ++ [0, 0] ++ le 4 mw))) :=
  settled_eq (if_neg (Nat.not_lt.mpr hmode))

theorem exec_jtagTraceRegion_of_powered {r : Nat} (hr : r ≤ 8) : exec (.jtagTraceRegion r) s = .next (s.settle
    (s.modTrace fun x => { x with ir := 0x1C, jtagRegion := r, jtagNext := match (s.region r).recs with
      | e :: _ => e.1
      | [] => (s.region r).seq })) :=
  settled_eq (if_neg (by omega))

theorem exec_jtagTraceRead_of_none (h : s.jtagRecord = none) :
    exec .jtagTraceRead s = .next (s.settle (s.modTrace fun x => { x with ir := 0x1D, jtagData := 0 })) :=
  settled_eq (by rw [if_neg (Nat.not_lt.mpr hmode), h])

theorem exec_jtagTraceRead_of_some {e : Nat × Bytes} (h : s.jtagRecord = some e) :
    exec .jtagTraceRead s = .next (s.settle (s.modTrace fun x => { x with ir := 0x1D, jtagNext := e.1 + 1, jtagData := 2 ^ 256 + ofLE e.2 })) :=
  settled_eq (by rw [if_neg (Nat.not_lt.mpr hmode), h])

theorem exec_jtagBypass_of_other {code : Nat} (h1 : code ≠ 1) (hregion : code ≠ 0x1C) (hread : code ≠ 0x1D) :
    exec (.jtagBypass code) s = .next (s.settle { s with trace := { s.trace with ir := code % 256, jtagData := 0 } }) :=
  settled_eq (if_neg (by omega))

end

end Sys2Proof.Machine

open Sys2Proof.Machine

/-- Settles O58: the region's bound is `capture_recs_length`, and each debug instruction has its own equation. -/
theorem traceIsHeldAndRead : Obligations.TraceIsHeldAndRead := by
  refine ⟨fun r kind b s hr hlen hbound => ?_, fun v mw tj s hmode => exec_traceLoadSample_of_powered hmode v mw tj, fun r s hmode hr => ?_, fun s hmode => ?_,
    fun code s hmode h1 hregion hread => exec_jtagBypass_of_other hmode h1 hregion hread⟩
  · have hplace : r < s.trace.regions.length := by omega
    exact ⟨State.capture_recs_length hplace hbound kind b, fun htraced => State.capture_of_traced htraced hplace b⟩
  · refine ⟨_, exec_jtagTraceRegion_of_powered hmode hr, rfl, fun e rest hrecs => ?_, rfl, rfl⟩
    rw [State.settle_trace, State.modTrace_trace, hrecs]
  · cases hrec : s.jtagRecord with
    | none => exact ⟨_, exec_jtagTraceRead_of_none hmode hrec, rfl, rfl, fun _ => ⟨rfl, rfl⟩, nofun⟩
    | some e =>
      refine ⟨_, exec_jtagTraceRead_of_some hmode hrec, rfl, rfl, nofun, fun d hd => ?_⟩
      obtain rfl : e = d := Option.some.inj hd
      exact ⟨rfl, rfl⟩

end

section
/-! SUPPORT. What a failing slot brings with it (R112 to R114): the strokes, prefetchers and submissions that fail leave every slot's place in the core
map as it was. -/

namespace Sys2Proof.Machine

/-- What no step of a fold changes, the fold does not change. -/
theorem foldl_keeps {α β γ : Type} {g : α → β → α} (φ : α → γ) (h : ∀ a b, φ (g a b) = φ a) (l : List β) (a : α) : φ (l.foldl g a) = φ a := by
  induction l generalizing a with
  | nil => rfl
  | cons b l ih => rw [List.foldl_cons, ih, h]

/-! ### Where a slot stands in the core map -/

/-- A slot's state, its partition and its logical core. -/
def Slot.standing (x : Slot) : Nat × Nat × Nat := (x.state, x.part, x.logical)

/-- The standing of every slot. -/
def State.standings (s : State) : List (Nat × Nat × Nat) := s.slots.map Slot.standing

theorem State.slot_standing (s : State) (n : Nat) : (s.slot n).standing = s.standings.getD n (4, 0xFF, 0xFF) := by
  simp only [State.slot, State.standings, List.getD_eq_getElem?_getD, List.getElem?_map]
  cases s.slots[n]? <;> rfl

theorem slots_length_of_standings {s t : State} (h : t.standings = s.standings) : t.slots.length = s.slots.length := by
  simpa [State.standings] using congrArg List.length h

theorem standing_of_standings {s t : State} (h : t.standings = s.standings) (n : Nat) : (t.slot n).standing = (s.slot n).standing := by
  rw [State.slot_standing, State.slot_standing, h]

theorem State.modSlot_standings {s : State} (n : Nat) {f : Slot → Slot} (h : ∀ x, (f x).standing = x.standing) : (s.modSlot n f).standings = s.standings := by
  refine List.ext_getElem? fun i => ?_
  simp only [State.standings, State.modSlot, List.getElem?_map, List.getElem?_modify]
  cases s.slots[i]? with
  | none => rfl
  | some x => by_cases hi : n = i <;> simp [hi, h]

theorem State.applyWrite_standings (s : State) (w : Write) : (s.applyWrite w).standings = s.standings := by
  unfold State.applyWrite
  split
  · exact State.modSlot_standings _ fun _ => rfl
  · exact State.modSlot_standings _ fun _ => rfl
  · exact State.modSlot_standings _ fun _ => rfl
  · rfl
  · rfl

theorem State.tearAll_standings (s : State) (ws : List Write) : (s.tearAll ws).standings = s.standings := by
  unfold State.tearAll
  refine (foldl_keeps State.standings (fun t l => ?_) _ _).trans (foldl_keeps State.standings State.applyWrite_standings _ _)
  dsimp only
  split
  · rfl
  · exact State.applyWrite_standings ..

theorem State.cacheAccess_slots (p : Nat) (o : Obj) (write noAlloc : Bool) (s : State) (i : Nat) : (s.cacheAccess p o write noAlloc i).slots = s.slots := by
  unfold State.cacheAccess
  dsimp only
  split
  · rfl
  · split
    · rfl
    · split <;> rfl

theorem State.cacheSpan_slots (p : Nat) (o : Obj) (off len : Nat) (write noAlloc : Bool) (s : State) : (s.cacheSpan p o off len write noAlloc).slots = s.slots := by
  unfold State.cacheSpan
  split
  · rfl
  · exact foldl_keeps State.slots (State.cacheAccess_slots p o write noAlloc) _ _

theorem State.land_standings (s : State) (p : Nat) (ws : List Write) : (s.land p ws).standings = s.standings := by
  unfold State.land
  refine foldl_keeps State.standings (fun s w => ?_) _ _
  dsimp only
  split
  · exact (congrArg (List.map Slot.standing) (State.cacheSpan_slots ..)).trans (State.applyWrite_standings ..)
  · exact State.applyWrite_standings ..

theorem State.stopFlight_standings (s : State) (p c code core idx : Nat) : (s.stopFlight p c code core idx).standings = s.standings := rfl

theorem State.failStroke_standings (s : State) (p core n : Nat) (r : Running) : (s.failStroke p core n r).standings = s.standings := by
  unfold State.failStroke
  dsimp only
  rw [State.stopFlight_standings]
  split
  · rw [State.tearAll_standings, State.land_standings]; rfl
  · rw [State.tearAll_standings]; rfl

theorem State.failPrefetchers_standings (s : State) (p core : Nat) : (s.failPrefetchers p core).standings = s.standings := by
  unfold State.failPrefetchers
  refine foldl_keeps State.standings (fun s n => foldl_keeps State.standings (fun s e => ?_) _ _) _ _
  split
  · rfl
  · split
    · rfl
    · split
      · rw [State.stopFlight_standings]
        exact State.modSlot_standings _ fun _ => rfl
      · rfl

/-- The failures that a retirement brings leave every slot's standing. -/
theorem State.failOn_standings (s : State) (p core n : Nat) (replaced : Bool) : (s.failOn p core n replaced).standings = s.standings := by
  have hfailed : ∀ l : List Running, ((l.foldl (fun s r => s.failStroke p core n r) s).failPrefetchers p core).standings = s.standings := fun l =>
    (State.failPrefetchers_standings ..).trans (foldl_keeps State.standings (fun s r => s.failStroke_standings p core n r) l s)
  unfold State.failOn
  dsimp only
  split
  · exact hfailed _
  · refine (foldl_keeps State.standings (fun s c => ?_) _ _).trans (hfailed _)
    split
    · split <;> rfl
    · rfl

/-! ### A slot leaves the map -/

/-- Slot n is retired: it is scrubbed and belongs to no partition, the retirement is counted, logged with its replacement and traced. -/
def State.withdraw (n reason : Nat) (choice : Option Nat) (s : State) : State :=
  let u := (s.modSlot n fun y =>
    { y.scrub with state := 3, reason := reason, part := 0xFF, logical := 0xFF, whenNs := s.nowNs, whenValid := s.timeValid }).mapChanged
  ({ u with ras := { u.ras with counts := bump u.ras.counts 0 } }.logError 0x0107 0xFF 0 [byteOf n, byteOf (choice.getD 0xFF), byteOf reason]).traceSlot n

/-- Slot k joins a partition as a replacement. -/
def State.enlist (k part : Nat) (s : State) : State :=
  (s.modSlot k fun y => { y with state := 1, part := part, logical := 0xFF, whenNs := s.nowNs, whenValid := s.timeValid }).mapChanged.traceSlot k

@[simp] theorem State.traceSlot_slots (s : State) (n : Nat) : (s.traceSlot n).slots = s.slots := State.capture_slots ..
@[simp] theorem State.traceSlot_ras (s : State) (n : Nat) : (s.traceSlot n).ras = s.ras := State.capture_ras ..
@[simp] theorem State.traceSlot_objects (s : State) (n : Nat) : (s.traceSlot n).objects = s.objects := State.capture_objects ..

theorem State.withdraw_slots (s : State) (n reason : Nat) (choice : Option Nat) : (s.withdraw n reason choice).slots = (s.modSlot n fun y =>
    { y.scrub with state := 3, reason := reason, part := 0xFF, logical := 0xFF, whenNs := s.nowNs, whenValid := s.timeValid }).slots := by
  simp only [State.withdraw, State.traceSlot_slots, State.logError_slots, State.mapChanged]

theorem State.withdraw_ras_counts (s : State) (n reason : Nat) (choice : Option Nat) : (s.withdraw n reason choice).ras.counts = bump s.ras.counts 0 := by
  simp only [State.withdraw, State.traceSlot_ras, State.logError_ras, State.mapChanged, State.modSlot_ras]

theorem State.withdraw_objects (s : State) (n reason : Nat) (choice : Option Nat) : (s.withdraw n reason choice).objects = s.objects := by
  simp only [State.withdraw, State.traceSlot_objects, State.logError_objects, State.mapChanged, State.modSlot_objects]

theorem State.withdraw_slot_self {s : State} {n : Nat} (h : n < s.slots.length) (reason : Nat) (choice : Option Nat) :
    ((s.withdraw n reason choice).slot n).state = 3 ∧ ((s.withdraw n reason choice).slot n).reason = reason ∧ ((s.withdraw n reason choice).slot n).part = 0xFF := by
  rw [State.slot, State.withdraw_slots]
  have hself := State.modSlot_slot_self h fun y =>
    { y.scrub with state := 3, reason := reason, part := 0xFF, logical := 0xFF, whenNs := s.nowNs, whenValid := s.timeValid }
  exact ⟨congrArg Slot.state hself, congrArg Slot.reason hself, congrArg Slot.part hself⟩

theorem State.withdraw_slots_length (s : State) (n reason : Nat) (choice : Option Nat) : (s.withdraw n reason choice).slots.length = s.slots.length := by
  rw [State.withdraw_slots]
  exact List.length_modify ..

theorem State.enlist_slots (s : State) (k part : Nat) : (s.enlist k part).slots =
    (s.modSlot k fun y => { y with state := 1, part := part, logical := 0xFF, whenNs := s.nowNs, whenValid := s.timeValid }).slots := State.traceSlot_slots ..

theorem State.enlist_slot_self {s : State} {k : Nat} (h : k < s.slots.length) (part : Nat) :
    ((s.enlist k part).slot k).state = 1 ∧ ((s.enlist k part).slot k).part = part := by
  rw [State.slot, State.enlist_slots]
  have hself := State.modSlot_slot_self h fun y => { y with state := 1, part := part, logical := 0xFF, whenNs := s.nowNs, whenValid := s.timeValid }
  exact ⟨congrArg Slot.state hself, congrArg Slot.part hself⟩

theorem State.enlist_slot_ne (s : State) {k n : Nat} (h : k ≠ n) (part : Nat) : (s.enlist k part).slot n = s.slot n := by
  rw [State.slot, State.enlist_slots]
  exact State.modSlot_slot_ne s h _

/-! ### Retirement -/

/-- The buddy copies that a partition held on a logical core, as those of the core before it. -/
def State.buddiesOn (s : State) (p core : Nat) : List Nat :=
  (s.openSlots p).filter fun id => decide (2 ≤ s.cores p) && (s.streamSlot id).home == (core + s.cores p - 1) % s.cores p

/-- Those buddy copies are valid no more. -/
def State.loseBuddies (p core : Nat) (s : State) : State :=
  (s.buddiesOn p core).foldl (fun s id => s.modStream id fun e => { e with buddyValid := false }) s

/-- What a partition does about a core that has left the map: it waits for the replacement, or loses the core. -/
def State.replaceOrLose (n : Nat) (x : Slot) (before_ : Option Replacement) (choice : Option Nat) (written : List Nat) (s : State) : State :=
  match choice with
  | some k => { s.loseBuddies x.part x.logical with
      replacing := (s.loseBuddies x.part x.logical).replacing ++
        [{ part := x.part, logical := x.logical, retired := (before_.map (·.retired)).getD n, slot := k, written := written ++ (before_.map (·.written)).getD [] }] }
  | none => ((s.buddiesOn x.part x.logical).filter written.contains).foldl (fun s id =>
      ((s.resetSlot x.part id).modStream id fun e => { e with lastCode := 0x0505 }).countStream x.part 7 1) ((s.loseBuddies x.part x.logical).loseCore x.part x.logical)

/-- The retirement of an ACTIVE slot, of which `x` says where it stands; the core that it was replacing, where it was, is `before_`. -/
def State.retireActive (n reason : Nat) (x : Slot) (before_ : Option Replacement) (s : State) : State :=
  let choice := s.replacementOf n (x.part != 0xFF)
  let w := if x.part = 0xFF then s else s.failOn x.part x.logical n choice.isSome
  let v := w.withdraw n reason choice
  let v := match choice with
    | some k => v.enlist k x.part
    | none => v
  if x.part = 0xFF then v.recoveryCopy (b01 choice.isSome)
  else v.replaceOrLose n x before_ choice (if x.part = 0xFF then [] else w.failedSlots x.part)

/-- The slot as its retirement sees it: one that replaces a core already stands for it. -/
def State.retiring (s : State) (n : Nat) : Slot := match s.replacing.find? fun r => r.slot == n with
  | some r => { s.slot n with logical := r.logical }
  | none => s.slot n

theorem State.retiring_eq (s : State) (n : Nat) : ∃ core, s.retiring n = { s.slot n with logical := core } := by
  unfold State.retiring
  split
  · exact ⟨_, rfl⟩
  · exact ⟨(s.slot n).logical, rfl⟩

theorem State.retiring_state (s : State) (n : Nat) : (s.retiring n).state = (s.slot n).state := by
  obtain ⟨core, h⟩ := s.retiring_eq n
  rw [h]

theorem State.retiring_part (s : State) (n : Nat) : (s.retiring n).part = (s.slot n).part := by
  obtain ⟨core, h⟩ := s.retiring_eq n
  rw [h]

theorem State.retireSlot_eq (s : State) (n reason : Nat) : s.retireSlot n reason =
    if (s.retiring n).state ≠ 1 then s
    else State.retireActive n reason (s.retiring n) (s.replacing.find? fun r => r.slot == n) { s with replacing := s.replacing.filter fun r => r.slot != n } := rfl

theorem State.retireSlot_of_active {s : State} {n : Nat} (h : (s.slot n).state = 1) (reason : Nat) : s.retireSlot n reason =
    State.retireActive n reason (s.retiring n) (s.replacing.find? fun r => r.slot == n) { s with replacing := s.replacing.filter fun r => r.slot != n } := by
  rw [State.retireSlot_eq, if_neg (not_not_intro ((s.retiring_state n).trans h))]

theorem State.retireSlot_of_not_active {s : State} {n : Nat} (h : (s.slot n).state ≠ 1) (reason : Nat) : s.retireSlot n reason = s := by
  rw [State.retireSlot_eq, if_pos (by rwa [State.retiring_state])]

/-- An ACTIVE slot of no partition, with no slot to replace it, leaves the map. -/
theorem State.retireSlot_of_free {s : State} {n : Nat} (hactive : (s.slot n).state = 1) (hfree : (s.slot n).part = 0xFF) (hnone : s.replacementOf n false = none)
    (reason : Nat) : s.retireSlot n reason = (State.withdraw n reason none { s with replacing := s.replacing.filter fun r => r.slot != n }).recoveryCopy 0 := by
  have hpart : (s.retiring n).part = 0xFF := (s.retiring_part n).trans hfree
  have hpool : ((s.retiring n).part != 0xFF) = false := by rw [hpart]; rfl
  have hchoice : State.replacementOf { s with replacing := s.replacing.filter fun r => r.slot != n } n false = none := hnone
  rw [State.retireSlot_of_active hactive]
  unfold State.retireActive
  dsimp only
  rw [hpool, hchoice, if_pos hpart, if_pos hpart]
  rfl

theorem mem_of_nearest {n k : Nat} {l : List Nat} (h : nearest n l = some k) : k ∈ l := by
  have hfold : ∀ (l : List Nat) (b : Option Nat) (k : Nat),
      l.foldl (fun b k => match b with
        | none => some k
        | some m => if hops n k < hops n m then some k else some m) b = some k → k ∈ l ∨ b = some k := by
    intro l
    induction l with
    | nil => exact fun b k hb => Or.inr hb
    | cons a l ih =>
      intro b k hk
      rcases ih _ k hk with hmem | hb
      · exact Or.inl (List.mem_cons_of_mem a hmem)
      · cases b with
        | none => exact Or.inl (Option.some.inj hb ▸ List.mem_cons_self ..)
        | some m =>
          dsimp only at hb
          split at hb
          · exact Or.inl (Option.some.inj hb ▸ List.mem_cons_self ..)
          · exact Or.inr hb
  exact (hfold l none k h).resolve_right nofun

/-- A replacement is another slot that exists. -/
theorem State.replacementOf_ne {s : State} {n k : Nat} (hactive : (s.slot n).state = 1) (h : s.replacementOf n true = some k) :
    n ≠ k ∧ k < s.slots.length := by
  have hexists : ∀ v, (s.slot k).state = v → v ≠ 4 → k < s.slots.length := by
    intro v hv hne
    refine Decidable.byContradiction fun hge => ?_
    rw [State.slot, getD_of_length_le (Nat.le_of_not_lt hge) _] at hv
    exact hne hv.symm
  unfold State.replacementOf at h
  split at h
  · next m hm =>
    obtain rfl : m = k := Option.some.inj h
    have hstate : (s.slot m).state = 2 := by simpa using (List.mem_filter.mp (mem_of_nearest hm)).2
    exact ⟨fun hnm => by rw [hnm, hstate] at hactive; exact absurd hactive (by decide), hexists 2 hstate (by decide)⟩
  · obtain ⟨hpool, hne⟩ := List.mem_filter.mp (mem_of_nearest (by simpa using h))
    have hstate : (s.slot k).state = 1 := by
      have hboth := (List.mem_filter.mp hpool).2
      simp at hboth
      exact hboth.1
    exact ⟨fun hnk => by simp [hnk] at hne, hexists 1 hstate (by decide)⟩

theorem State.loseBuddies_slots (s : State) (p core : Nat) : (s.loseBuddies p core).slots = s.slots :=
  foldl_keeps State.slots (fun (s : State) (id : Nat) => (rfl : (s.modStream id fun e => { e with buddyValid := false }).slots = s.slots)) _ s

/-- An ACTIVE slot of a partition that is no replacement itself is replaced: its work fails, it leaves the map, and the replacement joins. -/
theorem State.retireSlot_of_replaced {s : State} {n k : Nat} (hactive : (s.slot n).state = 1) (hpart : (s.slot n).part ≠ 0xFF)
    (hbefore : (s.replacing.find? fun r => r.slot == n) = none) (hchoice : s.replacementOf n true = some k) (reason : Nat) :
    let x := s.slot n
    let w := s.failOn x.part x.logical n true
    let u := ((w.withdraw n reason (some k)).enlist k x.part).loseBuddies x.part x.logical
    s.retireSlot n reason =
      { u with replacing := u.replacing ++ [{ part := x.part, logical := x.logical, retired := n, slot := k, written := w.failedSlots x.part ++ [] }] } := by
  have hall : (s.replacing.filter fun r => r.slot != n) = s.replacing := List.filter_eq_self.mpr fun r hr => by
    simpa using List.find?_eq_none.mp hbefore r hr
  have hpool : ((s.slot n).part != 0xFF) = true := by simpa using hpart
  have hself : s.retiring n = s.slot n := by rw [State.retiring, hbefore]
  rw [State.retireSlot_of_active hactive, hself, hbefore, hall]
  unfold State.retireActive
  dsimp only
  rw [hpool, hchoice, if_neg hpart, if_neg hpart, if_neg hpart]
  rfl

/-! ### Replacement and patrol -/

theorem State.replaceDone_of_active {s : State} {r : Replacement} (h : (s.slot r.slot).state = 1) :
    let held := s.slot r.retired
    let s0 := { s with replacing := s.replacing.erase r }
    let s1 := (s0.modSlot r.slot fun x =>
      { x.scrub with part := r.part, logical := r.logical, spad := held.spad, acc := held.acc, stream := held.stream, tokens := held.tokens }).modSlot r.retired Slot.scrub
    let s2 := (s1.modPart r.part fun x => { x with map := x.map.set r.logical (some r.slot), mapGen := x.mapGen + 1 }).mapChanged.traceSlot r.slot
    let s3 := s2.modPart r.part fun x => { x with running := x.running.map (Running.redirect r.retired r.slot) }
    let records := decide (2 ≤ s3.cores r.part) && (s3.openSlots r.part).any fun id => (s3.streamSlot id).home == r.logical && (s3.streamSlot id).buddyValid
    s.replaceDone r = ((s3.recoveryCopy (1 + b01 records)).recoverSlots r.part r.logical r.written).settleMoves r.part := if_neg (not_not_intro h)

/-- A slot that counts a corrected error of a row at a time, and marks the row at sixteen in a day. -/
def Slot.corrected (now row : Nat) (x : Slot) : Slot :=
  let l := recent now 86400000000000 row x.errors
  { x with ceCount := x.ceCount + 1, counts := bump x.counts 5, errors := l,
           marked := if 16 ≤ (l.filter fun e => e.1 == row).length ∧ !x.marked.contains row then row :: x.marked else x.marked }

/-- A corrected error counted in its slot and in the slot's partition. -/
def State.countCorrected (n row : Nat) (s : State) : State :=
  let u := s.modSlot n (Slot.corrected s.nowNs row)
  if (u.slot n).part = 0xFF then u else u.countPart (u.slot n).part 7 1

theorem State.sramCorrected_eq (s : State) (n bank line bit : Nat) : s.sramCorrected n bank line bit =
    (s.countCorrected n (bank * 65536 + line)).logError 0x010B 0xFF 0 ([byteOf n, byteOf bank] ++ be 2 line ++ [byteOf bit]) := rfl

/-- The count of a partition stands outside the slots, the clocks and the logs. -/
theorem State.countCorrected_frame (s : State) (n row : Nat) : (s.countCorrected n row).slots = (s.modSlot n (Slot.corrected s.nowNs row)).slots ∧
    (s.countCorrected n row).errorLog = s.errorLog ∧ (s.countCorrected n row).time = s.time := by
  unfold State.countCorrected
  dsimp only
  split <;> exact ⟨rfl, rfl, rfl⟩

/-- A corrected error is counted in its slot, whose scratchpad stays. -/
theorem State.sramCorrected_slot {s : State} {n : Nat} (h : n < s.slots.length) (bank line bit : Nat) :
    ((s.sramCorrected n bank line bit).slot n).ceCount = (s.slot n).ceCount + 1 ∧ ((s.sramCorrected n bank line bit).slot n).spad = (s.slot n).spad := by
  obtain ⟨hslots, _, _⟩ := s.countCorrected_frame n (bank * 65536 + line)
  have hself := State.modSlot_slot_self h (Slot.corrected s.nowNs (bank * 65536 + line))
  rw [State.sramCorrected_eq, State.slot, State.logError_slots, hslots]
  exact ⟨congrArg Slot.ceCount hself, (congrArg Slot.spad hself).trans rfl⟩

theorem State.record_congr {s t : State} (h : t.time = s.time) (code scope source : Nat) (detail : Bytes) :
    t.record code scope source detail = s.record code scope source detail := by
  simp only [State.record, State.nowNs, State.nowTicks, State.timeValid, h]

/-- A corrected error is logged. -/
theorem State.sramCorrected_errorLog (s : State) (n bank line bit : Nat) : (s.sramCorrected n bank line bit).errorLog =
    s.errorLog.add 1024 (s.record 0x010B 0xFF 0 ([byteOf n, byteOf bank] ++ be 2 line ++ [byteOf bit])) := by
  obtain ⟨_, hlog, htime⟩ := s.countCorrected_frame n (bank * 65536 + line)
  rw [State.sramCorrected_eq, State.logError_errorLog, hlog, State.record_congr htime]

end Sys2Proof.Machine

open Sys2Proof.Machine

/-- Settles O39: retirement by `retireSlot_of_free` and `retireSlot_of_replaced`, the rest by one equation each. -/
theorem failedSlotsAreRetiredAndReplaced : Obligations.FailedSlotsAreRetiredAndReplaced := by
  refine ⟨fun slot reason s h => State.retireSlot_of_not_active h reason, fun slot reason s hlt hactive hfree hnone => ?_,
    fun slot reason k s hlt hactive hpart hbefore hchoice => ?_, fun slot acc bank line s hactive => settled_eq (if_pos hactive), fun slot s => ⟨rfl, rfl⟩,
    fun slot bank line bit s hlt hpowered => ?_, fun slot bank line s => rfl, fun p logical s r hfind hactive => ?_⟩
  · rw [State.retireSlot_of_free hactive hfree hnone]
    obtain ⟨hstate, hreason, hpart⟩ := State.withdraw_slot_self (s := { s with replacing := s.replacing.filter fun r => r.slot != slot }) hlt reason none
    exact ⟨hstate, hreason, hpart, State.withdraw_ras_counts .., State.withdraw_objects ..⟩
  · have hne255 : (s.slot slot).part ≠ 0xFF := by omega
    obtain ⟨hne, hk⟩ := State.replacementOf_ne hactive hchoice
    rw [State.retireSlot_of_replaced hactive hne255 hbefore hchoice]
    have hlen := slots_length_of_standings (s.failOn_standings (s.slot slot).part (s.slot slot).logical slot true)
    generalize s.failOn (s.slot slot).part (s.slot slot).logical slot true = w at *
    have hslots := State.loseBuddies_slots ((w.withdraw slot reason (some k)).enlist k (s.slot slot).part) (s.slot slot).part (s.slot slot).logical
    obtain ⟨hstate, hreason, hpart'⟩ := State.withdraw_slot_self (s := w) (hlen ▸ hlt) reason (some k)
    obtain ⟨hkstate, hkpart⟩ := State.enlist_slot_self (s := w.withdraw slot reason (some k)) (k := k)
      (by rw [State.withdraw_slots_length, hlen]; exact hk) (s.slot slot).part
    rw [← State.enlist_slot_ne _ hne.symm (s.slot slot).part] at hstate hreason hpart'
    simp only [State.slot] at *
    simp only [hslots]
    exact ⟨hstate, hreason, hpart', hkstate, hkpart, _, List.mem_append_right _ (List.mem_singleton.mpr rfl), rfl, rfl, rfl, rfl⟩
  · refine ⟨_, settled_eq (if_pos hpowered), ?_⟩
    obtain ⟨hcount, hspad⟩ := State.sramCorrected_slot hlt bank line bit
    exact ⟨hcount, hspad, State.sramCorrected_errorLog ..⟩
  · obtain ⟨rfl, rfl⟩ : r.part = p ∧ r.logical = logical := by simpa using List.find?_some hfind
    intro held s0 s1 s2 s3 records
    refine settled_eq ?_
    rw [hfind]
    exact State.replaceDone_of_active hactive

end

section
/-! SUPPORT. The stroke at the head of a queue (R106, R152, R365): one lemma per way that `State.issue` goes, and the rows that it serves. -/

namespace Sys2Proof.Machine

/-- Every row of the table is `State.issue` with its own opcode and meaning. -/
theorem exec_of_strokeRow {r : StrokeRow} (hr : r ∈ strokeRows) (p c core : Nat) (s : State) :
    exec (r.command p c core) s = .next (s.settle (s.issue r.op r.meaning p c core)) := by
  revert r
  unfold strokeRows
  simp only [List.forall_mem_cons, List.not_mem_nil, false_implies, implies_true, and_true]
  and_intros <;> rfl

theorem exec_peerReduce (p c core : Nat) (s : State) :
    exec (.peerReduce p c core) s = .next (s.settle ((s.issue 0x31 meaningPeerReduce p c core).startReduce p c core)) := rfl

section
variable {s : State} {op p c core : Nat} {m : Meaning} {t : Site} (hhead : s.headSite op p c core = some t)
include hhead

/-- A stroke that fails a check of R152 ends its submission. -/
theorem State.issue_of_refused (hcode : s.headCode t (m.own t s) ≠ 0) : s.issue op m p c core = s.refuseStroke t (s.headCode t (m.own t s)) := by
  rw [State.issue, hhead]
  exact if_pos hcode

variable (hcode : s.headCode t (m.own t s) = 0)
include hcode

/-- A stroke that waits for a token, a unit or something of its own stays at the head. -/
theorem State.issue_of_waiting (hwait : tokensReady (s.slot t.slot) c (waitTokens t.w) = false ∨ (m.units t.w).any (s.unitsHeld p core).contains = true ∨
    m.ready t s = false) : s.issue op m p c core = s.late t := by
  rw [State.issue, hhead]
  dsimp only
  rw [if_neg (not_not_intro hcode), if_pos]
  simpa only [Bool.not_eq_true'] using hwait

variable (htokens : tokensReady (s.slot t.slot) c (waitTokens t.w) = true) (hunits : (m.units t.w).any (s.unitsHeld p core).contains = false)
  (hready : m.ready t s = true)
include htokens hunits hready

/-- A stroke that a head of lesser rank passes over stays at the head. -/
theorem State.issue_of_passedOver (hpassed : s.passedOver p c core = true) : s.issue op m p c core = s := by
  rw [State.issue, hhead]
  dsimp only
  rw [if_neg (not_not_intro hcode), if_neg (by simp [htokens, hunits, hready]), if_pos hpassed]

/-- A stroke that waits for nothing and whose objects are ready issues. -/
theorem State.issue_of_ready (hpassed : s.passedOver p c core = false) (hgone : (s.reachedBinds t (m.binds t)).any (s.gone t) = false)
    (haccess : s.accessAll t (s.reached t (m.binds t)) = .ready) : s.issue op m p c core = s.launch m t := by
  rw [State.issue, hhead]
  dsimp only
  rw [if_neg (not_not_intro hcode), if_neg (by simp [htokens, hunits, hready]), if_neg (by simp [hpassed]), if_neg (by simp [hgone]), haccess]

end

theorem State.MayIssue.issue_eq {s : State} {op : Nat} {m : Meaning} {p c core : Nat} {t : Site} (h : s.MayIssue op m p c core t) :
    s.issue op m p c core = s.launch m t := by
  obtain ⟨hhead, hcode, htokens, hunits, hready, hpassed, hgone, haccess⟩ := h
  exact State.issue_of_ready hhead hcode htokens hunits hready hpassed hgone haccess

end Sys2Proof.Machine

open Sys2Proof.Machine

/-- Settles O20: every row is `State.issue`, which launches a stroke that may issue. -/
theorem readyStrokesIssue : Obligations.ReadyStrokesIssue := by
  refine ⟨fun r hr p c core s t hmay => ?_, fun p c core s t hmay => ?_⟩
  · rw [exec_of_strokeRow hr, hmay.issue_eq]
  · rw [exec_peerReduce, hmay.issue_eq]

/-- Settles O22: every row is `State.issue`, which refuses, waits or is passed over by its tests in turn. -/
theorem refusedAndWaitingStrokesDoNothing : Obligations.RefusedAndWaitingStrokesDoNothing := by
  intro r hr p c core s t hhead
  rw [exec_of_strokeRow hr]
  refine ⟨fun hcode => ?_, fun hcode hwait => ?_, fun hcode htokens hunits hready hpassed => ?_⟩
  · rw [State.issue_of_refused hhead hcode]
  · rw [State.issue_of_waiting hhead hcode hwait]
  · rw [State.issue_of_passedOver hhead hcode htokens hunits hready hpassed]

end

section
/-! SUPPORT. Writes (R78, R79): one lemma per way that `State.ownWrite` goes, the rows that it serves, and what an abort changes. -/

namespace Sys2Proof.Machine

/-- Every row of the table is `State.ownWrite` with its own check and commit, and what follows the answer. -/
theorem exec_of_ownRow {r : OwnRow} (hr : r ∈ ownRows) (rq : Request) (s : State) :
    exec (r.command rq) s = .next (s.settle (r.after (s.ownWrite r.name r.check r.commit r.block rq))) := by
  revert r
  unfold ownRows
  simp only [List.forall_mem_cons, List.not_mem_nil, false_implies, implies_true, and_true, OwnRow.after, String.reduceEq, if_true, if_false]
  and_intros <;> rfl

section
variable {check : Check} {commit : Commit} {block : Bool} {rq : Request} {s s1 s2 : State} {w : Who} {t : Target} {name : String}
  (hname : names rq name = true) (hgo : s.admitted rq (if block then 4 else 2) (fun _ => true) true = .go w s1)
include hname hgo

/-- A request that fails a check of R79 is aborted with that check's code. -/
theorem State.ownWrite_of_refused {code : Nat} (htarget : s1.writeTarget w rq.frame block = .inl code) :
    s.ownWrite name check commit block rq = s1.abort rq w code := by
  rw [State.ownWrite, if_pos hname, State.serveWrite, hgo]
  dsimp only
  rw [htarget]

variable (htarget : s1.writeTarget w rq.frame block = .inr t)
include htarget

/-- A request that fails the object's own check is aborted with the code that the check found. -/
theorem State.ownWrite_of_failed {code : Nat} (hcheck : check w t rq.frame.payload s1 = (code + 1, s2)) :
    s.ownWrite name check commit block rq = s2.abort rq w (code + 1) := by
  rw [State.ownWrite, if_pos hname, State.serveWrite, hgo]
  dsimp only
  rw [htarget]
  dsimp only
  rw [hcheck]
  rfl

/-- A request that passes every check is committed and answered, or waits for its flash program. -/
theorem State.ownWrite_of_passed (hcheck : check w t rq.frame.payload s1 = (0, s2)) :
    s.ownWrite name check commit block rq = if t.row.per = .saved then s2.queueSave rq w t else (commit w t rq.frame.payload s2).ok rq w := by
  rw [State.ownWrite, if_pos hname, State.serveWrite, hgo]
  dsimp only
  rw [htarget]
  dsimp only
  rw [hcheck]
  rfl

end

/-! ### Answers and aborts -/

/-- A signature asks of the sessions their identities and their keys alone. -/
theorem State.sign_of_sessions_map {s t : State} {g : Session → Session} (hid : ∀ e, (g e).id = e.id) (hkey : ∀ e, (g e).key = e.key)
    (h : t.svc.sessions = s.svc.sessions.map g) (f : Frame) : t.sign f = s.sign f := by
  have hpred : ((fun e : Session => e.id == f.session) ∘ g) = fun e => e.id == f.session := funext fun e => by simp [hid]
  unfold State.sign
  rw [h, List.find?_map, hpred]
  cases s.svc.sessions.find? (fun e => e.id == f.session) with
  | none => rfl
  | some e => simp [hkey]

theorem State.keep_sign (s : State) (o : Owner) (k f : Frame) : (s.keep o k).sign f = s.sign f := by
  cases o with
  | session id =>
    refine State.sign_of_sessions_map (g := fun e => if e.id = id then { e with kept := e.kept.map fun x => if x.1 = k.seq then (x.1, some k) else x } else e)
      (fun e => ?_) (fun e => ?_) rfl f
    · split <;> rfl
    · split <;> rfl
  | _ => rfl

theorem State.timeOnnum_sign (s : State) (g : Frame) (braced : Bool) (f : Frame) : (s.timeOnnum g braced).sign f = s.sign f := by
  unfold State.timeOnnum
  dsimp only
  split <;> rfl

theorem State.mem_deliver_sent (s : State) (src : Source) (f : Frame) : Sent.frame src (s.sign f) ∈ (s.deliver src f).sent := by
  unfold State.deliver
  split <;> exact List.mem_cons_self ..

/-- The answer goes out the way the request came, signed under its session. -/
theorem State.mem_respond_sent (rq : Request) (w : Who) (status typ : Nat) (v : Bytes) (s : State) (b : Bool) :
    Sent.frame rq.source (s.sign (responseTo rq.frame w.tagged status typ v)) ∈ (s.respond rq w status typ v b).sent := by
  have h := State.mem_deliver_sent (((s.keep w.owner (responseTo rq.frame w.tagged status typ v)).timeOnnum rq.frame b).countOnnum 1) rq.source
    (responseTo rq.frame w.tagged status typ v)
  have hsign : ∀ f, (((s.keep w.owner (responseTo rq.frame w.tagged status typ v)).timeOnnum rq.frame b).countOnnum 1).sign f = s.sign f := fun f =>
    (State.timeOnnum_sign _ rq.frame b f).trans (State.keep_sign s _ _ f)
  rwa [hsign] at h

theorem Service.streamRecord_counts (index : Nat) (l : Log) (r : LogRec) (x : Service) : (x.streamRecord index l r).counts = x.counts := by
  unfold Service.streamRecord
  split <;> rfl

theorem State.respond_counts (rq : Request) (w : Who) (status typ : Nat) (v : Bytes) (s : State) (b : Bool) :
    (s.respond rq w status typ v b).svc.counts = bump s.svc.counts 1 := by
  have h := State.respond_svc rq w status typ v s b
  dsimp only at h
  rw [h]

/-- An abort changes the service, what the part gives out, the violation log and its trace alone. -/
theorem State.abort_eq (rq : Request) (w : Who) (code : Nat) (s : State) (b : Bool) :
    s.abort rq w code b = { s with
      svc := (s.abort rq w code b).svc, sent := (s.abort rq w code b).sent, violationLog := (s.abort rq w code b).violationLog, trace := (s.abort rq w code b).trace } := by
  unfold State.abort
  rw [State.logViolation_eq, State.respond_eq]
  rfl

section
variable (rq : Request) (w : Who) (code : Nat) (s : State) (b : Bool)

theorem State.abort_sent : (s.abort rq w code b).sent = (s.respond rq w code 0 [] b).sent := by
  simp only [State.abort, State.logViolation_sent, State.countOnnum_sent]

theorem State.abort_counts : (s.abort rq w code b).svc.counts = bump (bump s.svc.counts 1) 7 := by
  simp only [State.abort, State.logViolation_svc, Service.streamRecord_counts]
  exact congrArg (bump · 7) (State.respond_counts ..)

theorem State.abort_violationLog : (s.abort rq w code b).violationLog = s.violationLog.add 1024 (s.record code w.scope (sourceCode rq.source) s.svc.detail) := by
  have htime : ((s.respond rq w code 0 [] b).countOnnum 7).time = s.time := by rw [State.countOnnum_time, State.respond_eq]
  have hlog : ((s.respond rq w code 0 [] b).countOnnum 7).violationLog = s.violationLog := by rw [State.countOnnum_violationLog, State.respond_eq]
  simp only [State.abort, State.logViolation_violationLog]
  rw [hlog, State.record_congr htime]

end

end Sys2Proof.Machine

open Sys2Proof.Machine

/-- Settles O12: a write that finds no target is aborted by every row, and an abort is an answer, two counts and a record. -/
theorem failedChecksCommitNothing : Obligations.FailedChecksCommitNothing := by
  refine ⟨fun r hr rq s w s1 code hname hgo htarget => ?_, fun rq w code s => ?_⟩
  · rw [exec_of_ownRow hr, State.ownWrite_of_refused hname hgo htarget]
  · refine ⟨State.abort_eq .., ?_, State.abort_counts .., State.abort_violationLog ..⟩
    rw [State.abort_sent]
    exact State.mem_respond_sent ..

/-- Settles O11: every row is `State.ownWrite`, which commits, waits or aborts as the object's own check and its persistence say. -/
theorem ownWritesCommitOrAbort : Obligations.OwnWritesCommitOrAbort := by
  intro r hr rq s w t s1 s2
  rw [exec_of_ownRow hr]
  refine ⟨?_, ?_, fun code hname hgo htarget hcheck => ?_⟩
  · rintro ⟨hname, hgo, htarget, hcheck⟩ hper
    rw [State.ownWrite_of_passed hname hgo htarget hcheck, if_neg hper]
  · rintro ⟨hname, hgo, htarget, hcheck⟩ hper
    rw [State.ownWrite_of_passed hname hgo htarget hcheck, if_pos hper]
  · rw [State.ownWrite_of_failed hname hgo htarget hcheck]

end

section
/-! SUPPORT. What commits leave: stored values, objects found again after they changed, and the views of the logs. -/

namespace Sys2Proof.Machine

theorem getD_set_default {α : Type} (l : List α) (i : Nat) (d : α) : (l.set i d).getD i d = d := by
  rcases Nat.lt_or_ge i l.length with h | h
  · exact getD_set_self h d d
  · exact getD_of_length_le (by rwa [List.length_set]) _

/-! ### Partitions and contexts -/

theorem State.modPart_part_self {s : State} {p : Nat} (h : p < s.parts.length) (f : Partition → Partition) : (s.modPart p f).part p = f (s.part p) :=
  getD_modify_self h f _

theorem State.modPart_part_ne (s : State) {p q : Nat} (h : p ≠ q) (f : Partition → Partition) : (s.modPart p f).part q = s.part q :=
  getD_modify_ne s.parts h f _

theorem State.modPart_of_ge {s : State} {p : Nat} (h : s.parts.length ≤ p) (f : Partition → Partition) : s.modPart p f = s := by
  have hparts : s.parts.modify p f = s.parts := List.ext_getElem? fun i => by
    rw [List.getElem?_modify]
    split
    · next heq => rw [← heq, List.getElem?_eq_none h]; rfl
    · cases s.parts[i]? <;> rfl
  unfold State.modPart
  rw [hparts]

/-- A context that is changed is changed by `f`, where there is such a context, and every other stays. -/
theorem State.modCtx_ctx (s : State) (p c : Nat) (f : Context → Context) (q k : Nat) : (s.modCtx p c f).ctx q k =
    if p = q ∧ c = k ∧ p < s.parts.length ∧ c < (s.part p).ctxs.length then f (s.ctx q k) else s.ctx q k := by
  unfold State.modCtx State.ctx
  by_cases hp : p = q
  · subst hp
    rcases Nat.lt_or_ge p s.parts.length with hlt | hge
    · rw [State.modPart_part_self hlt]
      by_cases hc : c = k
      · subst hc
        rcases Nat.lt_or_ge c (s.part p).ctxs.length with hclt | hcge
        · rw [if_pos ⟨rfl, rfl, hlt, hclt⟩]
          exact getD_modify_self hclt f _
        · rw [if_neg (by omega), getD_of_length_le (by simpa using hcge) _, getD_of_length_le hcge _]
      · rw [if_neg fun h => hc h.2.1]
        exact getD_modify_ne _ hc f _
    · rw [if_neg (by omega), State.modPart_of_ge hge]
  · rw [if_neg fun h => hp h.1, State.modPart_part_ne s hp]

/-- Where there is no such context it reads as an empty one. -/
theorem State.ctx_of_absent {s : State} {p c : Nat} (h : ¬(p < s.parts.length ∧ c < (s.part p).ctxs.length)) : s.ctx p c = {} := by
  unfold State.ctx
  rcases Nat.lt_or_ge p s.parts.length with hlt | hge
  · exact getD_of_length_le (by omega) _
  · rw [State.part, getD_of_length_le hge _, List.getD_eq_getElem?_getD]
    exact defaultPartition_ctx c

/-- What a change of a context keeps of it, it keeps of every context. -/
theorem State.modCtx_ctx_keeps {γ : Type} (φ : Context → γ) {f : Context → Context} (h : ∀ x, φ (f x) = φ x) (s : State) (p c q k : Nat) :
    φ ((s.modCtx p c f).ctx q k) = φ (s.ctx q k) := by
  rw [State.modCtx_ctx]
  split
  · exact h _
  · rfl

/-! ### Stored values -/

section
variable {α : Type}

theorem kvGet_eq_none {l : List (Nat × α)} {a : Nat} (h : ∀ k ∈ l.map (·.1), a < k) : kvGet l a = none := by
  induction l with
  | nil => rfl
  | cons e r ih =>
    rw [List.map_cons, List.forall_mem_cons] at h
    rw [kvGet, if_neg (Nat.ne_of_gt h.1), ih h.2]

/-- An entry put in front of a table, or none. -/
def kvPut (a : Nat) (o : Option α) (r : List (Nat × α)) : List (Nat × α) := (o.toList.map fun v => (a, v)) ++ r

theorem kvGet_put_self {r : List (Nat × α)} {a : Nat} (h : kvGet r a = none) (o : Option α) : kvGet (kvPut a o r) a = o := by
  cases o with
  | none => exact h
  | some v => exact if_pos rfl

theorem kvGet_put_ne (r : List (Nat × α)) {a b : Nat} (h : b ≠ a) (o : Option α) : kvGet (kvPut a o r) b = kvGet r b := by
  cases o with
  | none => rfl
  | some v => exact if_neg h.symm

theorem kvPut_sorted {r : List (Nat × α)} {a : Nat} (h : ∀ k ∈ r.map (·.1), a < k) (hr : (r.map (·.1)).Pairwise (· < ·)) (o : Option α) :
    ((kvPut a o r).map (·.1)).Pairwise (· < ·) := by
  cases o with
  | none => exact hr
  | some v => exact List.pairwise_cons.mpr ⟨h, hr⟩

theorem mem_keys_kvPut {r : List (Nat × α)} {a k : Nat} {o : Option α} (h : k ∈ (kvPut a o r).map (·.1)) : k = a ∨ k ∈ r.map (·.1) := by
  cases o with
  | none => exact Or.inr h
  | some v => exact List.mem_cons.mp h

/-- A store goes in front of the first greater key, takes the place of its own key, or goes on behind a lesser one. -/
theorem kvSet_cons (e : Nat × α) (r : List (Nat × α)) (a : Nat) (o : Option α) : kvSet (e :: r) a o =
    if a < e.1 then kvPut a o (e :: r) else if a = e.1 then kvPut a o r else e :: kvSet r a o := by
  cases o <;> rfl

theorem kvSet_nil (a : Nat) (o : Option α) : kvSet [] a o = kvPut a o [] := by cases o <;> rfl

theorem mem_keys_kvSet {l : List (Nat × α)} {a k : Nat} {o : Option α} (h : k ∈ (kvSet l a o).map (·.1)) : k = a ∨ k ∈ l.map (·.1) := by
  induction l with
  | nil =>
    rw [kvSet_nil] at h
    exact mem_keys_kvPut h
  | cons e r ih =>
    rw [kvSet_cons] at h
    split at h
    · exact mem_keys_kvPut h
    · split at h
      · exact (mem_keys_kvPut h).imp_right (List.mem_cons_of_mem _)
      · rcases List.mem_cons.mp h with rfl | h
        · exact Or.inr (List.mem_cons_self ..)
        · exact (ih h).imp_right (List.mem_cons_of_mem _)

theorem kvGet_kvSet_ne (l : List (Nat × α)) {a b : Nat} (hne : b ≠ a) (o : Option α) : kvGet (kvSet l a o) b = kvGet l b := by
  induction l with
  | nil => rw [kvSet_nil, kvGet_put_ne _ hne]
  | cons e r ih =>
    rw [kvSet_cons]
    split
    · exact kvGet_put_ne _ hne o
    · split
      · next heq => rw [kvGet_put_ne _ hne, kvGet, if_neg (heq ▸ hne.symm)]
      · rw [kvGet, ih, kvGet]

section
variable {l : List (Nat × α)} (hl : (l.map (·.1)).Pairwise (· < ·))
include hl

theorem kvSet_sorted (a : Nat) (o : Option α) : ((kvSet l a o).map (·.1)).Pairwise (· < ·) := by
  induction l with
  | nil => rw [kvSet_nil]; exact kvPut_sorted (by simp) (by simp) o
  | cons e r ih =>
    obtain ⟨hfirst, hr⟩ := List.pairwise_cons.mp hl
    rw [kvSet_cons]
    split
    · next hlt =>
      refine kvPut_sorted (fun k hk => ?_) hl o
      rcases List.mem_cons.mp hk with rfl | hk
      · exact hlt
      · exact Nat.lt_trans hlt (hfirst k hk)
    · split
      · next heq => exact kvPut_sorted (fun k hk => heq ▸ hfirst k hk) hr o
      · refine List.pairwise_cons.mpr ⟨fun k hk => ?_, ih hr⟩
        rcases mem_keys_kvSet hk with rfl | hk
        · exact show e.1 < k by omega
        · exact hfirst k hk

theorem kvGet_kvSet_self (a : Nat) (o : Option α) : kvGet (kvSet l a o) a = o := by
  induction l with
  | nil => rw [kvSet_nil]; exact kvGet_put_self rfl o
  | cons e r ih =>
    obtain ⟨hfirst, hr⟩ := List.pairwise_cons.mp hl
    rw [kvSet_cons]
    split
    · next hlt =>
      refine kvGet_put_self (kvGet_eq_none fun k hk => ?_) o
      rcases List.mem_cons.mp hk with rfl | hk
      · exact hlt
      · exact Nat.lt_trans hlt (hfirst k hk)
    · split
      · next heq => exact kvGet_put_self (kvGet_eq_none fun k hk => heq ▸ hfirst k hk) o
      · next hne => rw [kvGet, if_neg (Ne.symm hne), ih hr]

end

end

/-- What an object reads while nothing is stored for it. -/
def defaultValue (idx sub : Nat) : Bytes := match findRow idx sub with
  | some r => r.default
  | none => []

theorem State.obj_eq (s : State) (p i sub : Nat) : s.obj p i sub = (kvGet s.dict (okey p i sub)).getD (defaultValue i sub) := by
  unfold State.obj
  cases kvGet s.dict (okey p i sub) <;> rfl

theorem State.setObj_eq (s : State) (p i sub : Nat) (v : Bytes) :
    s.setObj p i sub v = { s with dict := kvSet s.dict (okey p i sub) (if v = defaultValue i sub then none else some v) } := rfl

theorem State.setObj_obj_self {s : State} (h : (s.dict.map (·.1)).Pairwise (· < ·)) (p i sub : Nat) (v : Bytes) : (s.setObj p i sub v).obj p i sub = v := by
  rw [State.obj_eq, State.setObj_eq, kvGet_kvSet_self h]
  split
  · next heq => exact heq.symm
  · rfl

theorem State.setObj_obj_ne (s : State) {p i sub p' i' sub' : Nat} (h : okey p' i' sub' ≠ okey p i sub) (v : Bytes) :
    (s.setObj p i sub v).obj p' i' sub' = s.obj p' i' sub' := by
  rw [State.obj_eq, State.setObj_eq, kvGet_kvSet_ne _ h, ← State.obj_eq]

/-! ### Objects -/

section
variable {f : Obj → Obj} (hname : ∀ x, (f x).owner = x.owner ∧ (f x).index = x.index ∧ (f x).gen = x.gen)
include hname

/-- A change that keeps the names of objects is seen where the object is looked for. -/
theorem State.modObj_objAt (s : State) (owner index p i : Nat) :
    (s.modObj owner index f).objAt p i = (s.objAt p i).map fun o => if o.owner = owner ∧ o.index = index then f o else o := by
  unfold State.modObj State.objAt
  rw [List.find?_map]
  congr 2
  funext o
  obtain ⟨howner, hindex, _⟩ := hname o
  by_cases h : o.owner = owner ∧ o.index = index
  · simp [h, howner, hindex]
  · simp only [Function.comp_apply, if_neg h]

/-- An object that is found changes where it is found, under the same name. -/
theorem State.modObj_objOf {s : State} {h : Nat} {o : Obj} (hfind : s.objOf h = some o) : (s.modObj o.owner o.index f).objOf h = some (f o) := by
  unfold State.objOf at hfind ⊢
  split at hfind
  · exact absurd hfind nofun
  · next hfits =>
    rw [if_neg hfits, State.modObj_objAt hname]
    split at hfind
    · next x hx =>
      split at hfind
      · next hgen =>
        obtain rfl : x = o := Option.some.inj hfind
        simp [hx, hname x, hgen]
      · exact absurd hfind nofun
    · exact absurd hfind nofun

end

theorem commitObjectWindow_of_found {w : Who} {s : State} {o : Obj} (h : s.objOf (s.selection w.owner).1 = some o) (t : Target) (v : Bytes) :
    commitObjectWindow w t v s = s.modObj o.owner o.index fun x => { x with content := memWrite x.content (s.selection w.owner).2.1 v } := by
  unfold commitObjectWindow
  dsimp only
  rw [h]

theorem commitObjectSeal_of_found {t : Target} {v : Bytes} {s : State} {o : Obj} (h : s.objOf (memberAt t.row.mem v 0) = some o) (w : Who) :
    commitObjectSeal w t v s = s.modObj o.owner o.index fun x =>
      { x with state := 2, digest := chunkTree x, pub := memberAt t.row.mem v 1 == 1, keyId := memberAt t.row.mem v 2, sig := slice v 17 96 } := by
  unfold commitObjectSeal
  rw [h]

/-! ### Keys, patterns and logs -/

theorem commitKeyDestroy_of_true {v : Bytes} (h : ofBE v ≠ 0) (w : Who) (t : Target) (s : State) :
    commitKeyDestroy w t v s =
      let u := ((s.beginReset t.i).destroyKey t.i).countSec 2
      { u with objects := u.objects.map fun o => if o.owner = t.i ∧ !o.deleting then o.retain else o } := if_neg h

theorem commitKeyDestroy_keys {v : Bytes} (h : ofBE v ≠ 0) (w : Who) (t : Target) (s : State) :
    (commitKeyDestroy w t v s).keys.getD t.i none = none := by
  rw [commitKeyDestroy_of_true h]
  exact getD_set_default ..

theorem Obj.retain_frame (o : Obj) : o.retain.state = 5 ∧ o.retain.owner = o.owner ∧ o.retain.deleting = o.deleting := by
  unfold Obj.retain
  dsimp only
  split <;> exact ⟨rfl, rfl, rfl⟩

theorem commitKeyDestroy_objects {v : Bytes} (h : ofBE v ≠ 0) (w : Who) (t : Target) (s : State) :
    ∀ o ∈ (commitKeyDestroy w t v s).objects, o.owner = t.i → o.deleting = false → o.state = 5 := by
  rw [commitKeyDestroy_of_true h]
  intro o ho howner hdeleting
  obtain ⟨x, _, rfl⟩ := List.mem_map.mp ho
  obtain ⟨hstate, hxowner, hxdeleting⟩ := x.retain_frame
  split at howner
  · next hmine => rw [if_pos hmine]; exact hstate
  · next hother =>
    rw [if_neg hother] at hdeleting
    exact absurd ⟨howner, by rw [hdeleting]; rfl⟩ hother

/-- Worst-case times are stored beside the patterns, which stay. -/
theorem State.storeWcrt_pattern (s : State) (p q c : Nat) : ((s.storeWcrt p).ctx q c).pattern = (s.ctx q c).pattern := by
  unfold State.storeWcrt
  refine foldl_keeps (fun s : State => (s.ctx q c).pattern) ?_ (List.range 16) s
  intro u k
  refine State.modCtx_ctx_keeps Context.pattern ?_ u p k q c
  exact fun _ => rfl

/-- An unloaded pattern is gone from its context. -/
theorem commitPatternUnload_pattern {v : Bytes} (h : ofBE v ≠ 0) (w : Who) (t : Target) (s : State) :
    ((commitPatternUnload w t v s).ctx t.i t.j).pattern = none := by
  rw [commitPatternUnload, if_neg h, State.storeWcrt_pattern, State.modCtx_ctx]
  split
  · rfl
  · next habsent => rw [State.ctx_of_absent fun h => habsent ⟨rfl, rfl, h⟩]

theorem commitOf_errorClear : commitOf "ERROR_CLEAR" = commitClear fun n s => { s with errorLog := s.errorLog.clear n } := by
  simp [commitOf, commitsA]

theorem commitOf_violationClear : commitOf "VIOLATION_CLEAR" = commitClear fun n s => { s with violationLog := s.violationLog.clear n } := by
  simp [commitOf, commitsA]

theorem commitOf_refusalClear : commitOf "REFUSAL_CLEAR" = commitClear fun n s => { s with refusalLog := s.refusalLog.clear n } := by
  simp [commitOf, commitsA]

theorem commitClear_of_true {w : Who} {v : Bytes} {n : Nat} (h : ofBE v ≠ 0) (hview : w.view = some n) (f : Nat → State → State) (t : Target) (s : State) :
    commitClear f w t v s = f n s := by
  rw [commitClear, if_neg h, hview]

end Sys2Proof.Machine

open Sys2Proof.Machine

/-- Settles O13: reads after `setObj` and `modObj`, and what each of the other commits sets. -/
theorem commitsLeaveWhatTheyName : Obligations.CommitsLeaveWhatTheyName := by
  refine ⟨fun p i sub v s hsorted => ⟨State.setObj_obj_self hsorted p i sub v, kvSet_sorted hsorted _ _, fun p' i' sub' hne => State.setObj_obj_ne s hne v, rfl⟩,
    fun w t v s o hfind hwf => ?_, fun w t v s o hfind => ?_, fun w t v s htrue => ⟨commitKeyDestroy_keys htrue w t s, commitKeyDestroy_objects htrue w t s⟩,
    fun w t v s htrue => ?_, fun w t v s n htrue hview => ?_⟩
  · rw [commitObjectWindow_of_found hfind]
    refine ⟨_, State.modObj_objOf ?_ hfind, memRead_memWrite hwf _ v, fun k hk => memGet_memWrite_outside hwf hk⟩
    exact fun _ => ⟨rfl, rfl, rfl⟩
  · rw [commitObjectSeal_of_found hfind]
    refine ⟨_, State.modObj_objOf ?_ hfind, rfl, rfl, rfl, rfl⟩
    exact fun _ => ⟨rfl, rfl, rfl⟩
  · exact commitPatternUnload_pattern htrue w t s
  · rw [commitOf_errorClear, commitOf_violationClear, commitOf_refusalClear]
    exact ⟨commitClear_of_true htrue hview .., commitClear_of_true htrue hview .., commitClear_of_true htrue hview ..⟩

end

section
/-! SUPPORT. Block transfers: what each of their commands does once its request is admitted. -/

namespace Sys2Proof.Machine

theorem State.serveReadBlock_of_readable {rq : Request} {s s1 : State} {w : Who} {t : Target} (hadmit : s.admitted rq 3 (fun p => p.length == 4) = .go w s1)
    (hread : s1.readAccess w rq.frame = .inr t) (hreport : ¬(t.row.name = "ATTEST_REPORT" ∨ t.row.name = "ATTEST_REPORT_DEVICE"))
    (hwindow : t.row.name ≠ "OBJECT_WINDOW") : s.serveReadBlock rq = (s1.valueOf w t).2.startRead rq w t (s1.valueOf w t).1 := by
  unfold State.serveReadBlock State.answerReadBlock
  rw [hadmit]
  dsimp only
  rw [hread]
  dsimp only
  rw [if_neg hreport, if_neg hwindow]
  rfl

/-- The holding area that a WRITE_BLOCK opens. -/
def openedBlock (rq : Request) (w : Who) (t : Target) : Block :=
  { owner := w.owner, who := w, write := true, part := t.part, index := t.index, sub := t.sub, typ := t.row.ty,
    total := ofBE (rq.frame.payload.take 4), crc := ofBE (rq.frame.payload.drop 4), lastSeq := rq.frame.seq }

theorem State.serveWriteBlock_of_writable {rq : Request} {s s1 : State} {w : Who} {t : Target} (hadmit : s.admitted rq 4 (fun p => p.length == 8) = .go w s1)
    (hwrite : s1.writeAccess (s1.elevate rq w) rq.frame true = .inr t) (hfits : t.row.fitsLength (ofBE (rq.frame.payload.take 4)) = true)
    (hwindow : t.row.name ≠ "OBJECT_WINDOW") (hbusy : s1.blockBusy w.owner true t = 0) : s.serveWriteBlock rq =
    (s1.respond rq w 0 0 (be 2 16 ++ be 2 1024)).modSvc fun x => { x with blocks := (x.blocks.filter fun e => e.owner != w.owner) ++ [openedBlock rq w t] } := by
  unfold State.serveWriteBlock State.answerWriteBlock
  rw [hadmit]
  dsimp only
  rw [hwrite]
  dsimp only
  rw [hfits, if_neg hwindow]
  dsimp only
  rw [hbusy]
  rfl

theorem Block.take_sinceAck (b : Block) (f : Frame) : (b.take_ f).sinceAck = b.sinceAck + 1 := by
  unfold Block.take_
  dsimp only
  split <;> rfl

/-- A segment of new bytes within the sender's window is taken; the one with LAST that leaves no gap ends the transfer. -/
theorem State.takeSegment_of_new {rq : Request} {w : Who} {s : State} {b : Block}
    (hfind : (s.svc.blocks.find? fun b => b.write && b.owner == w.owner && b.index == rq.frame.index && b.sub == rq.frame.sub) = some b)
    (hnear : ofBE (rq.frame.payload.take 4) ≤ b.value.length + 16384)
    (hnew : b.value.length < ofBE (rq.frame.payload.take 4) + (rq.frame.payload.length - 4)) (hack : b.sinceAck ≠ 15) :
    s.takeSegment rq w = if rq.frame.flags.testBit 1 ∧ ofBE (rq.frame.payload.take 4) ≤ b.value.length
      then (s.setBlock b (b.take_ rq.frame)).finishBlock (b.take_ rq.frame) rq w else s.setBlock b (b.take_ rq.frame) := by
  have hdue : ((b.take_ rq.frame).sinceAck == 16) = false := by simp [Block.take_sinceAck, hack]
  unfold State.takeSegment
  dsimp only
  rw [hfind]
  dsimp only
  rw [if_neg (by omega), if_neg (by omega), hdue]
  rfl

theorem State.serveSegment_of_admitted {rq : Request} {s s1 : State} {w : Who}
    (hadmit : s.admitted rq 8 (fun p => decide (5 ≤ p.length) && decide (p.length ≤ 1028)) = .go w s1) (hanon : w.isAnon = false) :
    s.serveSegment rq = s1.takeSegment rq w := by
  unfold State.serveSegment State.answerSegment
  rw [hadmit]
  dsimp only
  rw [hanon]
  rfl

theorem Block.take_of_reached {b : Block} {f : Frame} (h : ofBE (f.payload.take 4) ≤ b.value.length) :
    (b.take_ f).value = b.value ++ (f.payload.drop 4).drop (b.value.length - ofBE (f.payload.take 4)) ∧ (b.take_ f).gap = false := by
  unfold Block.take_
  dsimp only
  rw [if_pos h]
  exact ⟨rfl, rfl⟩

theorem Block.take_of_beyond {b : Block} {f : Frame} (h : b.value.length < ofBE (f.payload.take 4)) :
    (b.take_ f).value = b.value ∧ (b.take_ f).gap = true := by
  unfold Block.take_
  dsimp only
  rw [if_neg (by omega)]
  exact ⟨rfl, rfl⟩

theorem State.serveSegmentAck_of_found {rq : Request} {s s1 : State} {w : Who} {b : Block} (hadmit : s.admitted rq 9 (fun p => p.length == 4) = .go w s1)
    (hfind : (s1.svc.blocks.find? fun b => !b.write && b.owner == w.owner && b.index == rq.frame.index && b.sub == rq.frame.sub) = some b) :
    s.serveSegmentAck rq = if b.total < ofBE rq.frame.payload then s1
      else if ofBE rq.frame.payload = b.total then s1.modSvc fun x => { x with blocks := x.blocks.erase b }
      else s1.continueRead b (ofBE rq.frame.payload) := by
  unfold State.serveSegmentAck State.answerSegmentAck
  rw [hadmit]
  dsimp only
  rw [hfind]

theorem execSegmentGapTimer_of_gap {k : Nat} {s : State} {b : Block} (hb : s.svc.blocks[k]? = some b) (hwrite : b.write = true) (hgap : b.gap = true) :
    execSegmentGapTimer k s = .next (s.settle ((s.setBlock b { b with gap := false }).deliver b.who.source b.ack)) := by
  unfold execSegmentGapTimer
  rw [hb]
  dsimp only
  rw [hwrite, hgap]
  rfl

theorem execBlockTimeout_of_write {k : Nat} {s : State} {b : Block} (hb : s.svc.blocks[k]? = some b) (hwrite : b.write = true) :
    execBlockTimeout k s = .next (s.settle (s.abortBlock b 0x0E12)) := by
  unfold execBlockTimeout
  rw [hb]
  dsimp only
  rw [hwrite]
  rfl

theorem State.finishBlock_of_whole {b : Block} (hlength : b.value.length = b.total) (hcrc : crc32 b.value = b.crc) (rq : Request) (w : Who) (s : State) :
    s.finishBlock b rq w =
      let whole : Request := { rq with frame := { rq.frame with op := 4, typ := b.typ, payload := b.value } }
      let s1 := s.modSvc fun x => { x with blocks := x.blocks.erase b }
      if s1.behind whole w then s1.queueRequest whole w true else s1.finishWrite whole w true :=
  if_neg (not_or.mpr ⟨not_not_intro hlength, not_not_intro hcrc⟩)

end Sys2Proof.Machine

open Sys2Proof.Machine

/-- Settles O16: each command of a transfer, by the lemma that says what it does for an admitted request. -/
theorem blockTransfersMoveAndEnd : Obligations.BlockTransfersMoveAndEnd := by
  refine ⟨fun rq s s1 w t hadmit hread hname hdevice hwindow => ?_, fun rq s s1 w t hadmit hwrite hfits hwindow hbusy => ?_,
    fun rq s s1 w b hadmit hanon hfind hnear hnew hack => ?_, fun b f h => Block.take_of_reached h, fun b f h => Block.take_of_beyond h,
    fun rq s s1 w b hadmit hfind => ⟨fun hlt => ?_, fun heq => ?_⟩,
    fun k s b hb hwrite => ⟨fun hgap => ⟨_, execSegmentGapTimer_of_gap hb hwrite hgap, ?_, rfl⟩, execBlockTimeout_of_write hb hwrite⟩,
    fun b rq w s => ⟨fun hbad => if_pos hbad, fun hlength hcrc => ⟨fun hfree => ?_, fun hbehind => ?_⟩⟩⟩
  · exact settled_eq (State.serveReadBlock_of_readable hadmit hread (not_or.mpr ⟨hname, hdevice⟩) hwindow)
  · refine ⟨_, settled_eq (State.serveWriteBlock_of_writable hadmit hwrite hfits hwindow hbusy), ?_, openedBlock rq w t, ?_, rfl, rfl, rfl, rfl, rfl, rfl, rfl⟩
    · exact State.mem_respond_sent ..
    · exact List.mem_append_right _ (List.mem_singleton_self _)
  · have htaken := State.takeSegment_of_new hfind hnear hnew hack
    refine ⟨fun hmore => settled_eq ?_, fun hlast hreached => settled_eq ?_⟩
    · rw [State.serveSegment_of_admitted hadmit hanon, htaken, if_neg hmore]
    · rw [State.serveSegment_of_admitted hadmit hanon, htaken, if_pos ⟨hlast, hreached⟩]
  · refine settled_eq ?_
    rw [State.serveSegmentAck_of_found hadmit hfind, if_neg (by omega), if_neg (by omega)]
  · refine settled_eq ?_
    rw [State.serveSegmentAck_of_found hadmit hfind, if_neg (by omega), if_pos heq]
  · exact State.mem_deliver_sent (s.setBlock b { b with gap := false }) b.who.source b.ack
  · rw [State.finishBlock_of_whole hlength hcrc]
    exact if_neg (by simp only [hfree]; decide)
  · rw [State.finishBlock_of_whole hlength hcrc]
    exact if_pos hbehind

end

section
/-! SUPPORT. Reads and writes of the dictionary: what they do once their request is admitted. -/

namespace Sys2Proof.Machine

theorem State.serveRead_of_admitted {rq : Request} {s s1 : State} {w : Who} (h : s.admitted rq 1 (fun p => p.isEmpty) = .go w s1) :
    s.serveRead rq = s1.answerRead rq w := by
  rw [State.serveRead, h]

theorem State.answerRead_of_refused {rq : Request} {w : Who} {s : State} {code : Nat} (h : s.readAccess w rq.frame = .inl code) :
    s.answerRead rq w = s.abort rq w code := by
  rw [State.answerRead, h]

theorem State.answerRead_of_readable {rq : Request} {w : Who} {s : State} {t : Target} (h : s.readAccess w rq.frame = .inr t) :
    s.answerRead rq w = if t.row.ty = 14 then s.abort rq w 0x0E0B
      else if 256 < (s.valueOf w t).1.length then (s.valueOf w t).2.abort rq w 0x0E0B else (s.valueOf w t).2.respond rq w 0 t.row.ty (s.valueOf w t).1 := by
  rw [State.answerRead, h]

section
variable {rq : Request} {s : State} {w : Who} {op : Nat} {fits : Bytes → Bool} {whole : Bool}
variable (hlistens : s.listens rq.source = true) (hop : rq.frame.op = op) (hdefect : rq.defect = .none) (hversion : rq.frame.version = 1)
  (hsender : (s.countOnnum 0).sender rq = some (.inr w))
include hlistens hop hdefect hversion hsender

/-- A frame that is heard, whole and of a known sender, with a fresh SEQ, comes to the checks of its share, opcode, fields and turn. -/
theorem State.admitted_of_fresh (hfresh : (s.countOnnum 0).seqVerdict w rq.frame.seq = .fresh) : s.admitted rq op fits whole =
    if op ≠ 7 ∧ (s.countOnnum 0).shareFull w then .stop ((s.countOnnum 0).abort rq w 0x0E18)
    else if !knownOp rq.frame.op then .stop (((s.countOnnum 0).acceptSeq w rq.frame.seq).abort rq w 0x0E01)
    else if !reservedOk rq.frame ∨ !fits rq.frame.payload then .stop (((s.countOnnum 0).acceptSeq w rq.frame.seq).abort rq w 0x0E03)
    else if op ≠ 7 ∧ ((s.countOnnum 0).acceptSeq w rq.frame.seq).behind rq w then .stop (((s.countOnnum 0).acceptSeq w rq.frame.seq).queueRequest rq w whole)
    else .go w ((s.countOnnum 0).acceptSeq w rq.frame.seq) := by
  unfold State.admitted
  dsimp only
  rw [if_neg (by simp [hlistens, hop]), hdefect]
  dsimp only
  rw [if_neg (by omega), hsender]
  dsimp only
  rw [hfresh]

end

theorem State.serveRead_of_stopped {rq : Request} {s s1 : State} (h : s.admitted rq 1 (fun p => p.isEmpty) = .stop s1) : s.serveRead rq = s1 := by
  rw [State.serveRead, h]

end Sys2Proof.Machine

open Sys2Proof.Machine

/-- Settles O14: the branches of an admitted read, and the two that stop it before. -/
theorem readAnswersTheValue : Obligations.ReadAnswersTheValue := by
  refine ⟨fun rq s s1 w hadmit => ?_, fun rq s w hlistens hop hdefect hversion hsender hfresh => ?_⟩
  · have hserve := State.serveRead_of_admitted hadmit
    refine ⟨fun t hread hty hlength => settled_eq ?_, fun t hread hty hlength => settled_eq ?_, fun t hread hty => settled_eq ?_,
      fun code hread => settled_eq (hserve.trans (State.answerRead_of_refused hread))⟩
    · rw [hserve, State.answerRead_of_readable hread, if_neg hty, if_neg (by omega)]
    · rw [hserve, State.answerRead_of_readable hread, if_neg hty, if_pos hlength]
    · rw [hserve, State.answerRead_of_readable hread, if_pos hty]
  · have hadmit := State.admitted_of_fresh (fits := fun p => p.isEmpty) (whole := false) hlistens hop hdefect hversion hsender hfresh
    refine ⟨fun hfull => settled_eq (State.serveRead_of_stopped ?_), fun hroom hreserved hpayload hbehind => settled_eq (State.serveRead_of_stopped ?_)⟩
    · rw [hadmit, if_pos ⟨by decide, hfull⟩]
    · rw [hadmit, if_neg (fun h => absurd (h.2.symm.trans hroom) (by decide)), if_neg (by simp [hop, knownOp]), if_neg (by simp [hreserved, hpayload]), if_pos ⟨by decide, hbehind⟩]

end

section
/-! SUPPORT. Writes, and what follows the flash program of a SAVED one. -/

namespace Sys2Proof.Machine

theorem State.serveWriteAny_of_admitted {rq : Request} {s s1 : State} {w : Who} (h : s.admitted rq 2 (fun _ => true) = .go w s1) :
    s.serveWriteAny rq = s1.finishWrite rq w false := by
  rw [State.serveWriteAny, h]

theorem State.finishWrite_of_passed {rq : Request} {w : Who} {block : Bool} {s s2 : State} {t : Target}
    (htarget : s.writeTarget (s.elevate rq w) rq.frame block = .inr t) (hcheck : checkAny w t rq.frame.payload s = (0, s2)) :
    s.finishWrite rq w block = if t.row.per = .saved then s2.queueSave rq w t else ((commitAny w t rq.frame.payload s2).ok rq w).resetAsked := by
  rw [State.finishWrite, htarget]
  dsimp only
  rw [hcheck]
  rfl

theorem execSavedWriteProgrammed_of_oldest {s : State} {e : Saving} {rest : List Saving} (hsaving : s.svc.saving = e :: rest) (hbrace : s.power.braced = false)
    {ok : Bool} {u : State} (h : s.programmed ok e rest = u) :
    execSavedWriteProgrammed ok s = .next (s.settle u.serveAll.finishService) := by
  rw [execSavedWriteProgrammed, hsaving, hbrace, ← h]
  rfl

theorem execSavedWriteProgrammed_of_braced {s : State} (hbrace : s.power.braced = true) (ok : Bool) : execSavedWriteProgrammed ok s = .next (s.settle s) := by
  rw [execSavedWriteProgrammed]
  cases s.svc.saving with
  | nil => rfl
  | cons e rest => exact settled_eq (if_pos hbrace)

/-- The state in which the oldest write's program has ended. -/
def State.saveEnded (s : State) (e : Saving) (rest : List Saving) : State := (s.reach (e.beginNs * 2 ^ 32)).modSvc fun x => { x with saving := rest }

theorem State.programmed_of_failed (s : State) (e : Saving) (rest : List Saving) :
    s.programmed false e rest = (s.saveEnded e rest).abort e.request e.who 0x0E17 e.braced := rfl

theorem State.programmed_of_target {e : Saving} {t : Target} (htarget : e.target = some t) (s : State) (rest : List Saving) : s.programmed true e rest =
    if (checkAny e.who t e.value (s.saveEnded e rest)).1 ≠ 0 then
      (checkAny e.who t e.value (s.saveEnded e rest)).2.abort e.request e.who (checkAny e.who t e.value (s.saveEnded e rest)).1 e.braced
    else (((commitAny e.who t e.value (s.saveEnded e rest)).modRas fun x => { x with savedGen := x.savedGen + 1, savedCopy := 1 - x.savedCopy }).ok
      e.request e.who e.braced).afterSave t e.value := by
  unfold State.programmed
  rw [htarget]
  rfl

end Sys2Proof.Machine

open Sys2Proof.Machine

/-- Settles O15: the branches of a write that passes its checks, and of the end of its flash program. -/
theorem writesCommitAndAreSaved : Obligations.WritesCommitAndAreSaved := by
  refine ⟨fun rq s s1 s2 w t hadmit htarget hcheck => ?_, fun s e rest t hsaving hbrace => ?_, fun s ok hbrace => execSavedWriteProgrammed_of_braced hbrace ok⟩
  · have hwrite := (State.serveWriteAny_of_admitted hadmit).trans (State.finishWrite_of_passed htarget hcheck)
    refine ⟨fun hper => settled_eq (congrArg State.finishService ?_), fun hper => settled_eq (congrArg State.finishService ?_)⟩
    · rw [hwrite, if_neg hper]
    · rw [hwrite, if_pos hper]
  · refine ⟨fun htarget hcheck => execSavedWriteProgrammed_of_oldest hsaving hbrace ?_, fun htarget hcheck => execSavedWriteProgrammed_of_oldest hsaving hbrace ?_,
      execSavedWriteProgrammed_of_oldest hsaving hbrace rfl⟩
    · exact (State.programmed_of_target htarget s rest).trans (if_neg (not_not_intro hcheck))
    · exact (State.programmed_of_target htarget s rest).trans (if_pos hcheck)

end

section
/-! SUPPORT. Subscriptions: what an answer leaves of them, and what each of their commands does. -/

namespace Sys2Proof.Machine

theorem State.respond_subs (rq : Request) (w : Who) (status typ : Nat) (v : Bytes) (s : State) (b : Bool) :
    (s.respond rq w status typ v b).svc.subs = s.svc.subs ∧ (s.respond rq w status typ v b).svc.nextSub = s.svc.nextSub := by
  rw [State.respond_svc]
  exact ⟨rfl, rfl⟩

section
variable {rq : Request} {s s1 : State} {w : Who} {t : Target}

theorem State.serveSubscribe_of_admitted (h : s.admitted rq 5 (fun p => p.length == 8 && ofBE (slice p 1 3) == 0) = .go w s1) :
    s.serveSubscribe rq = s1.answerSubscribe rq w := by
  rw [State.serveSubscribe, h]

/-- The subscription that a SUBSCRIBE of mode 2 makes. -/
def State.timedSub (s : State) (rq : Request) (w : Who) (t : Target) : Subscription :=
  { id := s.svc.nextSub, who := w, part := t.part, index := t.index, sub := t.sub, typ := t.row.ty, mode := 2, periodUs := ofBE (rq.frame.payload.drop 4), last := [] }

variable (hfind : s.find w rq.frame.index rq.frame.sub = .inr t) (hread : t.row.rd = true) (htype : rq.frame.typ = 0 ∨ rq.frame.typ = t.row.ty)
include hfind hread htype

theorem State.answerSubscribe_of_new (hmode : ofBE (rq.frame.payload.take 1) = 2) (hok : modeOk 2 (ofBE (rq.frame.payload.drop 4)) t = true)
    (hnew : s.subOf w t = none) (hroom : s.subsFull w = false) : s.answerSubscribe rq w =
    (s.modSvc fun x => { x with subs := x.subs ++ [s.timedSub rq w t], nextSub := s.svc.nextSub + 1 }).respond rq w 0 0 (be 4 s.svc.nextSub) := by
  unfold State.answerSubscribe
  dsimp only
  rw [hfind, hmode]
  dsimp only
  rw [if_neg (by simp [hread]), if_neg fun h => htype.elim h.1 h.2, hok, hnew, hroom]
  rfl

theorem State.answerSubscribe_of_mode0 (hmode : ofBE (rq.frame.payload.take 1) = 0) : s.answerSubscribe rq w =
    (s.modSvc fun x => { x with subs := x.subs.filter fun e => some e.id != (s.subOf w t).map (·.id) }).respond rq w 0 0
      (be 4 (((s.subOf w t).map (·.id)).getD 0)) := by
  unfold State.answerSubscribe
  dsimp only
  rw [hfind, hmode]
  dsimp only
  rw [if_neg (by simp [hread]), if_neg fun h => htype.elim h.1 h.2]
  rfl

end

theorem execSubscriptionPeriod_of_timed {id : Nat} {s : State} {e : Subscription} (hfind : (s.pullSignals.svc.subs.find? fun e => e.id == id) = some e)
    (hmode : e.mode = 2) (hroom : e.unanswered.length < 16) : execSubscriptionPeriod id s =
    .next (s.settle (((s.pullSignals.subValue e).2.modSub e.id fun x => { x with held := none, last := (s.pullSignals.subValue e).1 }).notify e 0
      ((s.pullSignals.subValue e).1.take notifyRoom))) := by
  unfold execSubscriptionPeriod
  dsimp only
  rw [hfind]
  dsimp only
  rw [if_neg (by omega), if_neg (by omega)]
  exact settled_eq (if_neg (by omega))

theorem State.serveNotify_of_response {rq : Request} {s : State} {w : Who} (hlistens : s.listens rq.source = true) (hop : rq.frame.op = 6)
    (hresponse : notifyResponse rq = true) (hversion : rq.frame.version = 1) (hdefect : rq.defect = .none)
    (hsender : (s.countOnnum 0).sender rq = some (.inr w)) : s.serveNotify rq = ((s.countOnnum 0).heard w).answered w.owner rq.frame.seq := by
  have hflag : rq.frame.response = true := by
    simp only [notifyResponse, Bool.and_eq_true] at hresponse
    obtain ⟨⟨⟨⟨hflag, _⟩, _⟩, _⟩, _⟩ := hresponse
    exact hflag
  unfold State.serveNotify
  dsimp only
  rw [hflag, if_neg (by decide), if_neg (by simp [hlistens, hop]), hdefect]
  dsimp only
  rw [if_neg (by omega), hsender]
  dsimp only
  rw [if_pos hresponse]

/-- No notification of the owner's with that SEQ is unanswered any more. -/
theorem State.answered_unanswered (s : State) (o : Owner) (seq : Nat) :
    ∀ e ∈ (s.answered o seq).svc.subs, e.who.owner = o → ∀ y ∈ e.unanswered, y.seq ≠ seq := by
  intro e he howner y hy
  obtain ⟨x, _, rfl⟩ := List.mem_map.mp he
  by_cases hx : x.who.owner = o
  · rw [if_pos hx] at hy
    simpa using (List.mem_filter.mp hy).2
  · rw [if_neg hx] at howner
    exact absurd howner hx

/-- What the timer of an unanswered notification does: nothing after three sendings. -/
theorem execNotifyResendTimer_of_unanswered {id seq : Nat} {s : State} {e : Subscription} {u : Unanswered}
    (he : (s.svc.subs.find? fun e => e.id == id) = some e) (hu : (e.unanswered.find? fun u => u.seq == seq) = some u) :
    execNotifyResendTimer id seq s = settled s (if 3 ≤ u.attempts then s else (s.sendNotify e.who u.frame).2.modSub id fun x =>
      { x with unanswered := x.unanswered.map fun y => if y.seq = seq then { y with attempts := y.attempts + 1, pos := u.pos.or (s.sendNotify e.who u.frame).1 } else y }) := by
  unfold execNotifyResendTimer
  rw [he]
  dsimp only
  rw [hu]

theorem execSubscriptionDropped_of_stuck {id : Nat} {s : State} {e : Subscription} (he : (s.svc.subs.find? fun e => e.id == id) = some e) (hmode : e.mode = 3)
    (hfull : 16 ≤ e.unanswered.length) : execSubscriptionDropped id s =
    .next (s.settle ((s.notify e 0x0E1B []).modSvc fun x => { x with subs := x.subs.filter fun y => y.id != id })) := by
  unfold execSubscriptionDropped
  rw [he]
  exact settled_eq (if_neg (by omega))

end Sys2Proof.Machine

open Sys2Proof.Machine

/-- Settles O17: each command of a subscription, by the lemma that says what it does. -/
theorem subscriptionsNotifyAndEnd : Obligations.SubscriptionsNotifyAndEnd := by
  refine ⟨fun rq s s1 w t hadmit hfind hread htype hmode hok hnew hroom => ?_, fun rq s s1 w t hadmit hfind hread htype hmode => ?_,
    fun id s e hfind hmode hroom => execSubscriptionPeriod_of_timed hfind hmode hroom,
    fun rq s w hlistens hop hresponse hversion hdefect hsender =>
      ⟨_, settled_eq (State.serveNotify_of_response hlistens hop hresponse hversion hdefect hsender), State.answered_unanswered _ w.owner rq.frame.seq⟩,
    fun id seq s e u he hu => ⟨fun hfew => ?_, fun hspent => ?_⟩, fun id s e he hmode hfull => ⟨_, execSubscriptionDropped_of_stuck he hmode hfull, ?_, rfl⟩⟩
  · have hsubs := State.respond_subs rq w 0 0 (be 4 s1.svc.nextSub) (s1.modSvc fun x => { x with subs := x.subs ++ [s1.timedSub rq w t], nextSub := s1.svc.nextSub + 1 }) false
    obtain ⟨hsubs, hnext⟩ := hsubs
    refine ⟨_, settled_eq ((State.serveSubscribe_of_admitted hadmit).trans (State.answerSubscribe_of_new hfind hread htype hmode hok hnew hroom)), ?_, hnext,
      s1.timedSub rq w t, ?_, rfl, rfl, rfl, rfl, rfl, rfl⟩
    · exact State.mem_respond_sent rq w 0 0 _ (s1.modSvc _) false
    · rw [State.settle_svc, hsubs]
      exact List.mem_append_right _ (List.mem_singleton_self _)
  · refine ⟨_, settled_eq ((State.serveSubscribe_of_admitted hadmit).trans (State.answerSubscribe_of_mode0 hfind hread htype hmode)), fun e he x hx => ?_⟩
    rw [State.settle_svc, (State.respond_subs ..).1, he] at hx
    simpa using (List.mem_filter.mp hx).2
  · exact (execNotifyResendTimer_of_unanswered he hu).trans (settled_eq (if_neg (by omega)))
  · exact (execNotifyResendTimer_of_unanswered he hu).trans (settled_eq (if_pos hspent))
  · intro x hx
    simpa using (List.mem_filter.mp hx).2

end

section
/-! SUPPORT. Sessions: what SESSION_OPEN and SESSION_CLOSE do once they are admitted, and how a session ends. -/

namespace Sys2Proof.Machine

/-- A frame without a tag is sent as it is. -/
theorem State.sign_of_untagged {f : Frame} (h : f.flags.testBit 2 = false) (s : State) : s.sign f = f := by
  rw [State.sign, h]
  rfl

theorem Who.tagged_of_anon {w : Who} (h : w.isAnon = true) : w.tagged = false := by
  unfold Who.isAnon at h
  unfold Who.tagged
  cases howner : w.owner with
  | session id => rw [howner] at h; cases h
  | _ => rfl

/-- An answer without a tag stands among what the part has sent. -/
theorem State.mem_respond_sent_untagged {w : Who} (h : w.tagged = false) (rq : Request) (status typ : Nat) (v : Bytes) (s : State) (b : Bool) :
    Sent.frame rq.source (responseTo rq.frame w.tagged status typ v) ∈ (s.respond rq w status typ v b).sent := by
  have hsent := State.mem_respond_sent rq w status typ v s b
  rwa [State.sign_of_untagged (by rw [h]; exact Nat.zero_testBit 2)] at hsent

theorem State.respond_nextSession (rq : Request) (w : Who) (status typ : Nat) (v : Bytes) (s : State) (b : Bool) :
    (s.respond rq w status typ v b).svc.nextSession = s.svc.nextSession := by
  rw [State.respond_svc]

/-- An answer to a sender that holds no session changes no session. -/
theorem State.respond_sessions_of_anon {w : Who} (h : w.isAnon = true) (rq : Request) (status typ : Nat) (v : Bytes) (s : State) (b : Bool) :
    (s.respond rq w status typ v b).svc.sessions = s.svc.sessions := by
  unfold Who.isAnon at h
  unfold State.respond State.keep State.timeOnnum State.deliver
  dsimp only
  cases howner : w.owner with
  | anon _ => split <;> split <;> rfl
  | _ => rw [howner] at h; cases h

theorem Service.streamRecord_sessions (index : Nat) (l : Log) (r : LogRec) (x : Service) : (x.streamRecord index l r).sessions = x.sessions := by
  unfold Service.streamRecord
  split <;> rfl

theorem State.abort_session_ids (rq : Request) (w : Who) (code : Nat) (s : State) (b : Bool) :
    (s.abort rq w code b).svc.sessions.map (·.id) = s.svc.sessions.map (·.id) := by
  have hlog : (s.abort rq w code b).svc.sessions = (s.respond rq w code 0 [] b).svc.sessions := by
    simp only [State.abort, State.logViolation_svc, Service.streamRecord_sessions]
    rfl
  have hids := congrArg (List.map Prod.fst) (State.respond_sessions rq w code 0 [] s b)
  rw [List.map_map, List.map_map] at hids
  rw [hlog]
  exact hids

section
variable {rq : Request} {s s1 : State} {w : Who} {k : Bytes}

theorem State.serveOpen_of_admitted (h : s.admitted rq 0x10 openPayload = .go w s1) : s.serveOpen rq = s1.answerOpen rq w := by
  rw [State.serveOpen, h]

/-- The tenant whose session a SESSION_OPEN asks for. -/
def openTenant (p : Bytes) : Option Nat := if ofBE (p.take 1) = 1 then some (ofBE (slice p 1 1)) else none

/-- What a SESSION_OPEN signs of its answer: the session's identity and the part's public key. -/
def State.openHead (s : State) : Bytes := be 4 s.svc.nextSession ++ publicBytes s.drawScalar.1

/-- The session that a SESSION_OPEN opens. -/
def State.openedSession (s : State) (rq : Request) : Session :=
  { id := s.svc.nextSession, source := rq.source, tenant := openTenant rq.frame.payload, credential := ofBE (slice rq.frame.payload 4 4), lastFrameNs := s.nowNs,
    key := sessionKey s.drawScalar.1 (slice rq.frame.payload 8 97) (slice rq.frame.payload 8 97) (publicBytes s.drawScalar.1) }

variable (hanon : w.isAnon = true) (hkey : s.openKey (ofBE (rq.frame.payload.take 1)) (ofBE (slice rq.frame.payload 1 1)) (ofBE (slice rq.frame.payload 4 4)) = some k)
include hanon hkey

theorem State.answerOpen_of_verified (hgood : Config.verifies k (rq.frame.payload.take 105) (rq.frame.payload.drop 105) = true)
    (hroom : s.sessionsFull (openTenant rq.frame.payload) = false) : s.answerOpen rq w =
    ((s.drawScalar.2.identitySign (rq.frame.payload ++ s.openHead)).2.modSvc fun x =>
      { x with sessions := x.sessions ++ [s.openedSession rq], nextSession := s.svc.nextSession + 1 }).respond rq w 0 0
        (s.openHead ++ (s.drawScalar.2.identitySign (rq.frame.payload ++ s.openHead)).1) := by
  unfold openTenant at hroom
  unfold State.answerOpen
  dsimp only
  rw [hkey, if_neg (by simp [hanon]), if_neg (by simp [hgood]), if_neg (by simp [hroom])]
  rfl

theorem State.answerOpen_of_unverified (hbad : Config.verifies k (rq.frame.payload.take 105) (rq.frame.payload.drop 105) = false) :
    s.answerOpen rq w = s.abort rq w 0x0E06 := by
  unfold State.answerOpen
  dsimp only
  rw [hkey, if_neg (by simp [hanon]), if_pos (by simp [hbad])]

end

theorem State.serveClose_of_session {rq : Request} {s s1 : State} {w : Who} {id : Nat} (hadmit : s.admitted rq 0x11 (fun p => p.isEmpty) = .go w s1)
    (howner : w.owner = .session id) : s.serveClose rq = (s1.ok rq w).closeSession id := by
  unfold State.serveClose State.answerClose
  rw [hadmit]
  dsimp only
  rw [howner]

theorem execSessionIdleTimeout_of_session {id : Nat} {s : State} {e : Session} (he : (s.svc.sessions.find? fun e => e.id == id) = some e) :
    execSessionIdleTimeout id s = .next (s.settle ((s.reach ((e.lastFrameNs + s.cfg 0x1250 3 * 1000000000) * 2 ^ 32)).closeSession id)) := by
  rw [execSessionIdleTimeout, he]
  rfl

theorem State.closeSession_gone (id : Nat) (s : State) : ∀ e ∈ (s.closeSession id).svc.sessions, e.id ≠ id := by
  intro e he
  simpa using (List.mem_filter.mp he).2

end Sys2Proof.Machine

open Sys2Proof.Machine

/-- Settles O18: a SESSION_OPEN by whether its signature verifies, and the two ways a session closes. -/
theorem sessionsOpenAndClose : Obligations.SessionsOpenAndClose := by
  refine ⟨fun rq s s1 w k hadmit hanon hkey hroom => ?_, fun rq s s1 w id hadmit howner => settled_eq (State.serveClose_of_session hadmit howner),
    fun id s e he => execSessionIdleTimeout_of_session he, State.closeSession_gone⟩
  have hserve := State.serveOpen_of_admitted hadmit
  cases hverify : Sys2Proof.Config.verifies k (rq.frame.payload.take 105) (rq.frame.payload.drop 105) with
  | true =>
    refine ⟨_, settled_eq (hserve.trans (State.answerOpen_of_verified hanon hkey hverify hroom)), ?_⟩
    rw [if_pos rfl]
    refine ⟨State.respond_nextSession .., s1.openedSession rq, ?_, rfl, rfl, rfl, rfl, s1.drawScalar.1, _, rfl,
      State.mem_respond_sent_untagged (Who.tagged_of_anon hanon) ..⟩
    rw [State.settle_svc, State.respond_sessions_of_anon hanon]
    exact List.mem_append_right _ (List.mem_singleton_self _)
  | false =>
    refine ⟨_, settled_eq (hserve.trans (State.answerOpen_of_unverified hanon hkey hverify)), ?_⟩
    rw [if_neg (by decide)]
    refine ⟨?_, State.abort_session_ids ..⟩
    rw [State.settle_sent, State.abort_sent]
    exact State.mem_respond_sent_untagged (Who.tagged_of_anon hanon) ..

end

section
/-! SUPPORT. The PCIe windows: a submission, the tail and the status. -/

namespace Sys2Proof.Machine

theorem State.submitWindow_of_pending {fn : Nat} {s : State} (hfn : fn < 9) (hlistens : s.listens (.pcie fn) = true)
    (hpending : (s.svc.windows.getD fn {}).reqPending = true) (length : Nat) (f : Frame) (tagOk : Bool) :
    s.submitWindow fn length f tagOk = s.logViolation 0x0E19 (if fn = 0 then 0xFF else fn - 1) (sourceCode (.pcie fn)) [] := by
  unfold State.submitWindow
  rw [if_neg (by simp [hlistens]; omega), if_pos hpending]

/-- The state in which a window has taken a frame of its function's. -/
def State.windowTaken (s : State) (fn : Nat) (f : Frame) : State :=
  s.modSvc fun x => { x with windows := x.windows.modify fn fun x => { x with reqPending := true, rspLen := 0, reqBuf := wireBytes f } }

theorem State.submitWindow_of_free {fn length : Nat} {f : Frame} {s : State} (hfn : fn < 9) (hlistens : s.listens (.pcie fn) = true)
    (hfree : (s.svc.windows.getD fn {}).reqPending = false) (hmin : 20 ≤ length) (hmax : length ≤ 4096) (hwhole : frameLength f ≤ length) (tagOk : Bool) :
    s.submitWindow fn length f tagOk =
      let s2 := (s.windowTaken fn f).serveFrame { source := .pcie fn, frame := f, tagOk := tagOk, defect := .none }
      s2.modSvc fun x => { x with windows := x.windows.modify fn fun x => { x with reqPending := s2.windowWaits fn } } := by
  have hshort : (decide (length < 20) || decide (4096 < length) || decide (length < frameLength f)) = false := by simp; omega
  unfold State.submitWindow
  rw [if_neg (by simp [hlistens]; omega), hfree]
  dsimp only
  rw [hshort]
  rfl

/-- The notifications of a function's subscriptions that a tail has passed are answered. -/
def Subscription.passTail (fn tail value bytes : Nat) (e : Subscription) : Subscription :=
  if e.who.source = .pcie fn then { e with unanswered := e.unanswered.filter fun u => !(match u.pos with
    | some n => decide ((n + bytes - tail) % bytes ≤ (value + bytes - tail) % bytes) && decide (0 < (value + bytes - tail) % bytes)
    | none => false) } else e

theorem execNotifyTail_of_tail {fn value : Nat} {s : State} (hfn : fn < 9) (hmode : 4 ≤ s.mode) (hvalue : value < (s.svc.windows.getD fn {}).ringBytes) :
    execNotifyTail fn 0x2018 value s = .next (s.settle ((s.modSvc fun y => { y with windows := y.windows.modify fn fun y => { y with tail := value } }).modSvc fun y =>
      { y with subs := y.subs.map (Subscription.passTail fn (s.svc.windows.getD fn {}).tail value (s.svc.windows.getD fn {}).ringBytes) })) := by
  unfold execNotifyTail
  dsimp only
  rw [if_neg (by omega), if_neg (by decide), if_neg (by decide), if_neg (by omega)]
  rfl

theorem execWindowStatusRead_of_served {fn : Nat} {s : State} (hfn : fn < 9) (hmode : 4 ≤ s.mode) : execWindowStatusRead fn s =
    .next (s.settle ((s.modSvc fun y => { y with windows := y.windows.modify fn fun z => { z with overflow := false } }).send
      (.pcieRead fn (le 4 (b01 (s.svc.windows.getD fn {}).reqPending + 2 * b01 (s.svc.windows.getD fn {}).overflow))))) :=
  settled_eq (if_neg (by omega))

end Sys2Proof.Machine

open Sys2Proof.Machine

/-- Settles O19: what each register of a window does, and the requests held to the next second. -/
theorem windowServesRequests : Obligations.WindowServesRequests := by
  refine ⟨fun fn length f tagOk s hfn hlistens => ⟨fun hpending => ?_, fun hfree hmin hmax hwhole => ?_⟩,
    fun fn value s hwindow hfn hmode hvalue => ⟨_, execNotifyTail_of_tail hfn hmode hvalue, ?_, rfl⟩,
    fun fn s hwindow hfn hmode => ⟨_, execWindowStatusRead_of_served hfn hmode, ?_, ?_⟩, fun s => rfl⟩
  · exact settled_eq (congrArg State.finishService (State.submitWindow_of_pending hfn hlistens hpending ..))
  · exact settled_eq (congrArg State.finishService (State.submitWindow_of_free hfn hlistens hfree hmin hmax hwhole _))
  · exact congrArg Window.tail (getD_modify_self hwindow (fun y => { y with tail := value }) {})
  · exact congrArg Window.overflow (getD_modify_self hwindow (fun z => { z with overflow := false }) {})
  · rw [State.settle_sent, State.send_sent]
    simp

end

section
/-! SUPPORT. Completion of a stroke: what lands, and what everything after it leaves of the memories, of the submission and of the running strokes. -/

namespace Sys2Proof.Machine

/-! ### What stands in the memories and the objects -/

/-- A slot's three memories. -/
def Slot.mems (x : Slot) : List Host.Cell × List Host.Cell × List Host.Cell := (x.spad, x.acc, x.stream)

/-- The three memories of every slot, and the objects. -/
def State.stored (s : State) : List (List Host.Cell × List Host.Cell × List Host.Cell) × List Obj := (s.slots.map Slot.mems, s.objects)

theorem State.stored_slot {s t : State} (h : s.stored = t.stored) (n : Nat) :
    (s.slot n).spad = (t.slot n).spad ∧ (s.slot n).acc = (t.slot n).acc ∧ (s.slot n).stream = (t.slot n).stream := by
  have hslot : ∀ u : State, (u.slot n).mems = u.stored.1.getD n (Slot.mems { state := 4 }) := fun u => by
    simp only [State.slot, State.stored, List.getD_eq_getElem?_getD, List.getElem?_map]
    cases u.slots[n]? <;> rfl
  have heq : (s.slot n).mems = (t.slot n).mems := (hslot s).trans ((congrArg (fun m => m.1.getD n (Slot.mems { state := 4 })) h).trans (hslot t).symm)
  simpa [Slot.mems] using heq

theorem modify_map_congr {α β : Type} {g : α → β} {f : α → α} {f' : β → β} (h : ∀ x, g (f x) = f' (g x)) (l : List α) (n : Nat) :
    (l.modify n f).map g = (l.map g).modify n f' := by
  induction l generalizing n with
  | nil => cases n <;> rfl
  | cons a l ih => cases n with
    | zero => simp [h]
    | succ n => simp [ih]

theorem State.modSlot_stored_congr {s t : State} (h : s.stored = t.stored) (n : Nat) {f : Slot → Slot}
    (f' : List Host.Cell × List Host.Cell × List Host.Cell → List Host.Cell × List Host.Cell × List Host.Cell) (hf : ∀ x, (f x).mems = f' x.mems) :
    (s.modSlot n f).stored = (t.modSlot n f).stored := by
  obtain ⟨hmems, hobjects⟩ := Prod.mk.inj h
  refine Prod.ext ?_ hobjects
  exact (modify_map_congr hf s.slots n).trans ((congrArg (fun l => l.modify n f') hmems).trans (modify_map_congr hf t.slots n).symm)

/-- Equal memories and objects are equal after the same write. -/
theorem State.applyWrite_stored_congr {s t : State} (h : s.stored = t.stored) (w : Write) : (s.applyWrite w).stored = (t.applyWrite w).stored := by
  unfold State.applyWrite
  split
  · exact State.modSlot_stored_congr h _ (fun m => (memWrite m.1 w.addr w.bytes, m.2)) fun _ => rfl
  · exact State.modSlot_stored_congr h _ (fun m => (m.1, memWrite m.2.1 w.addr w.bytes, m.2.2)) fun _ => rfl
  · exact State.modSlot_stored_congr h _ (fun m => (m.1, m.2.1, memWrite m.2.2 w.addr w.bytes)) fun _ => rfl
  · obtain ⟨hmems, hobjects⟩ := Prod.mk.inj h
    refine Prod.ext hmems ?_
    simp only [State.stored, State.modObj, hobjects]
  · exact h

theorem State.cacheAccess_eq (p : Nat) (o : Obj) (write noAlloc : Bool) (s : State) (i : Nat) :
    s.cacheAccess p o write noAlloc i = { s with tiers := (s.cacheAccess p o write noAlloc i).tiers } := by
  unfold State.cacheAccess
  dsimp only
  split
  · rfl
  · split
    · rfl
    · split <;> rfl

theorem State.cacheSpan_keeps {γ : Type} (φ : State → γ) (h : ∀ s x, φ { s with tiers := x } = φ s) (s : State) (p : Nat) (o : Obj) (off len : Nat)
    (write noAlloc : Bool) : φ (s.cacheSpan p o off len write noAlloc) = φ s := by
  unfold State.cacheSpan
  split
  · rfl
  · exact foldl_keeps φ (fun s i => by rw [State.cacheAccess_eq]; exact h s _) _ s

/-- What lands is what the writes leave: the cache that the landing goes through is beside the memories. -/
theorem State.land_stored {s t : State} (h : s.stored = t.stored) (p : Nat) (ws : List Write) :
    (s.land p ws).stored = (ws.foldl (fun s w => s.applyWrite w) t).stored := by
  unfold State.land
  induction ws generalizing s t with
  | nil => exact h
  | cons w ws ih =>
    rw [List.foldl_cons, List.foldl_cons]
    refine ih ?_
    dsimp only
    split
    · rw [State.cacheSpan_keeps State.stored (fun _ _ => rfl)]
      exact State.applyWrite_stored_congr h w
    · exact State.applyWrite_stored_congr h w

theorem State.applyWrite_parts (s : State) (w : Write) : (s.applyWrite w).parts = s.parts := by
  unfold State.applyWrite
  split <;> rfl

theorem State.land_parts (s : State) (p : Nat) (ws : List Write) : (s.land p ws).parts = s.parts := by
  unfold State.land
  refine foldl_keeps State.parts (fun s w => ?_) ws s
  dsimp only
  split
  · rw [State.cacheSpan_keeps State.parts (fun _ _ => rfl), State.applyWrite_parts]
  · exact State.applyWrite_parts s w

/-! ### What the work after the landing keeps -/

/-- How far a core's part of a flight has come. -/
def Flight.progress (f : Flight) (core : Nat) : Option (Nat × Bool) := (f.run? core).map fun x => (x.steps, x.ended)

/-- How far a core's part of the context's submission has come. -/
def State.progress (s : State) (p c core : Nat) : Option (Nat × Bool) := (s.ctx p c).flight.bind (·.progress core)

/-- From s to t the memories, the objects and the core's progress are kept, and no stroke begins to run. -/
def KeepsWork (p c core : Nat) (s t : State) : Prop :=
  t.stored = s.stored ∧ t.progress p c core = s.progress p c core ∧ (t.part p).running ⊆ (s.part p).running

section
variable {p c core : Nat}

theorem KeepsWork.refl (s : State) : KeepsWork p c core s s := ⟨rfl, rfl, fun _ h => h⟩

theorem KeepsWork.trans {s t u : State} (h : KeepsWork p c core s t) (h' : KeepsWork p c core t u) : KeepsWork p c core s u := by
  obtain ⟨hstored, hprogress, hrunning⟩ := h
  obtain ⟨hstored', hprogress', hrunning'⟩ := h'
  exact ⟨hstored'.trans hstored, hprogress'.trans hprogress, fun _ hx => hrunning (hrunning' hx)⟩

theorem KeepsWork.foldl {β : Type} {g : State → β → State} (h : ∀ s b, KeepsWork p c core s (g s b)) (l : List β) (s : State) :
    KeepsWork p c core s (l.foldl g s) := by
  induction l generalizing s with
  | nil => exact .refl s
  | cons b l ih => exact (h s b).trans (ih _)

theorem KeepsWork.of_parts {s t : State} (hparts : t.parts = s.parts) (hstored : t.stored = s.stored) : KeepsWork p c core s t := by
  refine ⟨hstored, ?_, ?_⟩
  · simp only [State.progress, State.ctx, State.part, hparts]
  · simp only [State.part, hparts]
    exact fun _ h => h

theorem KeepsWork.modSlot (s : State) (n : Nat) {f : Slot → Slot} (h : ∀ x, (f x).mems = x.mems) :
    KeepsWork p c core s (s.modSlot n f) := by
  refine .of_parts rfl (Prod.ext ?_ rfl)
  refine (modify_map_congr (f' := id) h s.slots n).trans ?_
  rw [List.modify_id]
  rfl

theorem KeepsWork.modPart (s : State) (q : Nat) {f : Partition → Partition} (hctxs : ∀ x, (f x).ctxs = x.ctxs) (hrunning : ∀ x, (f x).running ⊆ x.running) :
    KeepsWork p c core s (s.modPart q f) := by
  rcases Nat.lt_or_ge q s.parts.length with hlt | hge
  · by_cases hq : q = p
    · subst hq
      refine ⟨rfl, ?_, ?_⟩
      · rw [State.progress, State.ctx, State.modPart_part_self hlt, hctxs]
        rfl
      · rw [State.modPart_part_self hlt]
        exact hrunning _
    · refine ⟨rfl, ?_, ?_⟩
      · rw [State.progress, State.ctx, State.modPart_part_ne s hq]
        rfl
      · rw [State.modPart_part_ne s hq]
        exact fun _ h => h
  · rw [State.modPart_of_ge hge]
    exact .refl s

theorem State.modCtx_running (s : State) (q k : Nat) (f : Context → Context) (p : Nat) : ((s.modCtx q k f).part p).running = (s.part p).running := by
  unfold State.modCtx
  rcases Nat.lt_or_ge q s.parts.length with hlt | hge
  · by_cases hq : q = p
    · subst hq
      rw [State.modPart_part_self hlt]
    · rw [State.modPart_part_ne s hq]
  · rw [State.modPart_of_ge hge]

theorem KeepsWork.modCtx (s : State) (q k : Nat) {f : Context → Context} (h : ∀ x, (f x).flight.bind (·.progress core) = x.flight.bind (·.progress core)) :
    KeepsWork p c core s (s.modCtx q k f) := by
  refine ⟨rfl, State.modCtx_ctx_keeps (fun x => x.flight.bind (·.progress core)) h s q k p c, ?_⟩
  rw [State.modCtx_running]
  exact fun _ h => h

theorem KeepsWork.modFlight (s : State) (q k : Nat) {f : Flight → Flight} (h : ∀ x, (f x).progress core = x.progress core) :
    KeepsWork p c core s (s.modFlight q k f) := by
  refine .modCtx s q k fun x => ?_
  cases x.flight with
  | none => rfl
  | some y => exact h y

/-- A change of every core's run that keeps its core, steps and end keeps the progress. -/
theorem Flight.progress_map (x : Flight) {g : CoreRun → CoreRun} (h : ∀ r, (g r).core = r.core ∧ (g r).steps = r.steps ∧ (g r).ended = r.ended) :
    Flight.progress { x with cores := x.cores.map g } core = x.progress core := by
  have hrun : Flight.run? { x with cores := x.cores.map g } core = (x.run? core).map g := by
    unfold Flight.run?
    rw [List.find?_map]
    congr 2
    exact funext fun r => by rw [Function.comp_apply, (h r).1]
  unfold Flight.progress
  rw [hrun, Option.map_map]
  congr 1
  exact funext fun r => by rw [Function.comp_apply, (h r).2.1, (h r).2.2]

theorem KeepsWork.modRun (s : State) (q k core' : Nat) {f : CoreRun → CoreRun} (h : ∀ r, (f r).core = r.core ∧ (f r).steps = r.steps ∧ (f r).ended = r.ended) :
    KeepsWork p c core s (s.modRun q k core' f) := by
  refine .modFlight s q k fun x => Flight.progress_map x fun r => ?_
  split
  · exact h r
  · exact ⟨rfl, rfl, rfl⟩

theorem KeepsWork.capture (s : State) (region kind : Nat) (payload : Bytes) : KeepsWork p c core s (s.capture region kind payload) :=
  .of_parts (by rw [State.capture_parts]) (by simp only [State.stored, State.capture_slots, State.capture_objects])

theorem KeepsWork.free (s : State) : KeepsWork p c core s s.free.2 := .of_parts rfl rfl

theorem KeepsWork.countPart (s : State) (q i n : Nat) : KeepsWork p c core s (s.countPart q i n) := .modPart s q (fun _ => rfl) fun _ _ h => h

theorem KeepsWork.countFree (s : State) (q n : Nat) (k : List Nat × List Nat) : KeepsWork p c core s (s.countFree q n k) := by
  unfold State.countFree
  refine KeepsWork.trans (.trans (.free s) (.foldl (fun s i => .countPart s q i _) k.1 _)) (.foldl (fun s i => ?_) k.2 _)
  exact .modSlot s n fun _ => rfl

theorem KeepsWork.countFlits (s : State) (q n : Nat) : KeepsWork p c core s (s.countFlits q n) := by
  unfold State.countFlits
  exact KeepsWork.trans (.of_parts rfl rfl) (.countFree _ q n _)

theorem KeepsWork.stall (s : State) (q cause k : Nat) : KeepsWork p c core s (s.stall q cause k) := by
  unfold State.stall
  refine KeepsWork.trans (.trans (.free s) ?_) (.capture ..)
  exact .modPart _ q (fun _ => rfl) fun _ _ h => h

theorem KeepsWork.countWork (s : State) (q : Nat) (r : Running) : KeepsWork p c core s (s.countWork q r) := by
  unfold State.countWork
  split
  · exact .refl s
  · refine KeepsWork.trans ?_ (.foldl (fun s w => ?_) _ _)
    · split
      · exact KeepsWork.trans (.foldl (fun s k => .countFree s q _ k) _ s) (.countFlits ..)
      · exact .foldl (fun s k => .countFree s q _ k) _ s
    · dsimp only
      split
      · exact (KeepsWork.free s).trans (.stall ..)
      · exact .free s

theorem KeepsWork.orderPublish (s : State) (q : Nat) (r : Running) : KeepsWork p c core s (s.orderPublish q r) := by
  unfold State.orderPublish
  split
  · exact .refl s
  · split
    · exact .refl s
    · exact .modFlight s q r.ctx fun _ => rfl

theorem KeepsWork.modLayer (s : State) (q k layer : Nat) (f : LayerStat → LayerStat) : KeepsWork p c core s (s.modLayer q k layer f) := .modCtx s q k fun _ => rfl

theorem KeepsWork.recordLayer (s : State) (q k core' layer out reason : Nat) : KeepsWork p c core s (s.recordLayer q k core' layer out reason) := by
  unfold State.recordLayer
  refine KeepsWork.trans (.trans ?_ (.modRun _ q k core' ?_)) (.modFlight _ q k ?_)
  · split
    · exact .refl s
    · exact .modLayer ..
    · exact .modLayer ..
  · exact fun _ => ⟨rfl, rfl, rfl⟩
  · exact fun _ => rfl

theorem KeepsWork.decideLayer (s : State) (q k core' layer : Nat) : KeepsWork p c core s (s.decideLayer q k core' layer) := by
  unfold State.decideLayer
  split
  · split
    · exact .refl s
    · exact .recordLayer ..
  · exact .refl s

theorem KeepsWork.timedEvaluation (s : State) (q k core' layer : Nat) : KeepsWork p c core s (s.timedEvaluation q k core' layer) := by
  unfold State.timedEvaluation
  split
  · split
    · exact .refl s
    · dsimp only
      split
      · exact .refl s
      · exact .decideLayer ..
  · exact .refl s

theorem KeepsWork.countLayer (s : State) (q : Nat) (r : Running) : KeepsWork p c core s (s.countLayer q r) := by
  unfold State.countLayer
  split
  · exact .refl s
  · refine KeepsWork.trans (.trans (.modRun s q r.ctx r.core ?_) (.modLayer ..)) (.timedEvaluation ..)
    exact fun _ => ⟨rfl, rfl, rfl⟩

theorem KeepsWork.stopFlight (s : State) (q k code core' idx : Nat) : KeepsWork p c core s (s.stopFlight q k code core' idx) := by
  unfold State.stopFlight
  refine KeepsWork.trans (.modFlight s q k ?_) (.modPart _ q ?_ ?_)
  · exact fun x => Flight.progress_map x fun _ => ⟨rfl, rfl, rfl⟩
  · exact fun _ => rfl
  · exact fun _ _ h => (List.mem_filter.mp h).1

theorem KeepsWork.addToken (s : State) (q slot k i : Nat) (signaller : Option (Nat × Nat)) : KeepsWork p c core s (s.addToken q slot k i signaller) := by
  unfold State.addToken
  split
  · exact .modSlot s slot fun _ => rfl
  · exact .stopFlight ..

theorem KeepsWork.wideEnd (s : State) (q k core' : Nat) : KeepsWork p c core s (s.wideEnd q k core') := by
  unfold State.wideEnd
  split
  · split
    · exact .refl s
    · split
      · exact .refl s
      · dsimp only
        split
        · exact .refl s
        · refine KeepsWork.trans (.recordLayer ..) (.modRun _ q k core' ?_)
          exact fun _ => ⟨rfl, rfl, rfl⟩
  · exact .refl s

theorem KeepsWork.endEvaluation (s : State) (q k core' : Nat) : KeepsWork p c core s (s.endEvaluation q k core') := by
  unfold State.endEvaluation
  split
  · split
    · exact .refl s
    · refine KeepsWork.foldl (fun t e => ?_) _ s
      exact KeepsWork.decideLayer t q k core' e.1
  · exact .refl s

end

/-! ### The completion in its parts -/

/-- The stroke runs no longer, its work is counted and its results land. -/
def State.strokeLanded (p : Nat) (r : Running) (s : State) : State := ((s.modPart p fun x => { x with running := x.running.erase r }).countWork p r).land p r.writes

/-- The submission's flags and layers take what the stroke counted. -/
def State.strokeCounted (p : Nat) (r : Running) (s : State) : State :=
  ((s.orderPublish p r).modFlight p r.ctx fun f =>
    { f with flags := f.flags.join { r.flags with satCount := if satCheck [r.word0] then r.flags.satCount else 0 }, marks := f.marks ||| r.marks }).countLayer p r

/-- The core that a stroke signals from, where the counter is of its own context. -/
def Running.signaller (r : Running) (c : Nat) : Option (Nat × Nat) := if c = r.ctx then some (r.core, r.stroke) else none

/-- A slot's completion is signalled and counted, and traced where it is sampled. -/
def State.slotCompletes (p : Nat) (r : Running) (n : Nat) (s : State) : State :=
  let s := if signalEn [r.word0] then s.addToken p n r.ctx (signalToken [r.word0]) (r.signaller r.ctx) else s
  let k := (s.slot n).completions
  let s := s.modSlot n fun x => { x with completions := x.completions + 1 }
  if k % 2 ^ s.area p 0x70 2 = 0 then
    let t := s.free
    let u := t.2.free
    u.2.capture p 4 ([byteOf r.ctx, byteOf r.core, byteOf (opcodeOf [r.word0]), 0] ++ le 4 r.stroke ++ le 4 (t.1 % 2 ^ 32) ++ le 4 (u.1 % 2 ^ 32))
  else s

/-- The completion at the slot of the stroke's core. -/
def State.coreCompletes (p : Nat) (r : Running) (s : State) : State := match s.slotOf p r.core with
  | some n => s.slotCompletes p r n
  | none => s

/-- What a completed stroke signals, and what ends with it. -/
def State.strokeSignals (p : Nat) (r : Running) (s : State) : State :=
  let s := ((r.signals.foldl (fun s k => s.addToken p k.1 k.2.1 k.2.2 (r.signaller k.2.1)) s).coreCompletes p r).wideEnd p r.ctx r.core
  if opcodeOf [r.word0] = 0x3F then s.endEvaluation p r.ctx r.core else s

/-- A core's run once a stroke of it has ended. -/
def CoreRun.after (r : Running) (x : CoreRun) : CoreRun := { x with steps := x.steps + b01 (isLast [r.word0]), ended := x.ended || opcodeOf [r.word0] == 0x3F }

theorem State.finishStroke_eq (p : Nat) (r : Running) (s : State) :
    s.finishStroke p r = (((s.strokeLanded p r).strokeCounted p r).modRun p r.ctx r.core (CoreRun.after r)).strokeSignals p r := rfl

section
variable {p c core : Nat}

theorem KeepsWork.slotCompletes (s : State) (q : Nat) (r : Running) (n : Nat) : KeepsWork p c core s (s.slotCompletes q r n) := by
  have hsignal : KeepsWork p c core s (if signalEn [r.word0] then s.addToken q n r.ctx (signalToken [r.word0]) (r.signaller r.ctx) else s) := by
    split
    · exact .addToken ..
    · exact .refl s
  unfold State.slotCompletes
  generalize (if signalEn [r.word0] then s.addToken q n r.ctx (signalToken [r.word0]) (r.signaller r.ctx) else s) = t at hsignal ⊢
  have hcount : KeepsWork p c core t (t.modSlot n fun x => { x with completions := x.completions + 1 }) := .modSlot t n fun _ => rfl
  refine (hsignal.trans hcount).trans ?_
  dsimp only
  split
  · exact KeepsWork.trans (.of_parts rfl rfl) (.capture ..)
  · exact .refl _

theorem KeepsWork.coreCompletes (s : State) (q : Nat) (r : Running) : KeepsWork p c core s (s.coreCompletes q r) := by
  unfold State.coreCompletes
  split
  · exact .slotCompletes ..
  · exact .refl s

theorem KeepsWork.strokeSignals (s : State) (q : Nat) (r : Running) : KeepsWork p c core s (s.strokeSignals q r) := by
  have hsignals : KeepsWork p c core s (r.signals.foldl (fun s k => s.addToken q k.1 k.2.1 k.2.2 (r.signaller k.2.1)) s) := .foldl (fun s k => .addToken ..) _ s
  have hended := (hsignals.trans (.coreCompletes _ q r)).trans (.wideEnd _ q r.ctx r.core)
  unfold State.strokeSignals
  dsimp only
  split
  · exact hended.trans (.endEvaluation ..)
  · exact hended

theorem KeepsWork.strokeCounted (s : State) (q : Nat) (r : Running) : KeepsWork p c core s (s.strokeCounted q r) := by
  unfold State.strokeCounted
  refine KeepsWork.trans (.trans (.orderPublish s q r) (.modFlight _ q r.ctx ?_)) (.countLayer ..)
  exact fun _ => rfl

end

theorem State.modRun_stored (s : State) (p c core : Nat) (f : CoreRun → CoreRun) : (s.modRun p c core f).stored = s.stored := rfl

theorem State.modRun_running (s : State) (p c core : Nat) (f : CoreRun → CoreRun) (q : Nat) : ((s.modRun p c core f).part q).running = (s.part q).running :=
  State.modCtx_running ..

/-- A run of a core that is changed has the progress that the change gives it. -/
theorem Flight.progress_modRun (x : Flight) (core : Nat) (r : Running) :
    Flight.progress { x with cores := x.cores.map fun y => if y.core = core then CoreRun.after r y else y } core =
      (x.progress core).map fun m => (m.1 + b01 (isLast [r.word0]), m.2 || opcodeOf [r.word0] == 0x3F) := by
  have hrun : Flight.run? { x with cores := x.cores.map fun y => if y.core = core then CoreRun.after r y else y } core = (x.run? core).map (CoreRun.after r) := by
    unfold Flight.run?
    induction x.cores with
    | nil => rfl
    | cons y l ih =>
      rw [List.map_cons, List.find?_cons, List.find?_cons]
      by_cases hy : y.core = core
      · simp [hy, CoreRun.after]
      · simp only [hy, if_false, beq_eq_false_iff_ne.mpr hy]
        exact ih
  unfold Flight.progress
  rw [hrun, Option.map_map, Option.map_map]
  rfl

theorem State.modRun_progress_after (s : State) (p c core : Nat) (r : Running) {m : Nat × Bool} (h : s.progress p c core = some m) :
    (s.modRun p c core (CoreRun.after r)).progress p c core = some (m.1 + b01 (isLast [r.word0]), m.2 || opcodeOf [r.word0] == 0x3F) := by
  obtain ⟨f, hf, hm⟩ := Option.bind_eq_some_iff.mp h
  have hctx : p < s.parts.length ∧ c < (s.part p).ctxs.length := by
    refine Decidable.byContradiction fun habsent => ?_
    rw [State.ctx_of_absent habsent] at hf
    cases hf
  unfold State.progress State.modRun State.modFlight
  rw [State.modCtx_ctx, if_pos ⟨rfl, rfl, hctx⟩]
  dsimp only
  rw [hf]
  refine (Flight.progress_modRun f core r).trans ?_
  rw [hm]
  rfl

theorem State.strokeLanded_stored (s : State) (p : Nat) (r : Running) : (s.strokeLanded p r).stored = (r.writes.foldl (fun s w => s.applyWrite w) s).stored := by
  have herase : KeepsWork p r.ctx r.core s (s.modPart p fun x => { x with running := x.running.erase r }) :=
    .modPart s p (fun _ => rfl) fun _ _ h => List.mem_of_mem_erase h
  exact State.land_stored (herase.trans (.countWork _ p r)).1 p r.writes

theorem State.strokeLanded_progress (s : State) (p : Nat) (r : Running) (c core : Nat) : (s.strokeLanded p r).progress p c core = s.progress p c core := by
  have herase : KeepsWork p c core s (s.modPart p fun x => { x with running := x.running.erase r }) :=
    .modPart s p (fun _ => rfl) fun _ _ h => List.mem_of_mem_erase h
  have hparts : (s.strokeLanded p r).parts = ((s.modPart p fun x => { x with running := x.running.erase r }).countWork p r).parts := State.land_parts ..
  simp only [State.progress, State.ctx, State.part, hparts]
  exact (herase.trans (.countWork _ p r)).2.1

theorem State.strokeLanded_running (s : State) (p : Nat) (r : Running) : ((s.strokeLanded p r).part p).running ⊆ (s.part p).running.erase r := by
  have herase : ((s.modPart p fun x => { x with running := x.running.erase r }).part p).running = (s.part p).running.erase r := by
    rcases Nat.lt_or_ge p s.parts.length with hlt | hge
    · rw [State.modPart_part_self hlt]
    · rw [State.modPart_of_ge hge, State.part, getD_of_length_le hge _]
      rfl
  have hcount : KeepsWork p 0 0 (s.modPart p fun x => { x with running := x.running.erase r }) _ := .countWork _ p r
  have hparts : (s.strokeLanded p r).parts = ((s.modPart p fun x => { x with running := x.running.erase r }).countWork p r).parts := State.land_parts ..
  rw [State.part, hparts, ← herase]
  exact hcount.2.2

section
variable (s : State) (p : Nat) (r : Running)

theorem State.finishStroke_stored : (s.finishStroke p r).stored = (r.writes.foldl (fun s w => s.applyWrite w) s).stored := by
  rw [State.finishStroke_eq, (KeepsWork.strokeSignals (p := p) (c := r.ctx) (core := r.core) ..).1, State.modRun_stored,
    (KeepsWork.strokeCounted (p := p) (c := r.ctx) (core := r.core) ..).1, State.strokeLanded_stored]

theorem State.finishStroke_running : ((s.finishStroke p r).part p).running ⊆ (s.part p).running.erase r := by
  rw [State.finishStroke_eq]
  have hsignals := (KeepsWork.strokeSignals (p := p) (c := 0) (core := 0) (((s.strokeLanded p r).strokeCounted p r).modRun p r.ctx r.core (CoreRun.after r)) p r).2.2
  rw [State.modRun_running] at hsignals
  have hcounted := (KeepsWork.strokeCounted (p := p) (c := 0) (core := 0) (s.strokeLanded p r) p r).2.2
  exact fun _ hx => State.strokeLanded_running s p r (hcounted (hsignals hx))

/-- The core's part of the submission has come one stroke further. -/
theorem State.finishStroke_progress {m : Nat × Bool} (h : s.progress p r.ctx r.core = some m) :
    (s.finishStroke p r).progress p r.ctx r.core = some (m.1 + b01 (isLast [r.word0]), m.2 || opcodeOf [r.word0] == 0x3F) := by
  have hcounted : ((s.strokeLanded p r).strokeCounted p r).progress p r.ctx r.core = some m :=
    (KeepsWork.strokeCounted ..).2.1.trans ((State.strokeLanded_progress ..).trans h)
  rw [State.finishStroke_eq, (KeepsWork.strokeSignals ..).2.1]
  exact State.modRun_progress_after _ p r.ctx r.core r hcounted

end

/-- A SYNC peal completes once every member waits with it. -/
theorem execSyncComplete_of_all {p c peal k : Nat} {s : State} {pat : Loaded} (hpattern : (s.ctx p c).pattern = some pat) (hmembers : pat.peal peal ≠ [])
    (hall : ∀ m ∈ pat.peal peal, ∃ r ∈ s.waitingSyncs p c peal k, r.core = m) :
    execSyncComplete p c peal k s = .next (s.settle ((s.waitingSyncs p c peal k).foldl (fun s r => s.finishStroke p r) s)) := by
  have hnone : (pat.peal peal).any (fun m => !(s.waitingSyncs p c peal k).any fun r => r.core == m) = false := by
    simpa using hall
  unfold execSyncComplete
  rw [hpattern]
  exact settled_eq (if_neg fun h => h.elim hmembers fun hlate => Bool.false_ne_true (hnone.symm.trans hlate))

end Sys2Proof.Machine

open Sys2Proof.Machine

/-- Settles O23: what a completion leaves of the running strokes, the memories, the objects and the core's part of the submission. -/
theorem strokesComplete : Obligations.StrokesComplete := by
  refine ⟨fun p c core stroke s r hat hmay => ⟨?_, fun hop => ?_⟩, fun p s r => ⟨State.finishStroke_running s p r, fun n => ?_, ?_, fun f x hf hx => ?_⟩,
    fun p c peal k s pat hpattern hmembers hall => execSyncComplete_of_all hpattern hmembers hall, fun p c core s r d hfind huntil => ?_⟩
  · refine settled_eq ?_
    rw [hat]
    exact if_pos hmay
  · rw [State.completeStroke, State.resee, if_pos hop]
  · exact State.stored_slot (State.finishStroke_stored s p r) n
  · exact congrArg (fun m => m.2.map Obj.content) (State.finishStroke_stored s p r)
  · have hbefore : s.progress p r.ctx r.core = some (x.steps, x.ended) := by
      rw [State.progress, hf]
      exact congrArg (Option.map _) hx
    obtain ⟨g, hg, hprogress⟩ := Option.bind_eq_some_iff.mp (State.finishStroke_progress s p r hbefore)
    obtain ⟨y, hy, heq⟩ := Option.map_eq_some_iff.mp hprogress
    exact ⟨g, y, hg, hy, congrArg Prod.fst heq, congrArg Prod.snd heq⟩
  · refine settled_eq ?_
    rw [hfind]
    dsimp only
    rw [huntil]
    rfl

end

section
/-! SUPPORT. Tiles, token waits and gates. -/

namespace Sys2Proof.Machine

/-- The running stroke once it has passed its tile. -/
def Running.nextTile (r : Running) : Running := { r with writes := r.writes.filter fun w => decide (r.tile < w.tile), tile := r.tile + 1 }

theorem State.passTile_next (p : Nat) (r : Running) (s : State) : (s.passTile p r).1 = r.nextTile := rfl

/-- What the tile has written stands, where no other stroke has to see it again. -/
theorem State.passTile_spad {r : Running} (h : r.word0 % 256 ≠ 0x0A) (p : Nat) (s : State) (n : Nat) : ((s.passTile p r).2.slot n).spad =
    (((r.writes.filter fun w => decide (w.tile ≤ r.tile)).foldl (fun s w => s.applyWrite w) s).slot n).spad := by
  have hlands : ∀ ws, ((s.resee p r ws).land p ws).stored = (ws.foldl (fun s w => s.applyWrite w) s).stored := fun ws => by
    rw [State.resee, if_pos h]
    exact State.land_stored rfl p ws
  exact (State.stored_slot (hlands _) n).1

section
variable {p c core stroke : Nat} {s : State} {r : Running} (hat : s.runningAt p c core stroke = some r) (hok : preemptOk [r.word0] = true)
include hat hok

theorem execTileBoundary_of_tile (hpreempted : r.preempted = false) (hmore : r.tile + 1 < r.tiles) (hheld : s.heldBack p r = false) :
    execTileBoundary p c core stroke s = settled s
      (((List.range 16).find? ((s.passTile p r).2.wanted p core (s.passTile p r).1)).elim (s.passTile p r).2 fun k =>
        (s.passTile p r).2.yieldTo p k (s.passTile p r).1) := by
  unfold execTileBoundary
  rw [hat]
  dsimp only
  rw [hok, hpreempted, hheld, if_neg (by decide), if_neg (by decide), if_neg (by simp; omega)]
  cases (List.range 16).find? ((s.passTile p r).2.wanted p core (s.passTile p r).1) <;> rfl

theorem execTileBoundary_of_preempted (hpreempted : r.preempted = true) :
    execTileBoundary p c core stroke s = settled s (if s.mayResume p core r then s.setPreempted p r false else s) := by
  unfold execTileBoundary
  rw [hat]
  dsimp only
  rw [hok, hpreempted, if_neg (by decide), if_pos rfl]

end

section
variable {p c core : Nat} {s : State} {f : Flight} (hf : (s.ctx p c).flight = some f) (hstop : f.stop = none)
include hf hstop

theorem execTokenTimeout_of_sync {r : Running} (hsync : ((s.part p).running.find? fun r => r.ctx == c && r.core == core && r.sync.isSome) = some r) :
    execTokenTimeout p c core s = .next (s.settle (s.stopFlight p c 0x0104 core r.stroke)) := by
  unfold execTokenTimeout
  rw [hf]
  dsimp only
  rw [hstop, if_neg (by decide), hsync]
  rfl

theorem execTokenTimeout_of_head {x : CoreRun} {pat : Loaded} {n i : Nat} {rest : List Nat}
    (hsync : ((s.part p).running.find? fun r => r.ctx == c && r.core == core && r.sync.isSome) = none) (hrun : f.run? core = some x)
    (hpattern : (s.ctx p c).pattern = some pat) (hslot : s.slotOf p core = some n) (htodo : x.todo = i :: rest) (hstarted : f.started = true)
    (hwaits : tokensReady (s.slot n) c (waitTokens (pat.stroke i)) = false) :
    execTokenTimeout p c core s = .next (s.settle (s.stopFlight p c 0x0104 core i)) := by
  unfold execTokenTimeout
  rw [hf]
  dsimp only
  rw [hstop, if_neg (by decide), hsync]
  dsimp only
  rw [hrun, hpattern, hslot]
  dsimp only
  rw [htodo]
  exact settled_eq (if_pos (by simp [hstarted, hwaits]))

end

/-- What a gate decides of its layer, once its stroke has completed. -/
theorem State.gateDecision_of_gate {p c core : Nat} {s : State} {f : Flight} {pat : Loaded} {r : CoreRun} {layer e : Nat}
    (hf : (s.ctx p c).flight = some f) (hpattern : (s.ctx p c).pattern = some pat) (hrun : f.run? core = some r) (hgate : r.gate = some (layer, e))
    (hdone : (s.part p).running.any (fun x => x.ctx == c && x.core == core && x.stroke == (pat.rerunCore e core).1) = false) : s.gateDecision p c core =
    let out := s.outcome pat r layer (some e)
    let reason := s.noRerun p c pat f r layer (some e)
    let wide := pat.rerunCore e core
    if out = 2 ∧ reason = 0 then
      if (s.part p).running.any fun x => x.ctx == c && x.core == core then s
      else ((s.recordLayer p c core layer 2 0).modRun p c core fun r =>
        { r with gate := none, rerun := r.rerun + 1, ranWide := layer :: r.ranWide, wide := some (layer, e, wide.2.1, wide.2.2),
                 todo := (List.range wide.2.2).map (wide.2.1 + ·) ++ r.todo }).fillQueue p c core
    else (s.recordLayer p c core layer out (if out = 2 then reason else 0)).modRun p c core fun r => { r with gate := none } := by
  unfold State.gateDecision
  rw [hf, hpattern]
  dsimp only
  rw [hrun]
  dsimp only
  rw [hgate]
  dsimp only
  rw [if_neg (by simp [hdone])]

end Sys2Proof.Machine

open Sys2Proof.Machine

/-- Settles O25: a tile that ends, a stroke that goes on, and the two waits that run out. -/
theorem tilesYieldAndTokensTimeOut : Obligations.TilesYieldAndTokensTimeOut := by
  refine ⟨fun p c core stroke s r hat hok hpreempted hmore hheld => ?_, fun p c core stroke s r hat hok hpreempted => ?_,
    fun p c core s f r hf hstop hsync => execTokenTimeout_of_sync hf hstop hsync,
    fun p c core s f x pat n i rest hf hstop hsync hrun hpattern hslot htodo hstarted hwaits =>
      execTokenTimeout_of_head hf hstop hsync hrun hpattern hslot htodo hstarted hwaits⟩
  · have hexec := execTileBoundary_of_tile hat hok hpreempted hmore hheld
    refine ⟨rfl, fun hop n => State.passTile_spad hop p s n, fun hnone => hexec.trans ?_, fun k hk => hexec.trans ?_⟩
    · rw [hnone]
      rfl
    · rw [hk]
      rfl
  · have hexec := execTileBoundary_of_preempted hat hok hpreempted
    exact ⟨fun hmay => hexec.trans (settled_eq (if_pos hmay)), fun hmay => hexec.trans (settled_eq (if_neg (by simp [hmay])))⟩

/-- Settles O26: the gate's decision by its outcome, the reason against a re-run and the strokes that still run. -/
theorem gateDecidesTheLayer : Obligations.GateDecidesTheLayer := by
  intro p c core s f pat r layer e hf hpattern hrun hgate hdone out reason busy
  have hdecision := State.gateDecision_of_gate hf hpattern hrun hgate hdone
  refine ⟨fun hout => settled_eq ?_, fun hout hreason hbusy => settled_eq ?_, fun hout hreason hbusy => settled_eq ?_, fun hout hreason => settled_eq ?_⟩
  · rw [hdecision]
    dsimp only
    rw [if_neg fun h => hout h.1, if_neg hout]
  · rw [hdecision]
    dsimp only
    rw [if_pos ⟨hout, hreason⟩]
    exact if_neg (by simp [busy] at hbusy ⊢; exact hbusy)
  · rw [hdecision]
    dsimp only
    rw [if_pos ⟨hout, hreason⟩]
    exact if_pos hbusy
  · rw [hdecision]
    dsimp only
    rw [if_neg fun h => hreason h.2, if_pos hout]
    rw [show s.outcome pat r layer (some e) = 2 from hout]

end

section
/-! SUPPORT. Submissions, doorbells and chunks: the one outcome of each of their commands where its conditions hold. -/

namespace Sys2Proof.Machine

/-! ### Submissions -/

theorem execReleaseTime_of_waiting {p c : Nat} {s : State} {q : Submission} (hfind : ((s.ctx p c).queue.find? fun x => x.released.isNone && x.flags.testBit 0) = some q)
    (hclass : s.ctxClass p c = 1) : execReleaseTime p c s =
    let r := (s.reach (q.releaseNs * 2 ^ 32)).released p c q (s.reach (q.releaseNs * 2 ^ 32)).ns none
    .next (s.settle ((r.2.modCtx p c fun x => { x with queue := x.queue.map fun y => if y = q then r.1 else y }).dispatchAll p c)) := by
  unfold execReleaseTime
  rw [hfind]
  exact settled_eq (if_neg (not_not_intro hclass))

theorem execStepBoundary_of_ended {p c : Nat} {s : State} {f : Flight} (hf : (s.ctx p c).flight = some f) (hended : f.stepEnded = true) :
    execStepBoundary p c s = .next (s.settle (if f.cores.all (·.ended) then s.boundary p c f else (s.boundary p c f).nextStep p c)) := by
  unfold execStepBoundary
  rw [hf]
  exact settled_eq (if_neg (by simp [hended]))

theorem execSubmissionComplete_of_other {p c : Nat} {s : State} {f : Flight} (hf : (s.ctx p c).flight = some f) (hpart : p ≠ s.cascadePart)
    (hgone : ((s.submissionComplete p c).ctx p c).flight.map (·.sub.index) ≠ some f.sub.index) :
    execSubmissionComplete p c none none s = .next (s.settle (s.submissionComplete p c).promoteAll) := by
  unfold execSubmissionComplete
  rw [hf]
  dsimp only
  rw [if_neg hgone, if_neg (by simp [hpart])]
  rfl

theorem State.submissionComplete_of_ended {p c : Nat} {s : State} {f g : Flight} (hf : (s.ctx p c).flight = some f) (hstop : f.stop = none)
    (hcores : f.cores.all (·.ended) = true) (hstep : f.started = true → f.stepEnded = true) (hnone : ((s.part p).running.filter fun r => r.ctx == c) = [])
    (hg : ((if f.started then s.boundary p c f else s).ctx p c).flight = some g) :
    s.submissionComplete p c = ((if f.started then s.boundary p c f else s).finishFlight p c g g.stop).dispatchAll p c := by
  have hstep' : (f.started && !f.stepEnded) = false := by cases h : f.started <;> simp_all
  unfold State.submissionComplete
  rw [hf]
  dsimp only
  rw [hstop]
  dsimp only
  rw [if_neg (by simp only [hcores, hstep', hnone]; decide), hg]

theorem State.submissionComplete_of_stopped {p c : Nat} {s : State} {f : Flight} {stop : Nat × Nat × Nat} (hf : (s.ctx p c).flight = some f)
    (hstop : f.stop = some stop) (hnone : ((s.part p).running.filter fun r => r.ctx == c) = []) : s.submissionComplete p c =
    ((((s.modPart p fun x => { x with running := x.running.filter fun r => r.ctx != c }).kvAbort p c).streamAbort p c).finishFlight p c f (some stop)).dispatchAll p c := by
  unfold State.submissionComplete
  rw [hf]
  dsimp only
  rw [hstop]
  dsimp only
  rw [hnone]
  rfl

theorem execUrgentDoorbellRelease_of_held {p c v : Nat} {rest : List Nat} {s : State} (hheld : (s.ctx p c).held = v :: rest) (hstate : (s.part p).state = 2)
    (hflight : (s.ctx p c).flight = none) (hqueue : (s.ctx p c).queue = []) : execUrgentDoorbellRelease p c s =
    let due := match (s.ctx p c).lastAcceptNs with
      | some t => t + 1000 * s.ctxCfg p c 0 0x0B
      | none => 0
    .next (s.settle (((s.reach (due * 2 ^ 32)).modCtx p c fun x => { x with held := rest }).acceptTo p c v)) := by
  unfold execUrgentDoorbellRelease
  rw [hheld]
  dsimp only
  rw [if_neg (by simp [hstate, hflight, hqueue])]
  rfl

/-! ### Doorbells -/

theorem execPcieDoorbell_of_untagged {p c : Nat} {s : State} (hmode : 4 ≤ s.mode) (hp : p < 8) (hc : c < 16) (htag : s.area p 0x50 1 ≠ 1) (v : Nat) :
    execPcieDoorbell p c v s = settled s (if s.hostDoorbellCode p c v ≠ 0 then s.logViolation (s.hostDoorbellCode p c v) p (0x10 + p) [] else s.ringDoorbell p c v) := by
  unfold execPcieDoorbell
  rw [if_neg (by omega), if_neg htag]

theorem State.serveDoorbell_of_doorbell {rq : Request} {s s1 : State} {w : Who} {t : Target} (hadmit : s.admitted rq 7 (fun p => p.length == 4) = .go w s1)
    (hanon : w.isAnon = false) (hresolve : s1.resolve w rq.frame.index rq.frame.sub = .inr t) (hname : t.row.name = "DOORBELL") : s.serveDoorbell rq =
    let v := ofBE rq.frame.payload
    if s1.hostDoorbellCode t.i t.j v ≠ 0 then s1.abort rq w (s1.hostDoorbellCode t.i t.j v)
    else if rq.frame.flags.testBit 0 then (s1.ringDoorbell t.i t.j v).ok rq w else s1.ringDoorbell t.i t.j v := by
  unfold State.serveDoorbell State.answerDoorbell
  rw [hadmit]
  dsimp only
  rw [hanon, hresolve]
  dsimp only
  rw [if_pos hname, if_neg (by decide)]

/-! ### Chunks -/

/-- The state in which a chunk's release has been reached. -/
def State.chunkReached (s : State) (p c k : Nat) : State := (s.reach (s.chunkRelease p c k * 2 ^ 32)).modCtx p c fun x =>
  { x with chunkIndex := k + 1, latency := some (s.chunkLatency p), lastRelease := s.chunkRelease p c k }

theorem State.reach_chunkLatency (s : State) (ticks p : Nat) : (s.reach ticks).chunkLatency p = s.chunkLatency p := by
  unfold State.reach
  split <;> rfl

theorem execAutoChunkRelease_of_due {p c k : Nat} {s : State} {o : Obj} (hauto : s.autoChunks p c = true) (hindex : (s.ctx p c).chunkIndex ≤ k) (hmode : 4 ≤ s.mode)
    (hstate : (s.part p).state = 2) (hdue : s.ns ≤ s.chunkRelease p c k) (hbound : (s.chunkReached p c k).boundIn (s.ctx p c).binds 65529 = some o)
    (hsize : 2 * (64 + (s.chunkReached p c k).chunkCfg p c 0 * 2049 * ((2 * (s.chunkReached p c k).cfg 0x2220 1 + 63) / 64 * 64)) ≤ o.size) :
    execAutoChunkRelease p c k s =
      let s2 := (s.chunkReached p c k).writeFeatures p k ((s.chunkReached p c k).chunkCfg p c 0) o
      settled s (match s2.gateContext p c with
        | none => s2.releaseChunk p c k ((s2.fedSlots p).map fun e => (e.1, 0))
        | some g => s2.submitGate p c g k) := by
  unfold State.chunkReached at hbound hsize
  unfold execAutoChunkRelease
  dsimp only
  rw [if_neg (by simp only [hauto, hstate]; simp; omega), hbound]
  dsimp only
  rw [if_neg (by omega)]
  rfl

theorem execStreamGateUpdate_of_ended {p c k code : Nat} {s : State} (hgating : (s.ctx p c).gating = some (k, some code)) : execStreamGateUpdate p c s =
    let r := (s.modCtx p c fun x => { x with gating := none }).moveGates p c code
    settled s (if s.autoChunks p c then r.2.releaseChunk p c k r.1 else r.2.submitMasked p c r.1) := by
  unfold execStreamGateUpdate
  rw [hgating]

theorem execStreamGateUpdate_of_waiting {p c g : Nat} {s : State} {sub : Submission} {rest : List Submission} (hgating : (s.ctx p c).gating = none)
    (hgate : s.gateContext p c = some g) (hqueue : (s.ctx p c).queue = sub :: rest) (hflight : (s.ctx p c).flight = none) (hreleased : sub.released.isSome = true)
    (hawaits : s.awaitsGate p c sub = true) : execStreamGateUpdate p c s = .next (s.settle (s.submitGate p c g sub.seq)) := by
  unfold execStreamGateUpdate
  rw [hgating, hgate, hqueue]
  exact settled_eq (if_pos ⟨by rw [hflight]; rfl, hreleased, hawaits⟩)

theorem execPrefetchBlockDelivered_of_requested {slot k : Nat} {s : State} {f : Prefetcher} {pat : Loaded} {o : Obj}
    (hf : (s.slot slot).prefetchers.getD k none = some f) (hpattern : (s.ctx f.part f.ctx).pattern = some pat) (ho : s.objOf f.handle = some o) (hstate : o.state ≠ 4)
    (hrequested : s.requested slot f pat = true) (hreplacing : s.replacing.any (fun x => x.part == f.part && (dCores f.desc pat f.core).contains x.logical) = false) :
    execPrefetchBlockDelivered slot k s = .next (s.settle (((s.deliverBlock slot k f pat o).countFree f.part slot ([8], [])).countFlits f.part slot)) := by
  unfold execPrefetchBlockDelivered
  rw [hf]
  dsimp only
  rw [hpattern]
  dsimp only
  rw [ho]
  dsimp only
  rw [if_neg hstate]
  exact settled_eq (if_neg (by simp [hrequested]; simpa using hreplacing))

end Sys2Proof.Machine

open Sys2Proof.Machine

/-- Settles O27: each command of a submission where its conditions hold. -/
theorem submissionsRunToCompletion : Obligations.SubmissionsRunToCompletion := by
  refine ⟨fun p c k s hclass hstate hns => ?_, fun p c s q hfind hclass => execReleaseTime_of_waiting hfind hclass, fun p c s f hf hended => execStepBoundary_of_ended hf hended,
    fun p c s f hf hpart hgone => execSubmissionComplete_of_other hf hpart hgone, fun p c s f hf hstop hcores hstep hnone g hg => State.submissionComplete_of_ended hf hstop hcores hstep hnone hg,
    fun p c s f stop hf hstop hnone => State.submissionComplete_of_stopped hf hstop hnone,
    fun p c v rest s hheld hstate hflight hqueue => execUrgentDoorbellRelease_of_held hheld hstate hflight hqueue⟩
  · exact settled_eq (if_neg (by simp only [hclass]; simp; omega))

/-- Settles O28: an accepted and a refused doorbell over each way. -/
theorem doorbellsAreAcceptedOrRefused : Obligations.DoorbellsAreAcceptedOrRefused := by
  refine ⟨fun p c v s hmode hp hc htag => ?_, fun rq s s1 w t hadmit hanon hresolve hname => ?_⟩
  · have hexec := execPcieDoorbell_of_untagged hmode hp hc htag v
    exact ⟨fun hcode => hexec.trans (settled_eq (if_neg (not_not_intro hcode))), fun hcode => hexec.trans (settled_eq (if_pos hcode))⟩
  · have hserve := State.serveDoorbell_of_doorbell hadmit hanon hresolve hname
    exact ⟨fun hcode => settled_eq (hserve.trans (if_neg (not_not_intro hcode))), fun hcode => settled_eq (hserve.trans (if_pos hcode))⟩

/-- Settles O29: a chunk's release, the end of its gate, and a prefetcher's block. -/
theorem chunksAreReleasedAndDelivered : Obligations.ChunksAreReleasedAndDelivered := by
  refine ⟨fun p c k s o hauto hindex hmode hstate hdue hbound hsize => ?_, fun p c k code s hgating => ?_,
    fun p c g s sub rest hgating hgate hqueue hflight hreleased hawaits => execStreamGateUpdate_of_waiting hgating hgate hqueue hflight hreleased hawaits,
    fun slot k s f pat o hf hpattern ho hstate hrequested hreplacing => execPrefetchBlockDelivered_of_requested hf hpattern ho hstate hrequested hreplacing⟩
  · rw [State.reach_chunkLatency] at hbound hsize ⊢
    have hexec := execAutoChunkRelease_of_due hauto hindex hmode hstate hdue hbound hsize
    refine ⟨fun hnone => hexec.trans ?_, fun g hg => hexec.trans ?_⟩
    · dsimp only
      rw [show ((s.chunkReached p c k).writeFeatures p k ((s.chunkReached p c k).chunkCfg p c 0) o).gateContext p c = none from hnone]
      rfl
    · dsimp only
      rw [show ((s.chunkReached p c k).writeFeatures p k ((s.chunkReached p c k).chunkCfg p c 0) o).gateContext p c = some g from hg]
      rfl
  · have hexec := execStreamGateUpdate_of_ended hgating
    exact ⟨fun hauto => hexec.trans (settled_eq (if_pos hauto)), fun hauto => hexec.trans (settled_eq (if_neg (by simp [hauto])))⟩

end

section
/-! SUPPORT. Wakes, braces and emergencies. -/

namespace Sys2Proof.Machine

theorem State.modPower_congr {s : State} {f g : Power → Power} (h : f s.power = g s.power) : s.modPower f = s.modPower g := by
  unfold State.modPower
  rw [h]

section
variable {s : State} {target reason : Nat} (hmode : s.mode < 4) (hserved : ¬(s.mode = 0 ∨ ((s.mode = 2 ∨ s.mode = 3) ∧ target < 4))) (hreason : reason ≠ 1)
include hmode hserved hreason

/-- The first wake below ATTEND gives the reason and the target. -/
theorem State.wake_of_first (hup : s.power.up = none) : s.wake target reason = (s.setObj 0 0x1400 4 [byteOf reason]).modPower fun x =>
    { x with up := some target, since := s.nowTicks, shortHold := 0 } := by
  unfold State.wake
  rw [if_neg (by omega), if_neg hserved, hup]
  refine State.modPower_congr (s := s.setObj 0 0x1400 4 [byteOf reason]) ?_
  rw [State.setObj_power, hup]
  simp [hreason]

/-- A later wake raises the target at most. -/
theorem State.wake_of_later {up : Nat} (hup : s.power.up = some up) : s.wake target reason = s.modPower fun x =>
    { x with up := some (max target up), shortHold := 0 } := by
  unfold State.wake
  rw [if_neg (by omega), if_neg hserved, hup, if_pos Option.isSome_some]
  refine State.modPower_congr ?_
  rw [hup]
  simp [hreason]

end

theorem withDetail_cons {r : LogRec} (h : r.code = 0x0B09) (d : Bytes) (l : List LogRec) : withDetail d (r :: l) = { r with detail := d } :: l := if_pos h

/-- A log written in any mode changes the log, what streams it, its trace and the records kept for it. -/
theorem State.logAon_eq (log code scope source : Nat) (d : Bytes) (s : State) : ∃ x e f v t st lost, s.logAon log code scope source d =
    { s with sent := x, errorLog := e, refusalLog := f, svc := v, trace := t, power := { s.power with store := st, storeLost := lost } } := by
  unfold State.logAon
  split
  · split
    · rw [State.logRefusal_eq]
      exact ⟨_, _, _, _, _, _, _, rfl⟩
    · rw [State.logError_eq]
      exact ⟨_, _, _, _, _, _, _, rfl⟩
  · exact ⟨_, _, _, _, _, _, _, rfl⟩

end Sys2Proof.Machine

open Sys2Proof.Machine

/-- Settles O31: the wake by the mode and by whether one is under way. -/
theorem wakeSourcesRaiseTheTarget : Obligations.WakeSourcesRaiseTheTarget := by
  refine ⟨fun s hmode hup => settled_eq (State.wake_of_first (by omega) (by omega) (by decide) hup),
    fun s up hmin hmax htarget hup => settled_eq (State.wake_of_later hmax (by omega) (by decide) hup),
    fun s hmode htarget hup => settled_eq (State.wake_of_first (by omega) (by omega) (by decide) hup),
    fun s henabled => settled_eq (if_neg henabled), fun s hdisabled => settled_eq (if_pos hdisabled), fun s hfailed => settled_eq (if_pos hfailed)⟩

/-- Settles O33: each of the six commands by whether what it begins or ends holds. -/
theorem bracesAndEmergenciesHoldAndEnd : Obligations.BracesAndEmergenciesHoldAndEnd := by
  refine ⟨fun s hbraced => ⟨_, settled_eq (if_neg (by simp [hbraced])), rfl, rfl, ?_⟩,
    fun s mv us hbraced => ⟨_, settled_eq (if_neg (by simp [hbraced])), rfl, ?_, ?_, fun r rest hstore hrecs hcode => ?_⟩,
    fun s n tj hemergency hmode hhot => settled_eq (if_neg ?_), fun s hemergency hmode => settled_eq (if_neg ?_),
    fun s second hemergency hafter => settled_eq (if_neg ?_), fun s second hemergency hbefore => settled_eq (if_pos (Or.inr hbefore)),
    fun s hslowed => settled_eq (if_neg (by simp [hslowed])), fun s hslowed => settled_eq (if_pos (by simp [hslowed])), fun s => rfl⟩
  · obtain ⟨x, e, f, v, t, st, lost, heq⟩ := State.logAon_eq 0 0x0B09 0xFF 0 [] (s.countPower 9)
    rw [heq]
    exact ⟨rfl, rfl, rfl, rfl⟩
  · dsimp only
    split <;> rfl
  · dsimp only
    split <;> rfl
  · dsimp only
    rw [hstore, if_neg (by simp)]
    exact (congrArg _ hrecs).trans (withDetail_cons hcode _ rest)
  · simp [hemergency, hhot]; omega
  · simp [hemergency]; omega
  · simp [hemergency]; omega

end

section
/-! SUPPORT. What leaves the mode, the dictionary and the power manager as they are: the work of dispatching, claiming and starting. -/

namespace Sys2Proof.Machine

/-- The mode, whether the dictionary is served, and the power manager's state. -/
def State.seat (s : State) : Nat × Bool × Power := (s.mode, s.serving, s.power)

/-- What both branches keep is kept. -/
theorem ite_keeps {α γ : Type} (φ : α → γ) {p : Prop} [Decidable p] {a b : α} {x : γ} (ha : φ a = x) (hb : φ b = x) : φ (if p then a else b) = x := by
  split
  · exact ha
  · exact hb

/-! ### The changes of one component -/

@[simp] theorem State.modCascade_seat (s : State) (f : Cascade → Cascade) : (s.modCascade f).seat = s.seat := rfl
@[simp] theorem State.modSlot_seat (s : State) (n : Nat) (f : Slot → Slot) : (s.modSlot n f).seat = s.seat := rfl
@[simp] theorem State.modPart_seat (s : State) (p : Nat) (f : Partition → Partition) : (s.modPart p f).seat = s.seat := rfl
@[simp] theorem State.modCtx_seat (s : State) (p c : Nat) (f : Context → Context) : (s.modCtx p c f).seat = s.seat := rfl
@[simp] theorem State.modFlight_seat (s : State) (p c : Nat) (f : Flight → Flight) : (s.modFlight p c f).seat = s.seat := rfl
@[simp] theorem State.modRun_seat (s : State) (p c k : Nat) (f : CoreRun → CoreRun) : (s.modRun p c k f).seat = s.seat := rfl
@[simp] theorem State.modObj_seat (s : State) (o i : Nat) (f : Obj → Obj) : (s.modObj o i f).seat = s.seat := rfl
@[simp] theorem State.modPeer_seat (s : State) (f : Peers → Peers) : (s.modPeer f).seat = s.seat := rfl
@[simp] theorem State.modAfe_seat (s : State) (f : Afe → Afe) : (s.modAfe f).seat = s.seat := rfl
@[simp] theorem State.modNet_seat (s : State) (f : Net → Net) : (s.modNet f).seat = s.seat := rfl
@[simp] theorem State.modSvc_seat (s : State) (f : Service → Service) : (s.modSvc f).seat = s.seat := rfl
@[simp] theorem State.modTiers_seat (s : State) (f : Tiers → Tiers) : (s.modTiers f).seat = s.seat := rfl
@[simp] theorem State.setObj_seat (s : State) (p i k : Nat) (v : Bytes) : (s.setObj p i k v).seat = s.seat := rfl
@[simp] theorem State.countKv_seat (s : State) (p i n : Nat) : (s.countKv p i n).seat = s.seat := rfl
@[simp] theorem State.countStream_seat (s : State) (p i n : Nat) : (s.countStream p i n).seat = s.seat := rfl
@[simp] theorem State.dropWalked_seat (s : State) (p o i : Nat) : (s.dropWalked p o i).seat = s.seat := rfl
@[simp] theorem State.fillQueue_seat (s : State) (p c k : Nat) : (s.fillQueue p c k).seat = s.seat := rfl
@[simp] theorem State.stopFlight_seat (s : State) (p c code k i : Nat) : (s.stopFlight p c code k i).seat = s.seat := rfl
@[simp] theorem State.send_seat (s : State) (x : Sent) : (s.send x).seat = s.seat := rfl
@[simp] theorem State.because_seat (s : State) (d : Bytes) : (s.because d).seat = s.seat := rfl
@[simp] theorem State.countCtx_seat (s : State) (p c i : Nat) : (s.countCtx p c i).seat = s.seat := rfl

/-! ### Logs and events -/

@[simp] theorem State.capture_seat (s : State) (r k : Nat) (b : Bytes) : (s.capture r k b).seat = s.seat := by rw [State.capture_eq]; rfl
@[simp] theorem State.logError_seat (s : State) (c k o : Nat) (d : Bytes) : (s.logError c k o d).seat = s.seat := by rw [State.logError_eq]; rfl
@[simp] theorem State.logViolation_seat (s : State) (c k o : Nat) (d : Bytes) : (s.logViolation c k o d).seat = s.seat := by rw [State.logViolation_eq]; rfl
@[simp] theorem State.logRefusal_seat (s : State) (c k o : Nat) (d : Bytes) : (s.logRefusal c k o d).seat = s.seat := by rw [State.logRefusal_eq]; rfl
@[simp] theorem State.traceMode_seat (s : State) (a b c d : Nat) : (s.traceMode a b c d).seat = s.seat := State.capture_seat ..
@[simp] theorem State.reach_seat (s : State) (k : Nat) : (s.reach k).seat = s.seat := by rw [State.reach_eq]; rfl

@[simp] theorem State.objectEvent_seat (s : State) (p h e l c : Nat) : (s.objectEvent p h e l c).seat = s.seat := State.capture_seat ..

@[simp] theorem State.objectRefused_seat (s : State) (p h l c : Nat) : (s.objectRefused p h l c).seat = s.seat := State.objectEvent_seat ..

@[simp] theorem State.newObj_seat (s : State) (o : Obj) : (s.newObj o).seat = s.seat := State.objectEvent_seat ..

@[simp] theorem State.takeClaim_seat (s : State) (p l : Nat) (o : Obj) : (s.takeClaim p l o).seat = s.seat := rfl

/-! ### Promotion of the cascade's models -/

theorem State.promote_seat (n : Nat) (s : State) : (s.promote n).seat = s.seat := by
  induction n generalizing s with
  | zero => rfl
  | succ n ih =>
    unfold State.promote
    split
    · split
      · rfl
      · dsimp only
        split
        · exact ih _
        · split
          · exact (ih _).trans (State.objectRefused_seat ..)
          · refine ite_keeps State.seat ((ih _).trans (State.objectRefused_seat ..)) ?_
            exact ite_keeps State.seat (ih _) rfl
    · rfl

theorem State.promoteAll_seat (s : State) : s.promoteAll.seat = s.seat := State.promote_seat 4 s

/-! ### Contact with the server -/

theorem State.bellEnds_seat (s : State) (code source : Nat) : (s.bellEnds code source).seat = s.seat := by
  unfold State.bellEnds
  dsimp only
  split
  · rfl
  · exact State.logViolation_seat ..

theorem State.sendClient_seat (s : State) (k : ClientPurpose) (v : Bytes) (f : Frame) : (s.sendClient k v f).seat = s.seat := rfl

theorem State.clientStep_seat (s : State) : s.clientStep.seat = s.seat := by
  unfold State.clientStep
  split
  · exact foldl_keeps State.seat (fun s _ => State.bellEnds_seat s _ _) _ _
  · split
    · split <;> rfl
    · split
      · split <;> rfl
      · exact foldl_keeps State.seat (fun s _ => State.sendClient_seat s _ _ _) _ _

theorem State.contactServer_seat (s : State) : s.contactServer.seat = s.seat := by
  unfold State.contactServer
  dsimp only
  split
  · rfl
  · exact State.clientStep_seat _

/-! ### Dispatch -/

theorem State.toMember_seat (s : State) (dst : Nat) (f : PeerFrame) : (s.toMember dst f).seat = s.seat := by
  unfold State.toMember State.toMemberBy State.pushFrame
  dsimp only
  split
  · split
    · rfl
    · split <;> rfl
  · rfl

theorem State.kvShortage_seat (s : State) (p c code member : Nat) (rows : List Nat) (f : Flight) : (s.kvShortage p c code member rows f).seat = s.seat := by
  unfold State.kvShortage
  rw [State.countKv_seat]
  refine (foldl_keeps State.seat ?_ _ _).trans (State.modCtx_seat ..)
  exact fun _ _ => rfl

theorem State.takePage_seat (s : State) (p k : Nat) : (s.takePage p k).2.2.seat = s.seat := by
  unfold State.takePage
  split <;> rfl

theorem State.reserveRow_seat (s : State) (p : Nat) (r : KvRow) : (s.reserveRow p r).seat = s.seat := by
  unfold State.reserveRow
  split
  · rfl
  · rw [State.modObj_seat]
    refine ite_keeps State.seat ?_ ?_
    · refine foldl_keeps State.seat ?_ _ s
      exact fun s _ => State.takePage_seat s ..
    · rw [State.dropWalked_seat]
      refine foldl_keeps State.seat ?_ _ s
      exact fun s _ => State.takePage_seat s ..

theorem State.kvReserve_seat (s : State) (p c : Nat) (f : Flight) : (s.kvReserve p c f).seat = s.seat := by
  unfold State.kvReserve
  split
  · rfl
  · rw [State.countKv_seat, State.modFlight_seat]
    refine foldl_keeps State.seat ?_ _ s
    exact fun s r => State.reserveRow_seat s p r

theorem State.streamRoute_seat (s : State) (p c : Nat) (l : Loaded) (f : Flight) : (s.streamRoute p c l f).seat = s.seat := by
  unfold State.streamRoute
  split
  · rfl
  · rw [State.modFlight_seat]
    refine foldl_keeps State.seat ?_ _ s
    intro s k
    dsimp only
    split
    · rfl
    · refine ite_keeps State.seat rfl ?_
      refine (foldl_keeps State.seat ?_ _ _).trans rfl
      exact fun _ _ => rfl

theorem State.stepStarts_seat (s : State) (p c : Nat) (l : Loaded) (f : Flight) : (s.stepStarts p c l f).seat = s.seat := by
  have hkv : (if l.isKv then s.kvReserve p c f else s).seat = s.seat := ite_keeps State.seat (State.kvReserve_seat ..) rfl
  unfold State.stepStarts
  rw [State.modFlight_seat]
  exact ite_keeps State.seat ((State.streamRoute_seat ..).trans hkv) hkv

theorem State.stepRefused_seat (s : State) (p c code short : Nat) (rows : List Nat) (l : Loaded) (f : Flight) :
    (s.stepRefused p c code short rows l f).seat = s.seat := by
  unfold State.stepRefused
  rw [State.stopFlight_seat]
  exact ite_keeps State.seat (State.kvShortage_seat ..) rfl

theorem State.resolvePair_seat (s : State) (p c : Nat) : (s.resolvePair p c).seat = s.seat := by
  unfold State.resolvePair
  split
  · refine ite_keeps State.seat rfl (ite_keeps State.seat ?_ ?_)
    · rw [State.stepStarts_seat, State.modPeer_seat]
    · rw [State.stepRefused_seat, State.modFlight_seat, State.modPeer_seat]
  · rfl

theorem State.nextStep_seat (s : State) (p c : Nat) : (s.nextStep p c).seat = s.seat := by
  unfold State.nextStep
  split
  · dsimp only
    split
    · rw [State.resolvePair_seat]
      refine (foldl_keeps State.seat ?_ _ _).trans rfl
      exact fun s m => State.toMember_seat s m _
    · exact ite_keeps State.seat (State.stepStarts_seat ..) (State.stepRefused_seat ..)
  · rfl

theorem State.clearTokens_seat (s : State) (p c : Nat) : (s.clearTokens p c).seat = s.seat := by
  refine foldl_keeps State.seat ?_ _ s
  exact fun _ _ => rfl

theorem State.takeFlight_seat (s : State) (p c : Nat) (sub : Submission) (l : Loaded) : (s.takeFlight p c sub l).seat = s.seat := by
  unfold State.takeFlight
  rw [State.nextStep_seat]
  refine (foldl_keeps State.seat ?_ _ _).trans ?_
  · exact fun _ _ => rfl
  · rw [State.modCtx_seat, State.clearTokens_seat]

theorem State.writeCompletion_seat (s : State) (p c : Nat) (sub : Submission) (d : Done) : (s.writeCompletion p c sub d).seat = s.seat := by
  unfold State.writeCompletion
  dsimp only
  refine (foldl_keeps State.seat ?_ _ _).trans (ite_keeps State.seat ?_ ?_)
  · exact fun _ _ => rfl
  · rw [State.capture_seat, State.modCtx_seat]
    split <;> rfl
  · refine Eq.trans (b := State.seat (State.capture ..)) rfl ?_
    rw [State.capture_seat, State.modCtx_seat]
    split <;> rfl

theorem State.settleStop_seat (s : State) (p : Nat) : (s.settleStop p).seat = s.seat := by
  unfold State.settleStop
  split <;> rfl

theorem State.refuseSub_seat (s : State) (p c code : Nat) (sub : Submission) : (s.refuseSub p c code sub).seat = s.seat :=
  (State.settleStop_seat ..).trans (State.writeCompletion_seat ..)

/-! ### A part that stands in ATTEND -/

/-- The part stands in ATTEND with its dictionary served, and this descent is wanted of it. -/
def Attends (w : Option Nat) (s : State) : Prop := s.mode = 4 ∧ s.serving = true ∧ s.power.wanted = w

section
variable {w : Option Nat} {s t : State}

theorem Attends.of_seat (h : t.seat = s.seat) (hs : Attends w s) : Attends w t := by
  obtain ⟨hmode, hserving, hwanted⟩ := hs
  obtain ⟨hm, hrest⟩ := Prod.mk.inj h
  obtain ⟨hv, hp⟩ := Prod.mk.inj hrest
  exact ⟨hm.trans hmode, hv.trans hserving, (congrArg Power.wanted hp).trans hwanted⟩

theorem Attends.modPower {f : Power → Power} (hf : ∀ x, (f x).wanted = x.wanted) (hs : Attends w s) : Attends w (s.modPower f) := by
  obtain ⟨hmode, hserving, hwanted⟩ := hs
  exact ⟨hmode, hserving, (hf _).trans hwanted⟩

theorem Attends.foldl {β : Type} {g : State → β → State} (h : ∀ s b, Attends w s → Attends w (g s b)) (l : List β) (hs : Attends w s) :
    Attends w (l.foldl g s) := by
  induction l generalizing s with
  | nil => exact hs
  | cons b l ih => exact ih (h s b hs)

theorem Attends.served (hs : Attends w s) : Attends w { s with serving := true } := by
  obtain ⟨hmode, _, hwanted⟩ := hs
  exact ⟨hmode, rfl, hwanted⟩

theorem Attends.abortDescent (reason : Nat) (tchirix : Bool) (hs : Attends w s) : Attends w (s.abortDescent reason tchirix) := by
  unfold State.abortDescent
  split
  · split
    · exact hs
    · refine Attends.modPower (fun _ => rfl) (Attends.modPower (fun _ => rfl) (Attends.served (.of_seat ?_ hs)))
      rw [State.traceMode_seat, State.logRefusal_seat]
  · exact hs

theorem Attends.ascendFor (reason : Nat) (hs : Attends w s) : Attends w (s.ascendFor reason) := by
  unfold State.ascendFor
  split
  · exact hs
  · refine Attends.modPower (fun _ => rfl) (.of_seat ?_ (hs.abortDescent reason false))
    exact ite_keeps State.seat rfl rfl

theorem Attends.dispatch (p c n : Nat) (hs : Attends w s) : Attends w (s.dispatch p c n) := by
  induction n generalizing s with
  | zero => exact hs
  | succ n ih =>
    unfold State.dispatch
    dsimp only
    split
    · split
      · exact hs
      · split
        · exact ih (.of_seat ((State.refuseSub_seat ..).trans rfl) hs)
        · split
          · exact hs.ascendFor 4
          · split
            · exact hs
            · split
              · exact .of_seat (State.takeFlight_seat ..) hs
              · exact hs
    · exact hs

theorem Attends.dispatchAll (p c : Nat) (hs : Attends w s) : Attends w (s.dispatchAll p c) := hs.dispatch p c _

/-! ### What the entry into ATTEND works through -/

theorem State.storeWcrt_seat (s : State) (p : Nat) : (s.storeWcrt p).seat = s.seat := by
  refine foldl_keeps State.seat ?_ (List.range 16) s
  exact fun _ _ => rfl

theorem State.loadCode_seat (s : State) (p c h : Nat) : (s.loadCode p c h).2.seat = s.seat := by
  unfold State.loadCode
  split
  · rfl
  · have hkeeps : ∀ {q : Prop} [Decidable q] {a b : Nat × State}, a.2.seat = s.seat → b.2.seat = s.seat → (if q then a else b).2.seat = s.seat :=
      fun ha hb => ite_keeps (fun r : Nat × State => r.2.seat) ha hb
    refine hkeeps rfl (hkeeps rfl (hkeeps rfl ?_))
    exact (State.because_seat ..).trans (ite_keeps State.seat rfl rfl)

theorem Attends.reloadContext (p c : Nat) (hs : Attends w s) : Attends w (s.reloadContext p c) := by
  have hfail : ∀ (code : Nat) {t : State}, Attends w t →
      Attends w (((t.modCtx p c fun x => { x with reload := none, lastCode := code }).logError 0x0707 p 0 ([byteOf p, byteOf c] ++ be 2 code)).dispatchAll p c) :=
    fun code t ht => Attends.dispatchAll p c (.of_seat (State.logError_seat ..) ht)
  unfold State.reloadContext
  split
  · exact hs
  · dsimp only
    split
    · exact hs
    · split
      · exact hfail _ hs
      · split
        · exact hfail _ hs
        · split
          · exact hs
          · split
            · exact hfail _ (.of_seat (State.loadCode_seat ..) hs)
            · refine Attends.dispatchAll p c (.of_seat ?_ hs)
              exact (State.storeWcrt_seat ..).trans (State.loadCode_seat ..)

theorem Attends.reloadPart (p : Nat) (hs : Attends w s) : Attends w (s.reloadPart p) := by
  refine Attends.foldl ?_ _ hs
  exact fun s c h => h.reloadContext p c

theorem Attends.reclaim (p : Nat) (hs : Attends w s) : Attends w (s.reclaim p) := by
  unfold State.reclaim
  split
  · exact hs
  · refine Attends.foldl ?_ _ (hs.modPower fun _ => rfl)
    intro t e ht
    refine .of_seat ?_ ht
    split
    · rfl
    · exact ite_keeps State.seat rfl (ite_keeps State.seat (State.objectRefused_seat ..) (State.takeClaim_seat ..))

theorem State.clearBindings_seat (s : State) (p : Nat) : (s.clearBindings p).seat = s.seat := by
  refine foldl_keeps State.seat ?_ (List.range 16) s
  exact fun _ _ => rfl

theorem Attends.workPlan (hs : Attends w s) : Attends w s.workPlan := by
  refine Attends.foldl ?_ _ hs
  exact fun t p ht => .of_seat (State.clearBindings_seat ..) ((ht.reclaim p).reloadPart p)

theorem Attends.emptyStore (hs : Attends w s) : Attends w s.emptyStore := by
  have hentries : (s.power.store.foldl (fun s e => if e.1 = 1 then s.refusalEntry e.2 else s.errorEntry e.2) s).seat = s.seat := by
    refine foldl_keeps State.seat ?_ _ s
    exact fun _ _ => ite_keeps State.seat rfl rfl
  exact Attends.modPower (fun _ => rfl) (Attends.of_seat (w := w) (t := { s.power.store.foldl (fun s e => if e.1 = 1 then s.refusalEntry e.2 else s.errorEntry e.2) s with
    errorLog := _, refusalLog := _ }) hentries hs)

theorem State.startArray_seat (s : State) : s.startArray.seat = s.seat := ite_keeps State.seat rfl rfl

theorem State.forwardLive_seat (s : State) : s.forwardLive.seat = s.seat := ite_keeps State.seat rfl rfl

theorem State.beginRow0_seat (s : State) : s.beginRow0.seat = s.seat := State.forwardLive_seat _

theorem State.noteArray_seat (s : State) (q : Nat) : (s.noteArray q).seat = s.seat := by
  unfold State.noteArray
  split <;> rfl

theorem State.fillPinned_seat (s : State) : s.fillPinned.seat = s.seat := by
  refine foldl_keeps State.seat ?_ _ s
  intro t o
  refine foldl_keeps State.seat ?_ _ t
  exact fun u c => State.cacheSpan_keeps State.seat (fun _ _ => rfl) ..

theorem State.remakeRing_seat (s : State) (e : Nat × Nat × Nat × Nat × Nat) : (s.remakeRing e).seat = s.seat := by
  obtain ⟨p, c, sub, size, consumer⟩ := e
  unfold State.remakeRing
  dsimp only
  refine ite_keeps State.seat ?_ (ite_keeps State.seat ?_ ?_)
  · rw [State.logError_seat, State.setObj_seat]
  · split
    · refine ite_keeps State.seat ?_ ?_
      · rw [State.takeClaim_seat, State.setObj_seat, State.newObj_seat]
      · rw [State.objectRefused_seat, State.setObj_seat, State.newObj_seat]
    · rw [State.setObj_seat, State.newObj_seat]
  · rw [State.setObj_seat, State.newObj_seat]

theorem State.camViolation_seat (s : State) (k code : Nat) (d : Bytes) : (s.camViolation k code d).seat = s.seat := State.logViolation_seat ..

theorem State.remakeOutputs_seat (s : State) : s.remakeOutputs.seat = s.seat := by
  refine foldl_keeps State.seat ?_ _ s
  intro t e
  dsimp only
  refine ite_keeps State.seat rfl ?_
  split
  · rw [State.camViolation_seat, State.setObj_seat]
  · refine ite_keeps State.seat ?_ ?_
    · rw [State.camViolation_seat, State.setObj_seat]
    · rw [State.setObj_seat, State.newObj_seat]

theorem State.liveFeed_seat (s : State) (k : Nat) : (s.liveFeed k).seat = s.seat := ite_keeps State.seat rfl rfl

theorem State.startTxAll_seat (s : State) : s.startTxAll.seat = s.seat := by
  refine foldl_keeps State.seat ?_ (List.range 64) s
  exact fun _ _ => ite_keeps State.seat rfl rfl

theorem State.armAll_seat (s : State) : s.armAll.seat = s.seat := by
  obtain ⟨l, hl⟩ := State.armAll_eq s
  rw [hl]
  rfl

theorem State.joinGroups_seat (s : State) : s.joinGroups.seat = s.seat := State.modNet_seat ..
theorem State.retestMics_seat (s : State) (l : List Nat) : (s.retestMics l).seat = s.seat := rfl
theorem State.slotsOff_seat (s : State) (l : List Nat) : (s.slotsOff l).seat = s.seat := rfl

/-! ### The wanted descent at the end -/

theorem State.settleWanted_of_none (h : s.power.wanted = none) : s.settleWanted = s := by
  rw [State.settleWanted, h]

theorem State.startDescent_mode (s : State) (target origin : Nat) : (s.startDescent target origin).mode = s.mode := ite_keeps State.mode rfl rfl

theorem State.recordRefusal_mode (s : State) (r : Refuser) (target origin : Nat) : (s.recordRefusal r target origin).mode = s.mode := by
  unfold State.recordRefusal State.traceMode
  rw [State.capture_mode, State.countPower_mode, State.logRefusal_mode]

theorem State.settleWanted_mode (s : State) : s.settleWanted.mode = s.mode := by
  unfold State.settleWanted
  split
  · rfl
  · refine ite_keeps State.mode rfl ?_
    split
    · exact State.recordRefusal_mode ..
    · exact State.startDescent_mode ..

/-! ### The entry into ATTEND, in its stages -/

/-- The clocks run, the dictionary is served and the records kept for it are written. -/
def State.attendBegun (s : State) : State :=
  ({ (State.enter 4 { s.toNs112 with serving := true }) with ascend := false }.modPower fun x => { x with up := none, retries := 0, failed := false, down := none }).emptyStore

/-- The microphones are tested again and the array starts. -/
def State.earsStarted (pass : List Nat) (s : State) : State :=
  let s := ((s.slotsOff []).retestMics pass).startArray.beginRow0
  match s.afe.held with
  | some q => s.noteArray q
  | none => s

/-- The pinned lines are filled again, or the rings and outputs are made again. -/
def State.memoryRemade (from_ : Nat) (s : State) : State :=
  (if from_ = 3 then s.fillPinned else ((s.modFlash Flash.reload).power.rings.foldl (fun s e => s.remakeRing e) (s.modFlash Flash.reload)).remakeOutputs).modPower
    fun x => { x with rings := [], outs := [] }

/-- The models are promoted and the plan of each partition is worked. -/
def State.workRemade (from_ : Nat) (s : State) : State :=
  (if from_ = 3 then s else s.modCascade fun x => { x with owed := [0, 1, 2], promoting := none, gongAsked := false }).promoteAll.workPlan

/-- The feeds, the transmitters, the client and the triggers start. -/
def State.feedsStarted (s : State) : State := ((List.range 16).foldl (fun s k => s.liveFeed k) s).startTxAll.joinGroups.contactServer.armAll

theorem State.entersAttend_eq (s : State) (from_ : Nat) (pass : List Nat) :
    s.entersAttend from_ pass = ((((s.attendBegun.earsStarted pass).memoryRemade from_).workRemade from_).feedsStarted).settleWanted := rfl

theorem State.attendBegun_attends (s : State) : Attends s.power.wanted s.attendBegun := by
  refine Attends.emptyStore (Attends.modPower (fun _ => rfl) ?_)
  refine Attends.of_seat (s := State.countPower 4 { s.toNs112 with serving := true, mode := 4 }) (State.traceMode_seat ..) ?_
  exact ⟨rfl, rfl, rfl⟩

theorem Attends.earsStarted (pass : List Nat) (hs : Attends w s) : Attends w (s.earsStarted pass) := by
  have hstarted : (((s.slotsOff []).retestMics pass).startArray.beginRow0).seat = s.seat := by
    rw [State.beginRow0_seat, State.startArray_seat, State.retestMics_seat, State.slotsOff_seat]
  unfold State.earsStarted
  dsimp only
  split
  · exact .of_seat ((State.noteArray_seat ..).trans hstarted) hs
  · exact .of_seat hstarted hs

theorem Attends.memoryRemade (from_ : Nat) (hs : Attends w s) : Attends w (s.memoryRemade from_) := by
  unfold State.memoryRemade
  refine Attends.modPower (fun _ => rfl) (.of_seat (ite_keeps State.seat (State.fillPinned_seat s) ?_) hs)
  rw [State.remakeOutputs_seat]
  refine (foldl_keeps State.seat ?_ _ _).trans rfl
  exact fun s e => State.remakeRing_seat s e

theorem Attends.workRemade (from_ : Nat) (hs : Attends w s) : Attends w (s.workRemade from_) := by
  unfold State.workRemade
  refine Attends.workPlan (.of_seat ?_ hs)
  rw [State.promoteAll_seat]
  exact ite_keeps State.seat rfl rfl

theorem State.liveFeeds_seat (s : State) : ((List.range 16).foldl (fun s k => s.liveFeed k) s).seat = s.seat := by
  refine foldl_keeps State.seat ?_ (List.range 16) s
  exact fun s k => State.liveFeed_seat s k

theorem Attends.feedsStarted (hs : Attends w s) : Attends w s.feedsStarted := by
  unfold State.feedsStarted
  refine .of_seat ?_ hs
  rw [State.armAll_seat, State.contactServer_seat, State.joinGroups_seat, State.startTxAll_seat, State.liveFeeds_seat]

/-- The entry stands in ATTEND with the dictionary served, up to the descent that may be wanted. -/
theorem State.entersAttend_attends (s : State) (from_ : Nat) (pass : List Nat) : ∃ t, Attends s.power.wanted t ∧ s.entersAttend from_ pass = t.settleWanted :=
  ⟨_, ((((s.attendBegun_attends).earsStarted pass).memoryRemade from_).workRemade from_).feedsStarted, s.entersAttend_eq from_ pass⟩

end

end Sys2Proof.Machine
end

section
/-! SUPPORT. Transitions between the modes. -/

namespace Sys2Proof.Machine

theorem State.supplyLate_mode (s : State) (from_ to_ step : Nat) : (s.supplyLate from_ to_ step).mode = s.mode := by
  obtain ⟨x, e, f, v, t, st, lost, heq⟩ := State.logAon_eq 0 0x0B0A 0xFF 0 [byteOf from_, byteOf to_, byteOf step] (s.countPower 8)
  unfold State.supplyLate State.traceMode
  rw [State.capture_mode, heq]
  rfl

theorem State.supplyLate_power_retries (s : State) (from_ to_ step : Nat) : (s.supplyLate from_ to_ step).power.retries = s.power.retries := by
  obtain ⟨x, e, f, v, t, st, lost, heq⟩ := State.logAon_eq 0 0x0B0A 0xFF 0 [byteOf from_, byteOf to_, byteOf step] (s.countPower 8)
  unfold State.supplyLate State.traceMode
  rw [State.capture_power, heq]
  rfl

theorem State.enter_mode (s : State) (m : Nat) : (s.enter m).mode = m := State.capture_mode ..

theorem State.contactServer_mode (s : State) : s.contactServer.mode = s.mode := congrArg Prod.fst s.contactServer_seat

theorem State.contactServer_power (s : State) : s.contactServer.power = s.power := congrArg (fun x => x.2.2) s.contactServer_seat

theorem State.entersAttend_mode (s : State) (from_ : Nat) (pass : List Nat) : (s.entersAttend from_ pass).mode = 4 := by
  obtain ⟨t, ⟨hmode, _, _⟩, heq⟩ := s.entersAttend_attends from_ pass
  rw [heq, State.settleWanted_mode, hmode]

/-- Where no descent is wanted the entry ends with the dictionary served. -/
theorem State.entersAttend_serving {s : State} (h : s.power.wanted = none) (from_ : Nat) (pass : List Nat) : (s.entersAttend from_ pass).serving = true := by
  obtain ⟨t, ⟨_, hserving, hwanted⟩, heq⟩ := s.entersAttend_attends from_ pass
  rw [heq, State.settleWanted_of_none (hwanted.trans h), hserving]

/-- The state in which HIBERNATE has ended and the part listens. -/
def State.awoken (s : State) (target : Nat) : State :=
  let s := s.spend 4000
  let s := { s with time := { s.time with secInc := secIncrementOf false s.time.freq s.time.sleepPpb } }
  let s := s.modAfe fun x => { x with atc := 12288, phase := 0, epoch := x.epoch + 1, map := none, tcx := { s0 := 11060 }, preroll := {}, gaps := [] }
  (s.enter 2).modPower fun x => { x with up := if target = 2 then none else some target, since := s.nowTicks }

theorem execHibernateToListen_of_up {s : State} {target : Nat} (hup : s.power.up = some target) (hmode : s.mode = 1) (hbraced : s.power.braced = false) :
    execHibernateToListen s = .next (s.settle (s.awoken target)) := by
  unfold execHibernateToListen
  rw [hup]
  exact settled_eq (if_neg (by simp [hmode, hbraced]))

theorem State.spend_frame (s : State) (us : Nat) : (s.spend us).afe.epoch = s.afe.epoch ∧ (s.spend us).objects = s.objects ∧ (s.spend us).keys = s.keys := by
  simp [State.spend]

theorem State.awoken_frame (s : State) (target : Nat) : (s.awoken target).mode = 2 ∧ (s.awoken target).afe.atc = 12288 ∧
    (s.awoken target).afe.epoch = s.afe.epoch + 1 ∧ (s.awoken target).objects = s.objects ∧ (s.awoken target).keys = s.keys := by
  obtain ⟨hepoch, hobjects, hkeys⟩ := s.spend_frame 4000
  simp [State.awoken, State.enter, State.traceMode, hepoch, hobjects, hkeys]

section
variable {s : State} {pass : List Nat} (hup : s.power.up = some 4) (hfailed : s.power.failed = false) (hbraced : s.power.braced = false)
include hup hfailed hbraced

theorem State.listenToAttend_of_pg (hmode : s.mode = 2 ∨ s.mode = 3) : s.listenToAttend true pass = (s.spend 600).entersAttend s.mode pass := by
  unfold State.listenToAttend
  rw [if_neg (by simp [hup, hfailed, hbraced]; omega), if_neg (by simp)]

theorem State.listenToAttend_of_late (hmode : s.mode = 2) : s.listenToAttend false pass =
    (s.supplyLate 2 4 170).modPower fun x => if x.retries < 3 then { x with failed := true } else { x with up := none, retries := 0 } := by
  unfold State.listenToAttend
  rw [if_neg (by simp [hup, hfailed, hbraced, hmode]), if_pos ⟨hmode, rfl⟩]

end

/-- The state in which ACTIVE has been entered. -/
def State.activated (s : State) : State :=
  { (((s.spend 2500).slotsOff s.chimeSlots).enter 5) with ascend := false }.modPower fun x => { x with retries := 0 }

section
variable {s : State} (hmode : s.mode = 4) (hascend : s.ascend = true) (hdown : s.power.down = none) (hfailed : s.power.failed = false)
  (hbraced : s.power.braced = false)
include hmode hascend hdown hfailed hbraced

theorem State.attendToActive_of_ack : s.attendToActive true =
    ((List.range 8).foldl (fun s p => s.dispatchPart p) ((List.range 8).foldl (fun s p => s.serveNext p) s.activated).promoteAll).settleWanted := by
  unfold State.attendToActive
  rw [if_neg (by simp [hmode, hascend, hdown, hfailed, hbraced]), if_neg (by decide)]
  rfl

theorem State.attendToActive_of_late : s.attendToActive false = if s.power.retries < 3 then (s.supplyLate 4 5 2400).modPower fun x => { x with failed := true }
    else { s.supplyLate 4 5 2400 with ascend := false }.modPower fun x => { x with retries := 0 } := by
  unfold State.attendToActive
  rw [if_neg (by simp [hmode, hascend, hdown, hfailed, hbraced]), if_pos (by decide)]

end

/-- The slots and cameras that the descent to ATTEND stops are off. -/
def State.deactivated (s : State) : State := ((s.spend 1000).stopCams (s.cfg 0x2300 5)).slotsOff s.chimeSlots

section
variable {s : State} {origin : Nat} (hdown : s.power.down = some (4, origin)) (hmode : s.mode = 5) (hbraced : s.power.braced = false)
  (hrefuser : s.refuser 4 false = none)
include hdown hmode hbraced hrefuser

theorem State.activeToAttend_of_ack : s.activeToAttend true =
    ((s.deactivated.enter 4).modPower fun x => { x with down := none, since := s.deactivated.nowTicks }).contactServer := by
  unfold State.activeToAttend
  rw [hdown]
  dsimp only
  rw [if_neg (by simp [hmode, hbraced]), hrefuser]
  dsimp only
  rw [if_neg (by decide), if_neg (by decide)]
  exact if_pos (Or.inl (Nat.le_refl 4))

theorem State.activeToAttend_of_late : s.activeToAttend false =
    ((s.slotsOff s.chimeSlots).supplyLate 5 4 1000).modPower fun x => { x with down := none } := by
  unfold State.activeToAttend
  rw [hdown]
  dsimp only
  rw [if_neg (by simp [hmode, hbraced]), hrefuser]
  rfl

end

theorem execDescentFromAttend_of_down {s : State} {target origin : Nat} (hdown : s.power.down = some (target, origin)) (hmode : s.mode = 4)
    (hbraced : s.power.braced = false) (hrefuser : s.refuser target (origin == 2) = none) :
    execDescentFromAttend none s = .next (s.settle (s.descend target target)) := by
  unfold execDescentFromAttend
  rw [hdown]
  dsimp only
  rw [if_neg (by simp [hmode, hbraced]), hrefuser]
  rfl

end Sys2Proof.Machine

open Sys2Proof.Machine

/-- Settles O32: each transition by whether its supply came. -/
theorem transitionsReachTheirMode : Obligations.TransitionsReachTheirMode := by
  refine ⟨fun s target hup hmode hbraced => ?_, fun s pass hmode hup hfailed hbraced => ?_,
    fun s from_ pass => ⟨s.entersAttend_mode from_ pass, fun h => State.entersAttend_serving h from_ pass⟩,
    fun s pass hmode hup hfailed hbraced => ⟨?_, ?_⟩, fun s hmode hascend hdown hfailed hbraced => ⟨?_, ?_⟩,
    fun s hmode hascend hdown hfailed hbraced => ⟨?_, fun hfew => ?_, fun hspent => ?_⟩,
    fun s origin hdown hmode hbraced hrefuser => ⟨?_, ?_, ?_, ?_, ?_⟩, fun s target origin hdown hmode hbraced hrefuser => ?_⟩
  · obtain ⟨hm, hatc, hepoch, hobjects, hkeys⟩ := s.awoken_frame target
    refine ⟨_, execHibernateToListen_of_up hup hmode hbraced, hm, ?_, hepoch, hobjects, hkeys⟩
    rw [State.settle_afe]
    exact congrArg (· % 2 ^ 64) hatc
  · exact settled_eq (congrArg State.finishService (State.listenToAttend_of_pg hup hfailed hbraced hmode))
  · exact (State.supplyLate_mode ..).trans hmode
  · exact settled_eq (congrArg State.finishService (State.listenToAttend_of_late hup hfailed hbraced hmode))
  · exact State.enter_mode ..
  · exact settled_eq (congrArg State.finishService (State.attendToActive_of_ack hmode hascend hdown hfailed hbraced))
  · exact (State.supplyLate_mode ..).trans hmode
  · exact settled_eq (congrArg State.finishService ((State.attendToActive_of_late hmode hascend hdown hfailed hbraced).trans (if_pos hfew)))
  · exact settled_eq (congrArg State.finishService ((State.attendToActive_of_late hmode hascend hdown hfailed hbraced).trans (if_neg (by omega))))
  · rw [State.contactServer_mode]
    exact State.enter_mode ..
  · rw [State.contactServer_power]
    rfl
  · exact settled_eq (congrArg State.finishService (State.activeToAttend_of_ack hdown hmode hbraced hrefuser))
  · exact settled_eq (congrArg State.finishService (State.activeToAttend_of_late hdown hmode hbraced hrefuser))
  · exact (State.supplyLate_mode ..).trans hmode
  · exact ⟨_, execDescentFromAttend_of_down hdown hmode hbraced hrefuser, State.enter_mode .., rfl⟩

end

section
/-! SUPPORT. Starts: the end of a start, the start that follows a fall, and the requests for a reset. -/

namespace Sys2Proof.Machine

/-! ### The end of a start -/

theorem State.mode_of_seat {s t : State} (h : s.seat = t.seat) : s.mode = t.mode := congrArg Prod.fst h

theorem State.serving_of_seat {s t : State} (h : s.seat = t.seat) : s.serving = t.serving := congrArg (fun x => x.2.1) h

theorem State.startArray_ras (s : State) : s.startArray.ras = s.ras := ite_keeps State.ras rfl rfl

theorem State.beginRow0_ras (s : State) : s.beginRow0.ras = s.ras := ite_keeps State.ras rfl rfl

theorem State.liveFeeds_ras (s : State) : ((List.range 16).foldl (fun s k => s.liveFeed k) s).ras = s.ras := by
  refine foldl_keeps State.ras ?_ (List.range 16) s
  exact fun _ _ => ite_keeps State.ras rfl rfl

theorem State.startTxAll_ras (s : State) : s.startTxAll.ras = s.ras := by
  refine foldl_keeps State.ras ?_ (List.range 64) s
  exact fun _ _ => ite_keeps State.ras rfl rfl

theorem State.armAll_ras (s : State) : s.armAll.ras = s.ras := by
  obtain ⟨l, hl⟩ := State.armAll_eq s
  rw [hl]

/-- The cameras that the configuration enables are enabled. -/
def State.camsStarted (s : State) : State := (List.range 8).foldl (fun s k => if s.camCfg k 2 = 1 then s.enableCam k true else s) s

theorem State.camsStarted_seat (s : State) : s.camsStarted.seat = s.seat := by
  refine foldl_keeps State.seat ?_ (List.range 8) s
  exact fun _ _ => ite_keeps State.seat rfl rfl

theorem State.camsStarted_ras (s : State) : s.camsStarted.ras = s.ras := by
  refine foldl_keeps State.ras ?_ (List.range 8) s
  exact fun _ _ => ite_keeps State.ras rfl rfl

/-- The state in which ATTEND has been entered by a start, up to the record of the start. -/
def State.devicesStarted (mics : List Nat) (s : State) : State :=
  let s := (((State.enter 4 { s.toNs112 with serving := true, ascend := false }).retestMics mics).startArray.beginRow0).camsStarted
  ((List.range 16).foldl (fun s k => s.liveFeed k) s).startTxAll.joinGroups.armAll

theorem State.devicesStarted_seat (s : State) (mics : List Nat) :
    (s.devicesStarted mics).seat = (State.enter 4 { s.toNs112 with serving := true, ascend := false }).seat := by
  unfold State.devicesStarted
  dsimp only
  rw [State.armAll_seat, State.joinGroups_seat, State.startTxAll_seat, State.liveFeeds_seat, State.camsStarted_seat, State.beginRow0_seat,
    State.startArray_seat, State.retestMics_seat]

theorem State.devicesStarted_ras (s : State) (mics : List Nat) : (s.devicesStarted mics).ras = s.ras := by
  have hjoin : ∀ t : State, t.joinGroups.ras = t.ras := fun t => State.modNet_ras t _
  unfold State.devicesStarted
  dsimp only
  rw [State.armAll_ras, hjoin, State.startTxAll_ras, State.liveFeeds_ras, State.camsStarted_ras, State.beginRow0_ras, State.startArray_ras]
  exact State.capture_ras ..

/-- The record of the start, once its devices have started. -/
def State.startRecorded (t : State) : State :=
  let s := t.modRas fun x => { x with startNs := (t.nowNs : Int), cold := none, held := false, recovery := false, asked := none, deferred := none, timesKey := t.freeCount }
  { s with freeCount := s.freeCount + 1, ascend := s.effectiveFloor == 5 }.modPower fun x => { x with since := s.nowTicks }

theorem State.finishStart_eq (s : State) (mics : List Nat) : s.finishStart mics = (s.devicesStarted mics).startRecorded := rfl

theorem State.startRecorded_frame (t : State) : t.startRecorded.mode = t.mode ∧ t.startRecorded.serving = t.serving ∧ t.startRecorded.ras.reason = t.ras.reason ∧
    t.startRecorded.ras.recovery = false ∧ t.startRecorded.ras.cold = none := ⟨rfl, rfl, rfl, rfl, rfl⟩

/-- A start ends in ATTEND with the dictionary served, keeps the reason it was given and leaves nothing to start. -/
theorem State.finishStart_frame (s : State) (mics : List Nat) : (s.finishStart mics).mode = 4 ∧ (s.finishStart mics).serving = true ∧
    (s.finishStart mics).ras.reason = s.ras.reason ∧ (s.finishStart mics).ras.recovery = false ∧ (s.finishStart mics).ras.cold = none := by
  have hseat := s.devicesStarted_seat mics
  obtain ⟨hmode, hserving, hreason, hrecovery, hcold⟩ := (s.devicesStarted mics).startRecorded_frame
  rw [State.finishStart_eq, hmode, hserving, hreason, s.devicesStarted_ras mics]
  refine ⟨?_, ?_, rfl, hrecovery, hcold⟩
  · rw [State.mode_of_seat hseat, State.enter_mode]
  · rw [State.serving_of_seat hseat, State.enter, State.traceMode, State.capture_serving, State.countPower_serving]

/-! ### The start that follows a fall -/

/-- The state in which the part has tested itself. -/
def State.selfTested (t : SelfTest) (s : State) : State :=
  let s := State.checkSaved t { s with time := { s.time with secns := max s.time.secns (2800000000 * 2 ^ 32) } }
  let s := s.modRas fun x => { x with mcus := mcuStates t.mcus, training := List.replicate 8 (t.tj, none, 1) }
  let s := (s.testSlots t).modTiers fun x => { x with slices := sliceStates t.slices, groups := x.groups.map fun (g : DramGroup) => { g with marked := [] } }
  t.lanes.foldl (fun s e => s.spareLane e.1 e.2) s

/-- The state in which the partitions run what was saved, once every image has its bank. -/
def State.savedRuns (t : SelfTest) (s : State) : State :=
  let s := s.modAfe fun x => { x with atc := 68726784, epoch := x.epoch + 1, tcx := {}, spare := t.mics.contains 32, micFailed := x.micFailed.filter (· < 32) ++ t.mics }
  (s.applySaved.setObj 0 0x1102 1 [0]).runPartitions

theorem State.bringUp_eq (s : State) (t : SelfTest) : s.bringUp t =
    if !((s.selfTested t).loadFirmware t).1 then ((s.selfTested t).loadFirmware t).2.modRas fun x => { x with recovery := true, reason := s.ras.cold.getD 0x0D01, kind := 1 }
    else ((((s.selfTested t).loadFirmware t).2.savedRuns t).modRas fun x =>
      { x with reason := s.ras.cold.getD 0x0D01, kind := 1, coldStarts := x.coldStarts + 1 }).finishStart (List.range 32) := rfl

/-- The start comes up with the fall's reason: in ATTEND, or with the recovery dictionary. -/
theorem State.bringUp_outcome (s : State) (t : SelfTest) : (s.bringUp t).ras.reason = s.ras.cold.getD 0x0D01 ∧
    ((s.bringUp t).ras.recovery = true ∨
      ((s.bringUp t).mode = 4 ∧ (s.bringUp t).serving = true ∧ (s.bringUp t).ras.recovery = false ∧ (s.bringUp t).ras.cold = none)) := by
  rw [State.bringUp_eq]
  split
  · exact ⟨rfl, Or.inl rfl⟩
  · obtain ⟨hmode, hserving, hreason, hrecovery, hcold⟩ := State.finishStart_frame ((((s.selfTested t).loadFirmware t).2.savedRuns t).modRas fun x =>
      { x with reason := s.ras.cold.getD 0x0D01, kind := 1, coldStarts := x.coldStarts + 1 }) (List.range 32)
    exact ⟨hreason, Or.inr ⟨hmode, hserving, hrecovery, hcold⟩⟩

theorem execColdStart_of_fallen {s : State} {t : SelfTest} {reason : Nat} (htripped : s.power.tripped = false) (hcold : s.ras.cold = some reason) :
    execColdStart t s =
      let s1 := s.modRas fun x => { x with plls := pllStates t.plls, recovery := false }
      settled s (if !(pllStates t.plls).contains 1 then s1 else if t.cold then s1.modRas fun x => { x with held := true } else s1.bringUp t) := by
  unfold execColdStart
  rw [if_neg (by simp [htripped]), hcold]
  rfl

/-! ### Requests for a reset -/

theorem State.modRas_congr {s : State} {f g : Ras → Ras} (h : f s.ras = g s.ras) : s.modRas f = s.modRas g := by
  unfold State.modRas
  rw [h]

section
variable {s : State} {cold : Bool} {w : WarmTest} (hcold : s.ras.cold = none) (reason : Nat)
include hcold

theorem State.requestReset_of_ready (hbraced : s.power.braced = false) (hready : cold = true ∨ w.programming = false) :
    s.requestReset reason cold w = if cold then s.fall reason else s.warmStart reason w := by
  have hwait : ¬(s.power.braced = true ∨ (!cold && w.programming) = true) := by
    rcases hready with h | h <;> simp [hbraced, h]
  unfold State.requestReset
  rw [hcold, if_neg (by decide), if_neg hwait]

theorem State.requestReset_of_waiting (hwait : s.power.braced = true ∨ (!cold && w.programming) = true) (hdeferred : s.ras.deferred = none) :
    s.requestReset reason cold w = s.modRas fun x => { x with deferred := some (reason, cold) } := by
  unfold State.requestReset
  rw [hcold, if_neg (by decide), if_pos hwait]
  refine State.modRas_congr ?_
  rw [hdeferred]

end

theorem State.requestReset_of_starting {s : State} {c : Nat} (hcold : s.ras.cold = some c) (reason : Nat) (cold : Bool) (w : WarmTest) :
    s.requestReset reason cold w = if cold then s else s.countRas 5 := by
  unfold State.requestReset
  rw [hcold, if_pos Option.isSome_some]

theorem execWarmResetDeferred_of_ready {s : State} {reason : Nat} {cold : Bool} {w : WarmTest} (hdeferred : s.ras.deferred = some (reason, cold))
    (hbraced : s.power.braced = false) (hready : cold = true ∨ w.programming = false) : execWarmResetDeferred w s =
      let s1 := s.modRas fun x => { x with deferred := none }
      .next (s.settle (if cold then s1.fall reason else s1.warmStart reason w)) := by
  unfold execWarmResetDeferred
  rw [hdeferred]
  refine settled_eq (if_neg ?_)
  rcases hready with h | h <;> simp [hbraced, h]

/-- Whether a stopped request would have waited as a whole is nothing to one that goes on. -/
theorem State.admitted_of_go {s s1 : State} {rq : Request} {op : Nat} {fits : Bytes → Bool} {w : Who} (h : s.admitted rq op fits = .go w s1) :
    s.admitted rq op fits true = .go w s1 := by
  unfold State.admitted at h ⊢
  dsimp only at h ⊢
  split at h
  · cases h
  · next hheard =>
    rw [if_neg hheard]
    split at h
    · cases h
    · cases h
    · split at h
      · cases h
      · next hversion =>
        rw [if_neg hversion]
        split at h
        · cases h
        · cases h
        · split at h
          · cases h
          · cases h
          · cases h
          · split at h
            · cases h
            · next hshare =>
              rw [if_neg hshare]
              split at h
              · cases h
              · next hop =>
                rw [if_neg hop]
                split at h
                · cases h
                · next hfits =>
                  rw [if_neg hfits]
                  split at h
                  · cases h
                  · next hturn =>
                    rw [if_neg hturn]
                    exact h

theorem State.respond_ras (rq : Request) (w : Who) (status typ : Nat) (v : Bytes) (s : State) (b : Bool) : (s.respond rq w status typ v b).ras = s.ras := by
  rw [State.respond_eq]

/-- A reset that is written is asked for once its request is answered. -/
theorem State.writeReset_of_true {name : String} {reason : Nat} {cold : Bool} {rq : Request} {s s1 : State} {w : Who} {t : Target} (hname : names rq name = true)
    (hgo : s.admitted rq 2 (fun _ => true) true = .go w s1) (htarget : s1.writeTarget w rq.frame false = .inr t) (hper : t.row.per ≠ .saved)
    (hvalue : ofBE rq.frame.payload = 1) (x : WarmTest) : s.writeReset name reason cold rq x =
      (((s1.modRas fun y => { y with asked := some (reason, cold) }).ok rq w).modRas fun y => { y with asked := none }).requestReset reason cold x := by
  have hwrite := State.ownWrite_of_passed (check := fun _ _ _ s => (0, s)) (commit := fun _ _ v s => if ofBE v = 1 then s.modRas fun x =>
    { x with asked := some (reason, cold) } else s) (block := false) hname hgo htarget rfl
  rw [if_neg hper, if_pos hvalue] at hwrite
  have hasked : ((s1.modRas fun y => { y with asked := some (reason, cold) }).ok rq w).ras.asked = some (reason, cold) :=
    congrArg Ras.asked (State.respond_ras ..)
  unfold State.writeReset
  dsimp only
  rw [hwrite, hasked]

end Sys2Proof.Machine

open Sys2Proof.Machine

/-- Settles O36: a cold start by what its tests found, what it comes up with, and the ends of the two holds. -/
theorem coldStartsFollowAFall : Obligations.ColdStartsFollowAFall := by
  refine ⟨fun s t htripped => settled_eq (if_pos htripped), fun s h htripped => ⟨fun hlow => settled_eq (if_pos ⟨htripped, hlow⟩), fun hhigh => settled_eq (if_neg (by omega))⟩,
    fun s t reason htripped hcold => ?_, fun s t => s.bringUp_outcome t, fun s ms t hheld hcold => ?_,
    fun s ms t hheld hcold => ⟨fun hshort => settled_eq (if_pos (Or.inr ⟨hcold, hshort⟩)), fun hlong => ?_⟩⟩
  · have hexec := execColdStart_of_fallen (t := t) htripped hcold
    refine ⟨fun hpll => hexec.trans (settled_eq (if_pos (by simp only [hpll]; decide))), fun hpll hwarm => hexec.trans (settled_eq ?_), fun hpll hchill => hexec.trans (settled_eq ?_)⟩
    · rw [if_neg (by simp only [hpll]; decide), hwarm]
      rfl
    · rw [if_neg (by simp only [hpll]; decide), hchill]
      rfl
  · refine settled_eq ((if_neg (by simp [hheld, hcold])).trans ?_)
    rw [hcold]
    rfl
  · refine settled_eq ((if_neg (by simp [hheld]; omega)).trans ?_)
    rw [hcold, Nat.min_eq_right hlong]
    rfl

/-- Settles O37: a request by what holds it back, and the two objects that make one. -/
theorem resetRequestsBeginOrWait : Obligations.ResetRequestsBeginOrWait := by
  refine ⟨fun s reason cold w hcold => ⟨fun hbraced hprogram => State.requestReset_of_ready hcold reason hbraced (Or.inr hprogram),
      fun hbraced hdeferred => State.requestReset_of_waiting hcold reason (Or.inl hbraced) hdeferred⟩,
    fun s reason cold w hdeferred hbraced hready => execWarmResetDeferred_of_ready hdeferred hbraced hready,
    fun s reason w hcold hprogram hdeferred => State.requestReset_of_waiting hcold reason (Or.inr (by simp [hprogram])) hdeferred,
    fun s reason w c hcold => ⟨State.requestReset_of_starting hcold reason true w, State.requestReset_of_starting hcold reason false w⟩,
    fun rq s s1 w t x hadmit htarget hper hvalue hasked => ⟨fun hname => settled_eq ?_, fun hname => settled_eq ?_⟩⟩
  · exact State.writeReset_of_true hname (State.admitted_of_go hadmit) htarget hper hvalue x
  · exact State.writeReset_of_true hname (State.admitted_of_go hadmit) htarget hper hvalue {}

end

section
/-! SUPPORT. The spares: microcontrollers, PLLs and lines of system data that fail in service. -/

namespace Sys2Proof.Machine

section
variable {s : State} {mcu duty : Nat} (hmode : 4 ≤ s.mode)
include hmode

/-- A microcontroller with a duty that fails: the spare takes the duty, or a warm start follows. -/
theorem execMcuFailure_of_duty (hmcu : s.ras.mcus.getD mcu (3, 7) = (1, duty)) (w : WarmTest) {k : Option Nat}
    (hspare : ((s.modRas fun y => { y with mcus := y.mcus.set mcu (3, 7) }).ras.mcus.findIdx? fun e => e.1 == 2) = k) : execMcuFailure mcu w s =
    let s1 := s.modRas fun y => { y with mcus := y.mcus.set mcu (3, 7) }
    .next (s.settle (k.elim (s1.requestReset 0x0D07 false w) fun k =>
      ((s1.modRas fun y => { y with mcus := y.mcus.set k (1, duty) }).countRas 2).logError 0x0D0C 0xFF 0 [byteOf mcu, byteOf duty])) := by
  unfold execMcuFailure
  dsimp only
  rw [hmcu, if_neg (by omega), if_neg (by simp), hspare]
  cases k <;> rfl

theorem execMcuFailure_of_spare (hmcu : s.ras.mcus.getD mcu (3, 7) = (2, duty)) (w : WarmTest) :
    execMcuFailure mcu w s = .next (s.settle (s.modRas fun y => { y with mcus := y.mcus.set mcu (3, 7) })) := by
  unfold execMcuFailure
  dsimp only
  rw [hmcu, if_neg (by omega)]
  rfl

variable {i : Nat} (hpll : s.ras.plls.findIdx? (· == 1) = some i)
include hpll

theorem execPllFailure_of_standby (hgood : (s.ras.plls.set i 3).getD (1 - i) 3 = 2) : execPllFailure s =
    let s1 := ((s.modRas fun x => { x with plls := (x.plls.set i 3).set (1 - i) 1 }).countRas 3).clockFault
    .next (s.settle (({ s1.free.2 with
      time := { s1.time with ns112 := s1.time.ns112 + s1.free.1 % (326 * 2 ^ 32 + 1) - 163 * 2 ^ 32 } }).logError 0x0D0D 0xFF 0 [])) := by
  have htwice : (s.modRas fun x => { x with plls := x.plls.set i 3 }).modRas (fun x => { x with plls := x.plls.set (1 - i) 1 }) =
      s.modRas fun x => { x with plls := (x.plls.set i 3).set (1 - i) 1 } := rfl
  unfold execPllFailure
  rw [if_neg (by omega), hpll]
  refine settled_eq ((if_neg (not_not_intro hgood)).trans ?_)
  rw [htwice]
  generalize State.clockFault _ = t
  dsimp only [State.free]

theorem execPllFailure_of_none (hbad : (s.ras.plls.set i 3).getD (1 - i) 3 ≠ 2) :
    execPllFailure s = .next (s.settle ((s.modRas fun x => { x with plls := x.plls.set i 3 }).fall 0x0D08)) := by
  unfold execPllFailure
  rw [if_neg (by omega), hpll]
  exact settled_eq (if_pos hbad)

end

end Sys2Proof.Machine

open Sys2Proof.Machine

/-- Settles O38: each failure by whether a spare is left, and a lost line by its kind. -/
theorem sparesTakeOver : Obligations.SparesTakeOver := by
  refine ⟨fun s mcu duty k w hmode hmcu => ⟨fun hspare => execMcuFailure_of_duty hmode hmcu w hspare, fun hnone => execMcuFailure_of_duty hmode hmcu w hnone⟩,
    fun s mcu duty w hmode hmcu => execMcuFailure_of_spare hmode hmcu w, fun s i hmode hpll hgood => execPllFailure_of_standby hmode hpll hgood,
    fun s i hmode hpll hbad => execPllFailure_of_none hmode hpll hbad, fun s hmode => settled_eq (if_neg (by omega)), fun s addr handles w hmode => ?_⟩
  have hawake : ¬ s.mode < 4 := by omega
  exact ⟨settled_eq (if_neg hawake), settled_eq (if_neg hawake), settled_eq (if_neg hawake), settled_eq (if_neg hawake)⟩

end

section
/-! SUPPORT. The cache, the refresh and the flash window. -/

namespace Sys2Proof.Machine

/-! ### The cache changes its lines alone -/

theorem State.cacheAccess_lines (p : Nat) (o : Obj) (write noAlloc : Bool) (s : State) (i : Nat) :
    ∃ l, s.cacheAccess p o write noAlloc i = s.modTiers fun t => { t with lines := l } := by
  unfold State.cacheAccess
  dsimp only
  split
  · exact ⟨_, rfl⟩
  · split
    · exact ⟨_, rfl⟩
    · split
      · exact ⟨_, rfl⟩
      · exact ⟨_, rfl⟩

/-- What is beside the cache's lines is kept by an access of any length. -/
theorem State.cacheSpan_keeps_beside {γ : Type} (φ : State → γ) (h : ∀ s l, φ (s.modTiers fun t => { t with lines := l }) = φ s) (s : State) (p : Nat) (o : Obj)
    (off len : Nat) (write noAlloc : Bool) : φ (s.cacheSpan p o off len write noAlloc) = φ s := by
  unfold State.cacheSpan
  refine ite_keeps φ rfl (foldl_keeps φ ?_ _ s)
  intro t i
  obtain ⟨l, hl⟩ := State.cacheAccess_lines p o write noAlloc t i
  rw [hl, h]

theorem State.fillPinned_keeps_beside {γ : Type} (φ : State → γ) (h : ∀ s l, φ (s.modTiers fun t => { t with lines := l }) = φ s) (s : State) : φ s.fillPinned = φ s := by
  refine foldl_keeps φ ?_ _ s
  intro t o
  refine foldl_keeps φ ?_ _ t
  exact fun u c => State.cacheSpan_keeps_beside φ h ..

theorem State.settleWays_lines {s : State} {p : Nat} : ∀ l ∈ (s.settleWays p).tiers.lines, l ∈ s.tiers.lines ∧ (l.part = p → (s.area p 0x60 1).testBit l.way = true) := by
  intro l hl
  obtain ⟨hmem, hstays⟩ := List.mem_filter.mp hl
  exact ⟨hmem, fun hp => by simpa [hp] using hstays⟩

/-- The slices once one has failed: it is retired, and the spare serves in its place where it is free. -/
def slicesAfter (slice : Nat) (t : Tiers) : List Nat :=
  if decide (t.slices.getD 16 3 % 8 = 2) && slice != 16 then (t.slices.set slice (3 + 8 * 31)).set 16 (1 + 8 * (t.slices.getD slice 3 / 8)) else t.slices.set slice (3 + 8 * 31)

/-- A slice that is in service fails with no line lost. -/
theorem execSliceFailure_of_serving {slice : Nat} {s : State} (hserves : s.tiers.slices.getD slice 3 % 8 = 1) : ∃ u, execSliceFailure slice [] s = .next u ∧
    u.tiers.slices = slicesAfter slice s.tiers ∧ u.ras.counts = bump s.ras.counts 1 ∧ u.objects = s.objects := by
  refine ⟨_, settled_eq (if_neg (by omega)), ?_, ?_, ?_⟩
  · simp only [State.settle_tiers, List.filter_nil, List.foldl_nil, State.logError_tiers]
    exact State.fillPinned_keeps_beside (fun s => s.tiers.slices) (fun _ _ => rfl) _
  · simp only [State.settle_ras, List.filter_nil, List.foldl_nil, State.logError_ras]
    exact congrArg (bump ·.counts 1) (State.fillPinned_keeps_beside State.ras (fun _ _ => rfl) _)
  · simp only [State.settle_objects, List.filter_nil, List.foldl_nil, State.logError_objects]
    exact State.fillPinned_keeps_beside State.objects (fun _ _ => rfl) _

/-! ### The work of the translation layer -/

/-- What the work of the translation layer leaves as it is. -/
def State.besideFlash (s : State) : Bool × List Nat × List Obj × List Nat × List Nat :=
  (s.tiers.windowOpen, s.tiers.slices, s.objects, s.tiers.flash.rewrite, s.tiers.badBlocks)

theorem State.modFlash_besideFlash (s : State) {f : Flash → Flash} (h : ∀ x, (f x).rewrite = x.rewrite) : (s.modFlash f).besideFlash = s.besideFlash := by
  unfold State.besideFlash State.modFlash State.modTiers
  rw [h]

theorem State.openStripe_besideFlash (s : State) : s.openStripe.besideFlash = s.besideFlash := by
  unfold State.openStripe
  refine (State.modFlash_besideFlash _ ?_).trans rfl
  exact fun _ => rfl

theorem State.programPage_besideFlash (s : State) (page : Nat) : (s.programPage page).besideFlash = s.besideFlash := by
  unfold State.programPage
  refine (State.modFlash_besideFlash _ ?_).trans (ite_keeps State.besideFlash (State.openStripe_besideFlash s) rfl)
  exact fun _ => rfl

theorem State.modTiers_besideFlash (s : State) {f : Tiers → Tiers} (h : ∀ t, ((f t).windowOpen, (f t).slices, (f t).flash.rewrite, (f t).badBlocks) =
    (t.windowOpen, t.slices, t.flash.rewrite, t.badBlocks)) : (s.modTiers f).besideFlash = s.besideFlash := by
  have hf := h s.tiers
  simp only [Prod.mk.injEq] at hf
  obtain ⟨hwindow, hslices, hrewrite, hbad⟩ := hf
  unfold State.besideFlash State.modTiers
  rw [hwindow, hslices, hrewrite, hbad]

theorem State.evacuate_besideFlash (s : State) (block : Nat) : (s.evacuate block).besideFlash = s.besideFlash := by
  unfold State.evacuate
  refine (State.modTiers_besideFlash _ ?_).trans ((State.modFlash_besideFlash _ ?_).trans ?_)
  · exact fun _ => rfl
  · exact fun _ => rfl
  · refine (foldl_keeps State.besideFlash State.programPage_besideFlash _ _).trans (ite_keeps State.besideFlash ?_ rfl)
    exact State.modFlash_besideFlash s fun _ => rfl

theorem State.refreshBlocks_besideFlash (s : State) (limit : Nat) : (s.refreshBlocks limit).besideFlash = s.besideFlash := by
  unfold State.refreshBlocks
  refine (State.modTiers_besideFlash _ ?_).trans (foldl_keeps State.besideFlash State.evacuate_besideFlash _ s)
  exact fun _ => rfl

theorem State.collect_besideFlash (n : Nat) (s : State) : (s.collect n).besideFlash = s.besideFlash := by
  induction n generalizing s with
  | zero => rfl
  | succ n ih =>
    unfold State.collect
    refine ite_keeps State.besideFlash rfl ?_
    split
    · rfl
    · exact (ih _).trans (State.evacuate_besideFlash ..)

theorem State.level_besideFlash (n : Nat) (s : State) : (s.level n).besideFlash = s.besideFlash := by
  induction n generalizing s with
  | zero => rfl
  | succ n ih =>
    unfold State.level
    dsimp only
    split
    · rfl
    · exact ite_keeps State.besideFlash rfl ((ih _).trans (State.evacuate_besideFlash ..))

/-- What the work of the translation layer leaves as it is, where it finds more bad blocks. -/
def State.besideBlocks (s : State) : Bool × List Nat × List Obj × List Nat := (s.tiers.windowOpen, s.tiers.slices, s.objects, s.tiers.flash.rewrite)

theorem State.besideBlocks_of_besideFlash {s t : State} (h : s.besideFlash = t.besideFlash) : s.besideBlocks = t.besideBlocks :=
  congrArg (fun x => (x.1, x.2.1, x.2.2.1, x.2.2.2.1)) h

theorem State.badBlocks_of_besideFlash {s t : State} (h : s.besideFlash = t.besideFlash) : s.tiers.badBlocks = t.tiers.badBlocks :=
  congrArg (fun x => x.2.2.2.2) h

/-- A block that is condemned is bad, and what was bad stays so. -/
theorem State.condemn_frame (s : State) (block : Nat) :
    (s.condemn block).besideBlocks = s.besideBlocks ∧ block ∈ (s.condemn block).tiers.badBlocks ∧ s.tiers.badBlocks ⊆ (s.condemn block).tiers.badBlocks := by
  have hevacuated : (if (kvGet s.tiers.flash.used block).isSome then s.evacuate block else s).besideFlash = s.besideFlash :=
    ite_keeps State.besideFlash (State.evacuate_besideFlash ..) rfl
  unfold State.condemn
  split
  · next hbad => exact ⟨rfl, List.contains_iff_mem.mp hbad, fun _ h => h⟩
  · have hbeside := State.besideBlocks_of_besideFlash hevacuated
    have hblocks := State.badBlocks_of_besideFlash hevacuated
    dsimp only
    generalize (if (kvGet s.tiers.flash.used block).isSome then s.evacuate block else s) = t at hbeside hblocks ⊢
    refine ⟨hbeside, List.mem_cons_self, ?_⟩
    rw [← hblocks]
    exact List.subset_cons_self ..

theorem State.condemnAll_frame (bad : List Nat) (s : State) : (bad.foldl State.condemn s).besideBlocks = s.besideBlocks ∧
    (∀ b ∈ bad, b ∈ (bad.foldl State.condemn s).tiers.badBlocks) ∧ s.tiers.badBlocks ⊆ (bad.foldl State.condemn s).tiers.badBlocks := by
  induction bad generalizing s with
  | nil => exact ⟨rfl, nofun, fun _ h => h⟩
  | cons b bad ih =>
    obtain ⟨hbeside, hmem, hsub⟩ := s.condemn_frame b
    obtain ⟨hbesides, hmems, hsubs⟩ := ih (s.condemn b)
    refine ⟨hbesides.trans hbeside, fun x hx => ?_, fun x hx => hsubs (hsub hx)⟩
    rcases List.mem_cons.mp hx with rfl | hx
    · exact hsubs hmem
    · exact hmems x hx

/-- The maintenance after the pages to be written again have been programmed. -/
def State.maintained (bad : List Nat) (s : State) (limit : Nat) : State :=
  let s := (bad.foldl State.condemn (s.modFlash fun x => { x with rewrite := [] })).refreshBlocks limit
  let s := s.collect s.tiers.flash.used.length
  s.level s.tiers.flash.used.length

/-- The pages to be written again are programmed, of what is still mapped. -/
def State.rewritten (s : State) : State :=
  let s := s.modFlash fun x => { x with map := x.map.filter fun e => (s.objOf (e.1 / 2 ^ 27)).isSome }
  (s.tiers.flash.rewrite.filter fun k => (kvGet s.tiers.flash.map k).isSome).foldl State.programPage s

theorem State.maintain_eq (bad : List Nat) (s : State) : s.maintain bad = (s.rewritten.maintained bad (s.rewritten.cfg 0x2100 5)).checkpoint := rfl

theorem State.rewritten_besideFlash (s : State) : s.rewritten.besideFlash = s.besideFlash := by
  unfold State.rewritten
  refine (foldl_keeps State.besideFlash State.programPage_besideFlash _ _).trans (State.modFlash_besideFlash s ?_)
  exact fun _ => rfl

theorem State.maintained_frame (bad : List Nat) (s : State) (limit : Nat) :
    (s.maintained bad limit).besideBlocks = (s.tiers.windowOpen, s.tiers.slices, s.objects, []) ∧ ∀ b ∈ bad, b ∈ (s.maintained bad limit).tiers.badBlocks := by
  obtain ⟨hbeside, hmem, _⟩ := State.condemnAll_frame bad (s.modFlash fun x => { x with rewrite := [] })
  have hlast : (s.maintained bad limit).besideFlash = (bad.foldl State.condemn (s.modFlash fun x => { x with rewrite := [] })).besideFlash := by
    unfold State.maintained
    dsimp only
    rw [State.level_besideFlash, State.collect_besideFlash, State.refreshBlocks_besideFlash]
  refine ⟨(State.besideBlocks_of_besideFlash hlast).trans hbeside, fun b hb => ?_⟩
  rw [State.badBlocks_of_besideFlash hlast]
  exact hmem b hb

/-- What the maintenance leaves: the window, the slices and the objects as they were, a saved map, nothing to be written again, and the bad blocks bad. -/
theorem State.maintain_frame (bad : List Nat) (s : State) : (s.maintain bad).tiers.windowOpen = s.tiers.windowOpen ∧ (s.maintain bad).tiers.slices = s.tiers.slices ∧
    (s.maintain bad).objects = s.objects ∧ (s.maintain bad).tiers.flash.saved = (s.maintain bad).tiers.flash.map ∧ (s.maintain bad).tiers.flash.rewrite = [] ∧
    ∀ b ∈ bad, b ∈ (s.maintain bad).tiers.badBlocks := by
  obtain ⟨hbeside, hmem⟩ := State.maintained_frame bad s.rewritten (s.rewritten.cfg 0x2100 5)
  have hrewritten := State.besideBlocks_of_besideFlash s.rewritten_besideFlash
  simp only [State.besideBlocks, Prod.mk.injEq] at hbeside hrewritten
  obtain ⟨hwindow, hslices, hobjects, hrewrite⟩ := hbeside
  obtain ⟨hwindow', hslices', hobjects', _⟩ := hrewritten
  rw [State.maintain_eq]
  generalize s.rewritten.maintained bad (s.rewritten.cfg 0x2100 5) = t at hwindow hslices hobjects hrewrite hmem ⊢
  exact ⟨hwindow.trans hwindow', hslices.trans hslices', hobjects.trans hobjects', rfl, hrewrite, hmem⟩

end Sys2Proof.Machine

open Sys2Proof.Machine

/-- Settles O40: the ways, a slice, the turns, the refresh period and the window, each by the lemma that says what its command leaves. -/
theorem cacheRefreshAndWindowFollowTheirRules : Obligations.CacheRefreshAndWindowFollowTheirRules := by
  refine ⟨fun p s hflight => ⟨settled_eq (if_neg (by simp [hflight])), rfl, State.settleWays_lines, rfl⟩, fun p s hflight => settled_eq (if_pos hflight),
    fun slice s hslice hlength hserves hspare => ?_, fun slice s hslice hlength hserves hspare => ?_, fun p s => ⟨rfl, rfl, rfl, rfl⟩,
    fun h s => ⟨_, rfl, ?_, ?_, ?_⟩, fun second reads bad s => ?_, fun s hlong => settled_eq (if_pos (Or.inr hlong)),
    fun s hopen hshort => settled_eq (if_neg (by simp [hopen]; omega))⟩
  · obtain ⟨u, hu, hslices, hcounts, hobjects⟩ := execSliceFailure_of_serving hserves
    have hspared : slicesAfter slice s.tiers = (s.tiers.slices.set slice (3 + 8 * 31)).set 16 (1 + 8 * (s.tiers.slices.getD slice 3 / 8)) :=
      if_pos (by simp only [hspare]; simp; omega)
    refine ⟨u, hu, ?_, ?_, hcounts, hobjects⟩
    · rw [hslices, hspared, getD_set_ne _ (by omega), getD_set_self (by omega)]
    · rw [hslices, hspared, getD_set_self (by simp [hlength])]
  · obtain ⟨u, hu, hslices, hcounts, hobjects⟩ := execSliceFailure_of_serving hserves
    exact ⟨u, hu, hslices.trans (if_neg (by simp only [hspare]; simp)), hcounts, hobjects⟩
  · simp only [State.settle_tiers, State.modTiers_tiers, State.reach_tiers]
  · simp only [State.settle_objects, State.modTiers_objects, State.reach_objects]
  · simp only [State.settle_mode, State.modTiers_mode, State.reach_mode]
  · have hreach : (s.reach (max second ((s.nowNs + 1000000000 - 1) / 1000000000) * 1000000000 * 2 ^ 32)).tiers.slices = s.tiers.slices ∧
        (s.reach (max second ((s.nowNs + 1000000000 - 1) / 1000000000) * 1000000000 * 2 ^ 32)).objects = s.objects :=
      ⟨by rw [State.reach_tiers], State.reach_objects ..⟩
    refine ⟨rfl, ?_⟩
    generalize s.reach (max second ((s.nowNs + 1000000000 - 1) / 1000000000) * 1000000000 * 2 ^ 32) = r at hreach ⊢
    obtain ⟨hwindow, hslices, hobjects, hsaved, hrewrite, hbad⟩ := State.maintain_frame bad
      ((r.modTiers fun t => { t with windowOpen := true, windowAtNs := r.nowNs }).countReads reads)
    exact ⟨hwindow, hslices.trans hreach.1, hobjects.trans hreach.2, hsaved, hrewrite, hbad⟩

end

section
/-! SUPPORT. Errors of DRAM and flash, and what they reach. -/

namespace Sys2Proof.Machine

theorem State.modGroup_group_self {s : State} {g : Nat} (h : g < s.tiers.groups.length) (f : DramGroup → DramGroup) :
    ((s.modGroup g f).tiers.groups.getD g {}) = f (s.tiers.groups.getD g {}) := getD_modify_self h f _

theorem State.spareLane_objects (s : State) (g lane : Nat) : (s.spareLane g lane).objects = s.objects := by
  unfold State.spareLane
  refine ite_keeps State.objects rfl ?_
  split
  · exact State.logError_objects ..
  · rfl

/-- A lane that a spare replaces leaves the group's corrected errors counted. -/
theorem State.spareLane_corrected (s : State) (g lane : Nat) : ((s.spareLane g lane).tiers.groups.getD g {}).corrected = (s.tiers.groups.getD g {}).corrected := by
  have hgroup : ∀ f : DramGroup → DramGroup, (∀ x, (f x).corrected = x.corrected) →
      ((s.modGroup g f).tiers.groups.getD g {}).corrected = (s.tiers.groups.getD g {}).corrected := fun f hf => by
    rcases Nat.lt_or_ge g s.tiers.groups.length with hlt | hge
    · rw [State.modGroup_group_self hlt, hf]
    · rw [getD_of_length_le (by simpa [State.modGroup] using hge) _, getD_of_length_le hge _]
  unfold State.spareLane
  dsimp only
  split
  · rfl
  · split
    · rw [State.logError_tiers]
      exact hgroup _ fun _ => rfl
    · exact hgroup _ fun _ => rfl

/-- The state in which a corrected error has been counted and logged. -/
def State.errorCounted (s : State) (g lane row : Nat) : State :=
  (s.modGroup g fun x =>
    let rows := recent s.nowNs 86400000000000 row x.rowErrors
    { x with
      corrected := x.corrected + 1
      laneErrors := recent s.nowNs 3600000000000 lane x.laneErrors
      rowErrors := rows
      marked := if 16 ≤ (rows.filter fun e => e.1 == row).length ∧ !x.marked.contains row then row :: x.marked else x.marked }).logError
    0x020A 0xFF 0 ([byteOf g, byteOf lane] ++ be 4 row)

theorem State.dramCorrected_eq (s : State) (g lane row : Nat) : s.dramCorrected g lane row =
    if 64 ≤ (((s.errorCounted g lane row).tiers.groups.getD g {}).laneErrors.filter fun e => e.1 == lane).length then (s.errorCounted g lane row).spareLane g lane
    else s.errorCounted g lane row := rfl

theorem State.errorCounted_objects (s : State) (g lane row : Nat) : (s.errorCounted g lane row).objects = s.objects := State.logError_objects ..

theorem State.errorCounted_corrected {s : State} {g : Nat} (h : g < s.tiers.groups.length) (lane row : Nat) :
    ((s.errorCounted g lane row).tiers.groups.getD g {}).corrected = (s.tiers.groups.getD g {}).corrected + 1 := by
  unfold State.errorCounted
  rw [State.logError_tiers, State.modGroup_group_self h]

theorem State.dramCorrected_objects (s : State) (g lane row : Nat) : (s.dramCorrected g lane row).objects = s.objects := by
  rw [State.dramCorrected_eq]
  exact ite_keeps State.objects ((State.spareLane_objects ..).trans (State.errorCounted_objects ..)) (State.errorCounted_objects ..)

theorem State.dramCorrected_corrected {s : State} {g : Nat} (h : g < s.tiers.groups.length) (lane row : Nat) :
    ((s.dramCorrected g lane row).tiers.groups.getD g {}).corrected = (s.tiers.groups.getD g {}).corrected + 1 := by
  have hcounted := State.errorCounted_corrected h lane row
  rw [State.dramCorrected_eq]
  exact ite_keeps (fun s : State => (s.tiers.groups.getD g {}).corrected) ((State.spareLane_corrected ..).trans hcounted) hcounted

/-- The state in which an uncorrectable error has been counted and logged. -/
def State.uncorrectableCounted (s : State) (g : Nat) : State := (s.modGroup g fun x => { x with uncorrectable := x.uncorrectable + 1 }).logError 0x0209 0xFF 0 []

theorem State.objOf_congr {s t : State} (h : t.objects = s.objects) (handle : Nat) : t.objOf handle = s.objOf handle := by
  unfold State.objOf State.objAt
  rw [h]

theorem execDramUncorrectable_of_object {handle : Nat} {s : State} {o : Obj} (ho : s.objOf handle = some o) (g p c core stroke : Nat) :
    execDramUncorrectable g handle p c core stroke s = .next (s.settle ((s.uncorrectableCounted g).lineLost o p c core stroke)) := by
  have hobj : ((s.modGroup g fun x => { x with uncorrectable := x.uncorrectable + 1 }).logError 0x0209 0xFF 0 []).objOf handle = some o := by
    rw [State.objOf_congr (State.logError_objects ..), ← ho]
    rfl
  unfold execDramUncorrectable
  dsimp only
  rw [hobj]
  rfl

theorem State.lineLost_of_sealed {o : Obj} (hkind : o.kind = 1) (hstate : o.state = 3 ∨ o.state = 5 ∨ o.state = 6) (hdigest : o.digest ≠ []) (s : State)
    (p c core stroke : Nat) : s.lineLost o p c core stroke = (s.stall p 5 core).modTiers fun t => { t with refetch := t.refetch ++ [(p, o.handle)] } :=
  if_pos ⟨hkind, by rcases hstate with h | h | h <;> rw [h] <;> rfl, hdigest⟩

theorem State.lineLost_of_other {o : Obj} (hkind : o.kind ≠ 1) (s : State) (p c core stroke : Nat) {r : Option Running}
    (hrun : (s.damage o 0x0209).runningAt p c core stroke = r) : s.lineLost o p c core stroke =
    r.elim (s.damage o 0x0209) fun r =>
      (((s.damage o 0x0209).modPart p fun x => { x with running := x.running.erase r }).tearAll r.writes).stopFlight p c 0x0209 core stroke := by
  unfold State.lineLost
  rw [if_neg fun h => hkind h.1]
  dsimp only
  rw [hrun]
  cases r <;> rfl

theorem execFlashReadRetry_of_lost {handle : Nat} {s : State} {p : Nat} {o : Obj}
    (ho : (((s.stallSome p 3).stallSome p 4).logError 0x020F 0xFF 0 []).objOf handle = some o) (die block page : Nat) :
    execFlashReadRetry p handle 2 die block page s = .next (s.settle
      ((((((s.stallSome p 3).stallSome p 4).logError 0x020F 0xFF 0 []).failWaiters o 0x020F).failClaims o 0x020F).damage o 0x020F)) := by
  unfold execFlashReadRetry
  rw [if_neg (by decide), if_neg (by decide)]
  dsimp only
  rw [ho]
  rfl

end Sys2Proof.Machine

open Sys2Proof.Machine

/-- Settles O41: each error by what it touched. -/
theorem memoryErrorsAreCountedAndHandled : Obligations.MemoryErrorsAreCountedAndHandled := by
  refine ⟨fun g lane row s hg hlane => ⟨settled_eq (if_pos ⟨hg, hlane⟩), fun h => State.dramCorrected_corrected h lane row, State.dramCorrected_objects ..⟩,
    fun g lines s hg => ⟨_, rfl, ?_, rfl, rfl⟩, fun g handle p c core stroke s o ho hkind hstate hdigest => ?_,
    fun g handle p c core stroke s o ho hkind => ?_, fun p handle s => rfl, fun g s hg => ⟨_, rfl, ?_, rfl⟩,
    fun p handle die block page s => ⟨rfl, rfl, fun o ho => execFlashReadRetry_of_lost ho die block page⟩⟩
  · exact congrArg (fun x : DramGroup => x.patrol.head?) (State.modGroup_group_self hg _)
  · refine (execDramUncorrectable_of_object ho g p c core stroke).trans ?_
    rw [State.lineLost_of_sealed hkind hstate hdigest]
    rfl
  · have hexec := execDramUncorrectable_of_object ho g p c core stroke
    refine ⟨fun hrun => hexec.trans ?_, fun r hrun => hexec.trans ?_⟩
    · rw [State.lineLost_of_other hkind (s.uncorrectableCounted g) p c core stroke hrun]
      rfl
    · rw [State.lineLost_of_other hkind (s.uncorrectableCounted g) p c core stroke hrun]
      rfl
  · exact congrArg DramGroup.state (State.modGroup_group_self hg _)

end

section
/-! SUPPORT. The life of an object, and the tenants' nonces and reports. -/

namespace Sys2Proof.Machine

theorem execSealComplete_of_window {s : State} {handle : Nat} {o : Obj} {good : Bool} (ho : s.objOf handle = some o) (hstate : o.state = 2)
    (hwindow : s.tiers.windowOpen = true)
    (hgood : (!o.pub || ((keyIn (s.obj 0 (0x3052 + 0x100 * o.owner) 3) o.keyId).elim false fun k => Config.verifies k o.digest o.sig)) = good) :
    execSealComplete handle s = .next (s.settle
      (((s.programObject o).modObj o.owner o.index fun x =>
        { x with state := 3, residence := 2, pub := o.pub && good, claims := [{ part := o.owner, level := 1, done := true }] }).objectEvent
          o.owner handle 2 0 (if good then 0 else 0x0211))) := by
  subst hgood
  unfold execSealComplete
  rw [ho]
  refine settled_eq ((if_neg (by simp [hstate, hwindow])).trans ?_)
  cases keyIn (s.obj 0 (0x3052 + 0x100 * o.owner) 3) o.keyId <;> rfl

theorem execSealComplete_of_no_window {s : State} {handle : Nat} {o : Obj} (ho : s.objOf handle = some o) (hwindow : s.tiers.windowOpen = false) :
    execSealComplete handle s = .next (s.settle s) := by
  unfold execSealComplete
  rw [ho]
  exact settled_eq (if_pos (Or.inr hwindow))

theorem State.completeClaim_of_open {s : State} {p : Nat} {o : Obj} {cl : Claim} (hclaim : o.claim? p = some cl) (hdone : cl.done = false)
    (hstate : o.state = 3 ∨ o.state = 6) : s.completeClaim p o =
    if o.kind = 1 ∧ o.residence ≠ 2 ∧ chunkTree o ≠ o.digest then (s.failClaims o 0x0207).damage o 0x0207
    else
      let s1 := ((s.promoteCopy p cl.level o).modObj o.owner o.index fun x =>
        { x with residence := 2, claims := x.claims.map fun y => if y.part = p then { y with done := true } else y }).objectEvent p o.handle 3 cl.level 0
      if cl.release then s1.dropClaim p o else s1 := by
  unfold State.completeClaim
  rw [hclaim]
  exact if_neg (by rcases hstate with h | h <;> simp [hdone, h])

section Deletion

variable {s : State} {owner index : Nat} {o : Obj} (ho : s.objAt owner index = some o)
include ho

theorem State.finishDelete_of_staying (hstays : o.deleting = false ∨ s.inFlight o.handle = true) : s.finishDelete owner index = s := by
  unfold State.finishDelete
  rw [ho]
  exact if_pos (by rcases hstays with h | h <;> simp [h])

theorem State.finishDelete_of_unclaimed (hdel : o.deleting = true) (hall : ∀ c ∈ o.claims, c.part = owner) (hfree : s.inFlight o.handle = false) :
    s.finishDelete owner index = s.vanish o := by
  unfold State.finishDelete
  rw [ho]
  exact (if_neg (by simp [hdel, hfree])).trans (if_pos (by simpa using hall))

theorem State.finishDelete_of_claimed (hdel : o.deleting = true) (hclaimed : ¬∀ c ∈ o.claims, c.part = owner) (hfree : s.inFlight o.handle = false) :
    s.finishDelete owner index = s.modObj owner index fun x => { x with claims := x.claims.filter fun c => c.part != owner } := by
  unfold State.finishDelete
  rw [ho]
  exact (if_neg (by simp [hdel, hfree])).trans (if_neg (by simpa using hclaimed))

end Deletion

theorem execReadoptObject_of_turn {s : State} {handle : Nat} {o : Obj} (ho : s.objOf handle = some o) (hturn : s.readoptTurn o = true) (digestMatches : Bool) :
    execReadoptObject handle digestMatches s = .next (s.settle
      (if o.keyCheck ≠ s.keys.getD o.owner none ∨ !digestMatches ∨ o.digest ≠ o.digestNow then s.readoptFails o
      else ((s.modObj o.owner o.index Obj.readopt).objectEvent o.owner handle 7 0 0).fillPinned)) := by
  unfold execReadoptObject
  rw [ho]
  exact settled_eq (if_neg (by simp [hturn]))

theorem State.serveWrite_of_passed {check : Check} {commit : Commit} {block : Bool} {rq : Request} {s s1 s2 : State} {w : Who} {t : Target}
    (hgo : s.admitted rq (if block then 4 else 2) (fun _ => true) true = .go w s1) (htarget : s1.writeTarget w rq.frame block = .inr t)
    (hcheck : check w t rq.frame.payload s1 = (0, s2)) :
    s.serveWrite check commit block rq = if t.row.per = .saved then s2.queueSave rq w t else (commit w t rq.frame.payload s2).ok rq w := by
  rw [State.serveWrite, hgo]
  dsimp only
  rw [htarget]
  dsimp only
  rw [hcheck]
  rfl

theorem State.respond_sec (rq : Request) (w : Who) (status typ : Nat) (v : Bytes) (s : State) (b : Bool) : (s.respond rq w status typ v b).sec = s.sec := by
  rw [State.respond_eq]

theorem State.attest_of_armed {s : State} {rq : Request} {w : Who} {t : Target} {e : Owner × Nat × Bytes}
    (harmed : (s.sec.nonces.find? fun e => e.1 == w.owner && e.2.1 == attestPart t) = some e) (hfree : s.blockBusy w.owner false t = 0) :
    let s2 := (s.modSec fun x => { x with nonces := x.nonces.erase e }).countSec 4
    s.attest rq w t = (s2.report (attestPart t) e.2.2).2.startRead rq w t (s2.report (attestPart t) e.2.2).1 := by
  intro s2
  unfold State.attest
  dsimp only
  rw [harmed]
  exact if_neg (not_not_intro hfree)

theorem execMgmtTrust_of_passed {s s1 s2 : State} {rq : Request} {w : Who} {t : Target} (hname : names rq "MGMT_TRUST" = true)
    (hgo : s.admitted rq 4 (fun _ => true) true = .go w s1)
    (htarget : s1.writeTarget (if w.owner = .fn 0 ∧ s1.obj 0 0x1B10 1 = [] then { w with management := true } else w) rq.frame true = .inr t)
    (hcheck : checkMgmtTrust w t rq.frame.payload s1 = (0, s2)) : execMgmtTrust rq s = .next (s.settle (s2.queueSave rq w t)) := by
  refine settled_eq ((if_neg (by simp [hname])).trans ?_)
  rw [hgo]
  dsimp only
  rw [htarget]
  dsimp only
  rw [hcheck]
  rfl

theorem execAttestReport_of_armed {s s1 : State} {rq : Request} {w : Who} {t : Target}
    (hname : names rq "ATTEST_REPORT" = true ∨ names rq "ATTEST_REPORT_DEVICE" = true) (hgo : s.admitted rq 3 (fun b => b.length == 4) = .go w s1)
    (htarget : s1.resolve w rq.frame.index rq.frame.sub = .inr t) : execAttestReport rq s = .next (s.settle (s1.attest rq w t)) := by
  refine settled_eq ((if_neg (by rcases hname with h | h <;> simp [h])).trans ?_)
  rw [hgo]
  dsimp only
  rw [htarget]

end Sys2Proof.Machine

open Sys2Proof.Machine

/-- Settles O42: each event of an object's life by what the object and its digest are. -/
theorem objectsAreSealedClaimedAndDeleted : Obligations.ObjectsAreSealedClaimedAndDeleted := by
  refine ⟨fun handle s o ho hstate => ?_, fun p handle s => ⟨fun ho => settled_eq (by rw [ho]), fun o ho => ⟨settled_eq (by rw [ho]), fun cl hclaim hdone hstate => ?_⟩⟩,
    fun handle s o ho => settled_eq (by rw [ho]), fun handle s o ho hturn hkey hdigest => ?_, fun handle digestMatches s o ho hturn hbad => ?_,
    fun owner index s o ho => ?_⟩
  · refine ⟨fun hopen => execSealComplete_of_window ho hstate hopen ?_, fun hclosed => execSealComplete_of_no_window ho hclosed⟩
    cases keyIn (s.obj 0 (0x3052 + 0x100 * o.owner) 3) o.keyId <;> rfl
  · have hclaimed := State.completeClaim_of_open (s := s) hclaim hdone hstate
    refine ⟨fun hkind hres hbad => hclaimed.trans (if_pos ⟨hkind, hres, hbad⟩), fun hgood => hclaimed.trans (if_neg ?_)⟩
    exact fun ⟨hkind, hres, hbad⟩ => hgood.elim (fun h => h hkind) fun h => h.elim hres hbad
  · exact ⟨(execReadoptObject_of_turn ho hturn true).trans (congrArg _ (congrArg _ (if_neg (by simp [hkey, hdigest])))),
      (execReadoptObject_of_turn ho hturn false).trans (congrArg _ (congrArg _ (if_pos (by simp))))⟩
  · exact (execReadoptObject_of_turn ho hturn digestMatches).trans (congrArg _ (congrArg _ (if_pos (hbad.imp_right .inr))))
  · exact ⟨fun hdel hall hfree => State.finishDelete_of_unclaimed ho hdel hall hfree, fun hdel hclaimed hfree => State.finishDelete_of_claimed ho hdel hclaimed hfree,
      fun hstays => State.finishDelete_of_staying ho hstays⟩

/-- Settles O43: resets, scrubs, nonces, reports and the trust anchors. -/
theorem tenantsAreResetScrubbedAndAttested : Obligations.TenantsAreResetScrubbedAndAttested := by
  refine ⟨fun p s h => settled_eq (if_pos h), fun p s h => settled_eq (if_neg h), fun p origin s h => settled_eq (by rw [h]; rfl),
    fun rq s s1 w t hname hgo htarget hper => ⟨_, rfl, ?_⟩, fun rq s s1 w t e hname hgo htarget harmed hfree => ?_,
    fun p nonce s => ⟨_, ?_, rfl, rfl⟩, fun rq s s1 s2 w t hname hgo htarget hcheck => execMgmtTrust_of_passed hname hgo htarget hcheck⟩
  · rw [State.settle_sec, if_pos hname, State.serveWrite_of_passed (State.admitted_of_go hgo) htarget rfl, if_neg hper, State.ok, State.respond_sec]
    rfl
  · exact (execAttestReport_of_armed hname hgo htarget).trans (congrArg (fun u => Host.Outcome.next (s.settle u)) (State.attest_of_armed harmed hfree))
  · exact (List.length_map _).trans List.length_range

end

section
/-! SUPPORT. Peer links and the mesh. -/

namespace Sys2Proof.Machine

theorem State.arrive_of_down {s : State} {k : Nat} (hdown : (s.port k).up = false) (f : PeerFrame) (ops : List Nat) (deliver : PeerFrame → State → State) :
    s.arrive k f ops deliver = s := if_pos (Or.inl (by rw [hdown]; rfl))

section SendFrame

variable {s : State} {f : PeerFrame} {p c mask n : Nat} (hlate : s.peer.late f = false)
  (hrefused : kvGet s.peer.refused (f.pair * 16 + f.src) ≠ some f.xferSeq)
  (hpair : (s.peer.pairs.find? fun e => e.1 == f.pair) = some (f.pair, p, c, mask)) (hmember : mask.testBit f.src = true) (hcore : f.dstCore < s.cores p)
  (hslot : s.slotOf p f.dstCore = some n) (hshare : f.dstLine + f.lines ≤ s.ctxCfg p c 0 4)

include hpair hmember hcore hslot hshare in
theorem State.sendRefusal_of_fitting : s.sendRefusal f = (0, s) := by
  unfold State.sendRefusal
  rw [hpair]
  refine (if_neg (by simp [hmember])).trans ((if_neg (by omega)).trans ((if_neg (by simp [hslot])).trans (if_neg (by omega))))

/-- The last transfer taken of the frame's sender. -/
def Peers.noteTransfer (q : Peers) (f : PeerFrame) : Peers :=
  { q with lastIn := kvSet (kvSet q.lastIn (f.pair * 16 + f.src) (some f.xferSeq)) (1024 + (f.pair * 16 + f.src)) (some f.xferSeq) }

/-- What a SEND frame leaves once its lines stand in the core's share. -/
def State.sendTaken (s : State) (f : PeerFrame) (p c n : Nat) : State :=
  ((s.modPeer fun q => q.noteTransfer f).countPart p 12 (64 * f.lines)).modSlot n fun x => { x with spad := memWrite x.spad ((s.ctxCfg p c 0 3 + f.dstLine) * 64) (slice f.payload 0 (64 * f.lines)) }

include hlate hrefused hpair hmember hcore hslot hshare in
theorem State.takeSend_of_fitting : s.takeSend f =
    if f.last then (if f.signalEn then (s.sendTaken f p c n).addToken p n c f.token none else s.sendTaken f p c n).ackTransfer f 0 else s.sendTaken f p c n := by
  unfold State.takeSend
  dsimp only
  rw [if_neg (by simp [hlate, hrefused]), State.sendRefusal_of_fitting hpair hmember hcore hslot hshare]
  refine (if_neg (not_not_intro rfl)).trans ?_
  split
  · next hnone => exact absurd (hnone.symm.trans hpair) nofun
  · next hfound =>
    cases hfound.symm.trans hpair
    split
    · next hnone => exact absurd (hnone.symm.trans hslot) nofun
    · next hfound =>
      cases hfound.symm.trans hslot
      cases hlast : f.last
      · exact if_pos rfl
      · exact if_neg (by decide)

end SendFrame

theorem State.modPort_modPort (s : State) (k : Nat) (f g : PeerPort → PeerPort) : (s.modPort k f).modPort k g = s.modPort k (g ∘ f) := by
  unfold State.modPort State.modPeer
  dsimp only
  rw [List.modify_modify_eq]

theorem execPeerLaneFail_of_spare {s : State} {k lane : Nat} (hup : (s.port k).up = true) (hlane : (s.port k).laneStates.getD lane 60 % 8 = 1)
    (hspare : (s.port k).laneStates.getD 4 60 % 8 = 2) : execPeerLaneFail k lane s = .next (s.settle
      ((((s.modPort k fun x => { x with laneStates := (x.laneStates.set lane (laneCode 3 7)).set 4 (laneCode 1 ((s.port k).laneStates.getD lane 60 / 8)) }).countPort k
        5).logError 0x0307 0xFF (0x30 + k) [byteOf k, byteOf lane]).resend k)) := by
  refine settled_eq ((if_neg (by rw [hup]; simp only [Bool.not_true, Bool.false_eq_true, false_or]; omega)).trans ((if_neg (by omega)).trans ((if_pos hspare).trans ?_)))
  rw [State.modPort_modPort]
  rfl

theorem execMeshFlitUncorrectable_of_idle {s s1 : State} {router port p c core stroke : Nat}
    (hs1 : (s.modPeer fun q => { q with meshErrors := bump q.meshErrors 1 }).logError 0x0301 0xFF 0 [byteOf router, byteOf port] = s1)
    (hidle : s1.runningAt p c core stroke = none) : execMeshFlitUncorrectable router port p c core stroke s = .next (s.settle
      (if s1.prefetches p c core stroke then (s1.dropPrefetch p c core stroke).stopFlight p c 0x0301 core stroke
      else if stroke = 0xFFFFFFFF ∧ s1.leaving p c core ≠ [] then
        ((s1.leaving p c core).foldl (fun s id => s.modStream id fun x => { x with buddyValid := false }) s1).stopFlight p c 0x0301 core stroke
      else s1)) := by
  unfold execMeshFlitUncorrectable
  dsimp only
  rw [hs1, hidle]
  rfl

/-- A running stroke whose transfer the mesh lost, stopped. -/
def State.stopTorn (s : State) (p c core stroke : Nat) (r : Running) : State :=
  (((s.modPart p fun x => { x with running := x.running.erase r }).tearAll r.writes).modPeer fun q =>
    { q with colls := q.colls.filter fun x => !(x.p == p && x.c == c && x.core == core && x.stroke == stroke) }).stopFlight p c 0x0301 core stroke

theorem execMeshFlitUncorrectable_of_running {s s1 : State} {router port p c core stroke : Nat} {r : Running}
    (hs1 : (s.modPeer fun q => { q with meshErrors := bump q.meshErrors 1 }).logError 0x0301 0xFF 0 [byteOf router, byteOf port] = s1)
    (hrun : s1.runningAt p c core stroke = some r) :
    execMeshFlitUncorrectable router port p c core stroke s = .next (s.settle (s1.stopTorn p c core stroke r)) := by
  unfold execMeshFlitUncorrectable
  dsimp only
  rw [hs1, hrun]
  rfl

theorem execMeshRouterMismatch_of_running {s s1 : State} {router port p c core stroke : Nat} {r : Running} (hmode : 4 ≤ s.mode)
    (hs1 : (s.modPeer fun q => { q with meshErrors := bumpBy q.meshErrors 1 1 }).logError 0x0301 0xFF 0 [byteOf router, byteOf port] = s1)
    (hrun : s1.runningAt p c core stroke = some r) :
    execMeshRouterMismatch router port [(p, c, core, stroke)] s = .next (s.settle (s1.stopTorn p c core stroke r)) := by
  refine settled_eq ((if_neg (by omega)).trans ?_)
  dsimp only [List.length_cons, List.length_nil, List.foldl_cons, List.foldl_nil]
  rw [hs1, hrun]
  rfl

end Sys2Proof.Machine

open Sys2Proof.Machine

/-- Settles O45: the rows by their arms, and a SEND frame by the five tests of its destination. -/
theorem peerRowsTakeTheirFrames : Obligations.PeerRowsTakeTheirFrames := by
  refine ⟨fun k code f s => ⟨rfl, rfl, rfl, rfl, rfl, rfl, rfl⟩, fun k code f s hdown => ?_,
    fun f s p c mask n hlate hrefused hpair hmember hcore hslot hn hshare => ?_⟩
  · simp only [List.forall_mem_cons, List.not_mem_nil, false_implies, implies_true, and_true]
    have harrive := State.arrive_of_down hdown f
    exact ⟨settled_eq (harrive ..), settled_eq (harrive ..), settled_eq (harrive ..), settled_eq (harrive ..), settled_eq (harrive ..), settled_eq (harrive ..),
      settled_eq (harrive ..), settled_eq (if_pos (Or.inl (by rw [hdown]; rfl)))⟩
  · have htaken := State.takeSend_of_fitting hlate hrefused hpair hmember hcore hslot hshare
    have ht : s.takeSend { f with last := false } = s.sendTaken f p c n :=
      State.takeSend_of_fitting (f := { f with last := false }) hlate hrefused hpair hmember hcore hslot hshare
    refine ⟨?_, fun m hm => ?_, ?_, fun hlast => ?_, fun hlast => ?_⟩
    · rw [ht]
      exact congrArg Slot.spad (State.modSlot_slot_self hn _)
    · rw [ht]
      exact congrArg Slot.spad (State.modSlot_slot_ne _ hm.symm _)
    · rw [ht]
      rfl
    · rw [ht, htaken, hlast]
      rfl
    · rw [ht, htaken, hlast]
      rfl

/-- Settles O46: each row by the state of its port or its collective. -/
theorem portsRetryTrainAndFail : Obligations.PortsRetryTrainAndFail := by
  refine ⟨fun k f s hup hlines => ?_, fun k ack s hup => ⟨settled_eq (if_pos hup), settled_eq (if_pos hup)⟩, fun k s hup => ?_, fun k lane s hup hlane hspare => ?_,
    fun k lane s hup hlane hspare => execPeerLaneFail_of_spare hup hlane hspare, fun k s => ?_, fun k id topology member node port s hstate => ?_, fun k s => rfl,
    fun p c core stroke s x hx => ?_⟩
  · have hempty : ¬((!(s.port k).up) = true ∨ (1 ≤ f.lines ∧ f.lines ≤ 16)) := by
      rw [hup]
      simp only [Bool.not_true, Bool.false_eq_true, false_or]
      omega
    refine ⟨fun hok hgap => settled_eq ((if_neg hempty).trans ?_), fun hok hgap => settled_eq ((if_neg hempty).trans ?_), fun hbad => settled_eq ((if_neg hempty).trans ?_)⟩
    · exact (if_neg (Bool.eq_false_iff.mp (congrArg Bool.not hok))).trans (if_neg (Bool.eq_false_iff.mp hgap))
    · exact (if_neg (Bool.eq_false_iff.mp (congrArg Bool.not hok))).trans (if_pos hgap)
    · exact if_pos ((congrArg Bool.not hbad).trans rfl)
  · have hserved : ¬((!(s.port k).up) = true) := by rw [hup]; decide
    exact ⟨fun hgap => settled_eq ((if_neg hserved).trans (if_pos hgap)), fun hgap => settled_eq ((if_neg hserved).trans (if_neg (by simpa using hgap)))⟩
  · exact settled_eq ((if_neg (by rw [hup]; simp only [Bool.not_true, Bool.false_eq_true, false_or]; omega)).trans ((if_neg (by omega)).trans (if_neg hspare)))
  · refine ⟨fun h => settled_eq ((if_neg (by simp [h])).trans ((if_neg (by decide)).trans (if_neg (by omega)))),
      fun h => settled_eq ((if_neg (by simp [h])).trans ((if_neg (by decide)).trans (if_pos h))), fun h => settled_eq ((if_neg (by omega)).trans (if_pos rfl))⟩
  · exact ⟨fun h => settled_eq ((if_neg (by omega)).trans (if_pos h)), fun h => settled_eq ((if_neg (by omega)).trans (if_neg h))⟩
  · refine ⟨fun hbusy hfirst => settled_eq ?_, fun hspent => settled_eq ?_⟩
    · rw [hx]
      exact if_pos ⟨hbusy, by rw [hfirst]; rfl⟩
    · rw [hx]
      exact if_neg fun ⟨hbusy, hfirst⟩ => by rcases hspent with h | h <;> simp_all

/-- Settles O47: a transfer lost by what stood at its place, after the error is counted and logged. -/
theorem meshErrorsStopTheTransfer : Obligations.MeshErrorsStopTheTransfer := by
  refine ⟨fun router port p c core stroke s => ⟨fun hidle hfetch => ?_, fun hidle hfetch hstroke hleaving => ?_, fun hidle hfetch hnone => ?_, fun r hrun =>
    execMeshFlitUncorrectable_of_running rfl hrun⟩, fun router port s hmode => ⟨settled_eq (if_neg (by omega)), fun p c core stroke r hrun =>
    execMeshRouterMismatch_of_running hmode rfl hrun⟩⟩
  · exact (execMeshFlitUncorrectable_of_idle rfl hidle).trans (congrArg _ (congrArg _ (if_pos hfetch)))
  · exact (execMeshFlitUncorrectable_of_idle rfl hidle).trans (congrArg _ (congrArg _ ((if_neg (by simpa using hfetch)).trans (if_pos ⟨hstroke, hleaving⟩))))
  · exact (execMeshFlitUncorrectable_of_idle rfl hidle).trans (congrArg _ (congrArg _ ((if_neg (by simpa using hfetch)).trans (if_neg fun h => hnone.elim (fun hstroke => hstroke h.1) h.2))))

end

section
/-! SUPPORT. The part as a Gong client. -/

namespace Sys2Proof.Machine

/-- What a response does to what waits, by the purpose of the request that it answers. -/
def State.clientAnswered (s : State) (r : ClientReq) (status : Nat) (b : Bytes) : State :=
  match r.purpose with
  | .readNode =>
    if status ≠ 0 ∨ ofBE b ≠ s.cfg 0x1310 5 then s.failWaiting 0x0010 else (s.modCascade fun x => { x with contacted := true }).clientStep
  | .openSession =>
    if status ≠ 0 ∨ b.length < 4 then s.failWaiting 0x0013
    else ((s.modCascade fun x =>
        { x with session := some (ofBE (b.take 4)), tokenSeqs := [],
                 sessionKey := sessionKey x.ephemeral (slice b 4 97) (publicBytes x.ephemeral) (slice b 4 97) }).sendClient .subscribeTokens []
      { op := 5, index := 0x1311, sub := 2, payload := [3, 0, 0, 0] ++ be 4 0 }).clientStep
  | .subscribeTokens => s
  | .answer =>
    if status = 0x0E0D then (s.modCascade fun x => { x with session := none, waiting := r.value :: x.waiting }).clientStep
    else if status = 0 ∧ b ≠ [] then s.moveAnswer r b
    else s.bellEnds status 0xFE

/-- The state with the request of this identity no longer in flight. -/
def State.dropClient (s : State) (id : Nat) : State := s.modSvc fun x => { x with clients := x.clients.filter fun e => e.id != id }

section OwnRequest

variable {s : State} {id : Nat} {r : ClientReq} (hr : (s.svc.clients.find? fun e => e.id == id) = some r)
include hr

theorem execOnnumClientResponse_of_own (hmode : 4 ≤ s.mode) (status : Nat) (b : Bytes) :
    execOnnumClientResponse id status b s = .next (s.settle ((s.dropClient id).clientAnswered r status b)) := by
  unfold execOnnumClientResponse
  rw [hr]
  refine settled_eq ((if_neg (by omega)).trans ?_)
  unfold State.clientAnswered
  cases r.purpose <;> rfl

theorem execClientRetryTimer_of_own : execClientRetryTimer id s = .next (s.settle
    (if 3 ≤ r.attempts ∨ s.mode < 4 ∨ r.sentTo.isSome then s
    else (s.modSvc fun x => { x with clients := x.clients.map fun e => if e.id = id then { e with attempts := e.attempts + 1 } else e }).toServer r.frame)) := by
  unfold execClientRetryTimer
  rw [hr]
  rfl

theorem execPeerUnreachableTimeout_of_own (hsent : r.sentTo = none) {t : State}
    (ht : t = (s.dropClient id).bellEnds 0x0010 0xFE ∧ r.purpose = .answer ∨ t = s.dropClient id ∧ r.purpose = .subscribeTokens ∨
      t = (s.dropClient id).failWaiting 0x0010 ∧ (r.purpose = .readNode ∨ r.purpose = .openSession)) :
    execPeerUnreachableTimeout id s = .next (s.settle t) := by
  unfold execPeerUnreachableTimeout
  rw [hr]
  refine settled_eq ((if_neg (by rw [hsent]; decide)).trans ?_)
  obtain ⟨rfl, h⟩ | ⟨rfl, h⟩ | ⟨rfl, h | h⟩ := ht <;> rw [h] <;> rfl

end OwnRequest

theorem execAnswerTokensRelay_of_session {s : State} {id : Nat} (hsession : s.cascade.session = some id) (hmode : 4 ≤ s.mode) (n : TokenNotify) {u : State}
    (hu : (if s.cascade.tokenSeqs.contains n.seq then s
      else (s.answerTokens s.cascadePart n.tokens).modCascade fun x => { x with tokenSeqs := (n.seq :: x.tokenSeqs).take 64 }) = u) {f : Frame}
    (hf : { op := 6, response := true, flags := 4, session := id, seq := n.seq, index := 0x1311, sub := 2 } = f) :
    execAnswerTokensRelay n s = .next (s.settle (u.toServer { f with tag := tagOf u.cascade.sessionKey f })) := by
  subst hu hf
  unfold execAnswerTokensRelay
  rw [hsession]
  exact settled_eq (if_neg (by omega))

end Sys2Proof.Machine

open Sys2Proof.Machine

/-- Settles O48: responses by the purpose of their request, the two timers, and the relayed tokens. -/
theorem gongClientAsksTriesAgainAndRelays : Obligations.GongClientAsksTriesAgainAndRelays := by
  refine ⟨fun id status b s r hr hmode => ?_, fun id s r hr hmode => ⟨fun hfew hunsent => ?_, fun hstop => ?_⟩, fun id s r hr hsent =>
    ⟨fun h => execPeerUnreachableTimeout_of_own hr hsent (.inl ⟨rfl, h⟩), fun h => execPeerUnreachableTimeout_of_own hr hsent (.inr (.inl ⟨rfl, h⟩)),
      fun h => execPeerUnreachableTimeout_of_own hr hsent (.inr (.inr ⟨rfl, h⟩))⟩,
    fun n s id hsession hmode => ⟨fun hnew => ?_, fun hold => ?_⟩⟩
  · have hexec : ∀ t, (s.dropClient id).clientAnswered r status b = t → exec (.onnumClientResponse id status b) s = .next (s.settle t) :=
      fun t ht => ht ▸ execOnnumClientResponse_of_own hr hmode status b
    refine ⟨fun h hbad => hexec _ ?_, fun h hok hnode => hexec _ ?_, fun h hbad => hexec _ ?_, fun h hok hlong => hexec _ ?_, fun h => hexec _ (by rw [State.clientAnswered, h]; rfl),
      fun h hok hempty => hexec _ ?_, fun h hok hmore => hexec _ ?_, fun h hfail hopen => hexec _ ?_, fun h hclosed => hexec _ ?_⟩ <;> rw [State.clientAnswered, h]
    · exact if_pos hbad
    · exact if_neg (not_or.mpr ⟨not_not_intro hok, not_not_intro hnode⟩)
    · exact if_pos hbad
    · exact if_neg (by omega)
    · exact (if_neg (by omega)).trans ((if_neg (by simp [hempty])).trans (by rw [hok]; rfl))
    · exact (if_neg (by omega)).trans (if_pos ⟨hok, hmore⟩)
    · exact (if_neg hopen).trans (if_neg fun h => hfail h.1)
    · exact if_pos hclosed
  · exact (execClientRetryTimer_of_own hr).trans (congrArg _ (congrArg _ (if_neg (by simp [hunsent]; omega))))
  · refine (execClientRetryTimer_of_own hr).trans (congrArg _ (congrArg _ (if_pos ?_)))
    exact hstop.imp_right fun h => .inr (Option.isSome_iff_ne_none.mpr h)
  · exact execAnswerTokensRelay_of_session hsession hmode n (if_neg (by simpa using hnew)) rfl
  · exact execAnswerTokensRelay_of_session hsession hmode n (if_pos (by simpa using hold)) rfl

end

section
/-! SUPPORT. The listening chain. -/

namespace Sys2Proof.Machine

/-- Silence put before what is heard moves a track's end by its length. -/
theorem Track.foldl_push_next (cap w : Nat) (t : Track) (n : Nat) : ((List.range n).foldl (fun r _ => r.push cap w) t).next = t.next + n := by
  induction n with
  | zero => rfl
  | succ n ih =>
    rw [List.range_succ, List.foldl_append]
    exact congrArg (· + 1) ih

theorem State.forwardLive_eq (s : State) : ∃ h g, s.forwardLive = s.modAfe fun x => { x with history := h, gaps := g } := by
  unfold State.forwardLive
  split
  · exact ⟨s.afe.history, s.afe.gaps, rfl⟩
  · exact ⟨_, _, rfl⟩

/-- The audio front end once the listening chain has settled at tick `S`, with `V` its first valid index. -/
def Afe.settleTcx (x : Afe) (S V skip : Nat) (live : Bool) : Afe :=
  let from_ := x.preroll.next
  let ring : Track := if from_ = 0 then { next := V } else (List.range (V - from_)).foldl (fun r _ => r.push 32768 0) x.preroll
  { x with atc := max x.atc S, tcx := { x.tcx with settled := true, s := S, next := V, skip := skip }, preroll := ring,
           history := if from_ = 0 ∧ live then x.history.set 0 { next := V } else x.history,
           gaps := if from_ ≠ 0 ∧ from_ < V then ((from_, V) :: x.gaps).take 16 else x.gaps }

theorem Afe.settleTcx_preroll (x : Afe) (S V skip : Nat) (live : Bool) : (x.settleTcx S V skip live).preroll.next = max x.preroll.next V := by
  unfold Afe.settleTcx
  dsimp only
  split
  · next h => rw [h, Nat.zero_max]
  · rw [Track.foldl_push_next]
    omega

theorem execChainSettleEnd_of_tcx {s : State} (hopen : s.afe.tcx.settled = false) (hrun : s.afe.tcx.running = true) (hmode : 2 ≤ s.mode) :
    let S := settleTick s.afe.tcx.s0 (s.cfg 0x2230 11) s.tcxDiv
    ∃ skip live h g, execChainSettleEnd true s = .next (s.settle
      (s.modAfe fun x => { x.settleTcx S (firstValid S s.tcxDiv 1536) skip live with history := h, gaps := g })) := by
  intro S
  obtain ⟨h, g, hlive⟩ := (s.modAfe fun x => x.settleTcx S (firstValid S s.tcxDiv 1536) (firstSkip S s.tcxDiv 1536) (decide (4 ≤ s.mode))).forwardLive_eq
  refine ⟨_, _, h, g, settled_eq ((if_pos rfl).trans ((if_neg (by simp [hopen, hrun]; omega)).trans (Eq.trans ?_ hlive)))⟩
  unfold Afe.settleTcx
  simp only [decide_eq_true_eq, S]

theorem State.logAon_afe (log code scope source : Nat) (d : Bytes) (s : State) : (s.logAon log code scope source d).afe = s.afe := by
  obtain ⟨x, e, f, v, t, st, lost, h⟩ := s.logAon_eq log code scope source d
  rw [h]

theorem execMicInputFailed_of_new {s : State} {k : Nat} (hk : k ≤ 33) (hnew : s.afe.micFailed.contains k = false) {s1 : State}
    (hs1 : (s.modAfe fun x => { x with micFailed := k :: x.micFailed, counts := bump x.counts 1 }).logAon 0 0x0702 0xFF (if k < 32 then 0 else 0x50) [byteOf k] = s1) :
    execMicInputFailed k s = .next (s.settle (if k = 32 ∧ s.afe.spare = false then
      (s1.modAfe fun x => { x with spare := true, tcx := { s0 := x.atc }, counts := bump x.counts 2 }).logAon 0 0x0703 0xFF (if k < 32 then 0 else 0x50) [byteOf 32]
      else s1)) := by
  have hspare : s1.afe.spare = s.afe.spare := by
    rw [← hs1, State.logAon_afe]
    rfl
  refine settled_eq ((if_neg (by rw [hnew]; simp; omega)).trans ?_)
  dsimp only
  rw [hs1, hspare]
  simp only [Bool.not_eq_eq_eq_not, Bool.not_true]

theorem ite_eq_left_or_right {α : Type} (p : Prop) [Decidable p] (a b : α) : (if p then a else b) = a ∨ (if p then a else b) = b := by
  split
  · exact .inl rfl
  · exact .inr rfl

theorem clamp_mem {lo hi : Nat} (h : lo ≤ hi) (m : Nat) : lo ≤ min hi (max lo m) ∧ min hi (max lo m) ≤ hi :=
  ⟨Nat.le_min.mpr ⟨h, Nat.le_max_left ..⟩, Nat.min_le_left ..⟩

/-- The state with a reading of ATC kept, of which `measured` is the rate. -/
def State.noteRatio (atc ticks measured : Nat) (s : State) : State :=
  s.modAfe fun x => { x with map := some (atc, ticks, b01 s.timeValid),
                             ratio := min (nominalRatio + nominalRatio / 5000) (max (nominalRatio - nominalRatio / 5000) measured),
                             rateRange := decide (measured < nominalRatio - nominalRatio / 5000) || decide (nominalRatio + nominalRatio / 5000 < measured) }

theorem execAtcMapSample_of_served {s : State} (hmode : 4 ≤ s.mode) (atc ticks : Nat) : ∃ m u, execAtcMapSample atc ticks s = .next (s.settle u) ∧
    (u = (((s.reach ticks).modAfe fun x => { x with atc := max x.atc atc }).noteRatio atc ticks m).logError 0x0706 0xFF 0 [] ∨
      u = ((s.reach ticks).modAfe fun x => { x with atc := max x.atc atc }).noteRatio atc ticks m) :=
  ⟨_, _, settled_eq (if_neg (by omega)), ite_eq_left_or_right ..⟩

/-- A reading keeps its rate in the band and leaves objects and slots. -/
theorem State.noteRatio_of_reached (s : State) (atc ticks m : Nat) (u : State)
    (hu : u = ((s.reach ticks).modAfe fun x => { x with atc := max x.atc atc }).noteRatio atc ticks m) :
    u.afe.map = some (atc, ticks, b01 s.timeValid) ∧ nominalRatio - nominalRatio / 5000 ≤ u.afe.ratio ∧ u.afe.ratio ≤ nominalRatio + nominalRatio / 5000 ∧
    u.objects = s.objects ∧ u.slots = s.slots := by
  have hvalid : (s.reach ticks).timeValid = s.timeValid := by
    unfold State.reach
    exact ite_keeps State.timeValid rfl rfl
  obtain ⟨hlo, hhi⟩ := clamp_mem (lo := nominalRatio - nominalRatio / 5000) (Nat.le_trans (Nat.sub_le ..) (Nat.le_add_right _ (nominalRatio / 5000))) m
  subst hu
  exact ⟨congrArg (fun v => some (atc, ticks, b01 v)) hvalid, hlo, hhi, State.reach_objects .., State.reach_slots ..⟩

section Feed

variable {h : State} {k slot : Nat} {f : Feed}

/-- None of what a feed's block waits for holds. -/
theorem feed_not_held (hmode : 4 ≤ h.mode) (hcfg : h.feedCfg k 0 ≠ 0) (hon : (h.feedOverrun k f).1.on = true)
    (hready : (h.feedOverrun k f).2.feedReady k (h.feedOverrun k f).1 = true) (hpower : h.powered slot = true)
    (htoken : (h.feedOverrun k f).1.block < max 1 (h.feedCfg k 7) ∨ (h.slot slot).token (h.feedCfg k 3) (h.feedCfg k 10) ≠ 0)
    (hfits : h.feedCfg k 5 * 64 + max 1 (h.feedCfg k 7) * h.blockBytes k ≤ h.ctxCfg h.cascadePart (h.feedCfg k 3) 0 4 * 64) :
    ¬(h.mode < 4 ∨ h.feedCfg k 0 = 0 ∨ (!(h.feedOverrun k f).1.on) = true ∨ (!(h.feedOverrun k f).2.feedReady k (h.feedOverrun k f).1) = true ∨
      (!h.powered slot) = true ∨ (decide (max 1 (h.feedCfg k 7) ≤ (h.feedOverrun k f).1.block) = true ∧ (h.slot slot).token (h.feedCfg k 3) (h.feedCfg k 10) = 0) ∨
      h.ctxCfg h.cascadePart (h.feedCfg k 3) 0 4 * 64 < h.feedCfg k 5 * 64 + max 1 (h.feedCfg k 7) * h.blockBytes k) := by
  rw [hon, hready, hpower, decide_eq_true_eq]
  simp only [Bool.not_true, Bool.false_eq_true, false_or]
  omega

theorem State.feedOverrun_feedCfg (h : State) (k : Nat) (f : Feed) (slot : Nat) (g : Slot → Slot) (i : Nat) :
    ((h.feedOverrun k f).2.modSlot slot g).feedCfg k i = h.feedCfg k i := by
  have hdict : (h.feedOverrun k f).2.dict = h.dict := by
    unfold State.feedOverrun
    dsimp only
    exact ite_keeps (fun r : Feed × State => r.2.dict) rfl (State.logViolation_dict (h.modAfe fun x => { x with counts := bump x.counts 3 }) _ _ _ _)
  unfold State.feedCfg State.field State.cascadePart State.cfg State.obj
  rw [State.modSlot_dict, hdict]

theorem execFeedBlockDeliver_of_ready {x : Sound} {s : State} (hh : s.hear x = h) (hf : h.afe.feeds[k]? = some f)
    (hslot : h.slotOf h.cascadePart (h.feedCfg k 4) = some slot)
    (hgo : ¬(h.mode < 4 ∨ h.feedCfg k 0 = 0 ∨ (!(h.feedOverrun k f).1.on) = true ∨ (!(h.feedOverrun k f).2.feedReady k (h.feedOverrun k f).1) = true ∨
      (!h.powered slot) = true ∨ (decide (max 1 (h.feedCfg k 7) ≤ (h.feedOverrun k f).1.block) = true ∧ (h.slot slot).token (h.feedCfg k 3) (h.feedCfg k 10) = 0) ∨
      h.ctxCfg h.cascadePart (h.feedCfg k 3) 0 4 * 64 < h.feedCfg k 5 * 64 + max 1 (h.feedCfg k 7) * h.blockBytes k)) (hbell : h.feedCfg k 11 ≠ 1) :
    let p := h.cascadePart
    let c := h.feedCfg k 3
    let r := h.feedOverrun k f
    let rb := max 1 (h.feedCfg k 7)
    let s1 := r.2.modSlot slot fun y => { y with
      spad := memWrite y.spad (h.ctxCfg p c 0 3 * 64 + h.feedCfg k 5 * 64 + r.1.block % rb * h.blockBytes k) (r.2.feedBlock k r.1),
      tokens := if decide (rb ≤ r.1.block) = true then y.tokens.modify (8 * c + h.feedCfg k 10) (· - 1) else y.tokens }
    let s2 := s1.addToken p slot c (h.feedCfg k 9 % 8) none
    let f1 : Feed := { r.1 with block := r.1.block + 1, index := r.1.index + s2.feedCfg k 6, fresh := false, gap := false, on := !(s2.feedCfg k 2 == 1 && s2.afe.held != some r.1.cand) }
    execFeedBlockDeliver k x s = .next (s.settle (s2.modAfe fun y => { y with feeds := y.feeds.set k f1 })) := by
  have hquiet : decide (h.feedCfg k 11 = 1) = false := decide_eq_false hbell
  unfold execFeedBlockDeliver
  dsimp only
  rw [hh, hf, hslot, hquiet]
  dsimp only
  rw [if_neg hgo]
  simp only [Bool.false_eq_true, false_and, ↓reduceIte, State.feedOverrun_feedCfg]
  rfl

end Feed

end Sys2Proof.Machine

open Sys2Proof.Machine

/-- Settles O49: each row of the listening chain by what it finds. -/
theorem listeningRunsFromInputsToFeeds : Obligations.ListeningRunsFromInputsToFeeds := by
  refine ⟨fun s hopen hrun hmode => ?_, fun s hopen hrun hmode => ?_, fun k s hk hnew => ?_, fun atc ticks s hmode => ?_,
    fun s => ⟨fun i t h => settled_eq (by rw [h]), fun h => settled_eq (by rw [h])⟩,
    fun source frame x s l hmode hin => ?_, fun k slot x s f hf hslot hmode hcfg hon hready hpower htoken hfits hbell => ?_⟩
  · obtain ⟨skip, live, h, g, hexec⟩ := execChainSettleEnd_of_tcx hopen hrun hmode
    exact ⟨_, hexec, rfl, rfl, rfl, s.afe.settleTcx_preroll (settleTick s.afe.tcx.s0 (s.cfg 0x2230 11) s.tcxDiv) _ skip live, rfl⟩
  · exact ⟨_, settled_eq ((if_neg (by decide)).trans (if_neg (by simp [hopen, hrun]; omega))), rfl, rfl, rfl, rfl, rfl, rfl, rfl⟩
  · have hexec := execMicInputFailed_of_new hk hnew rfl
    refine ⟨fun hother => hexec.trans (congrArg _ (congrArg _ (if_neg ?_))), fun hlisten hspare => hexec.trans (congrArg _ (congrArg _ ((if_pos ⟨hlisten, hspare⟩).trans ?_)))⟩
    · rintro ⟨hlisten, hspare⟩
      simp [hlisten, hspare] at hother
    · subst hlisten
      rfl
  · obtain ⟨m, u, hexec, rfl | hquiet⟩ := execAtcMapSample_of_served hmode atc ticks
    · obtain ⟨hmap, hlo, hhi, hobjects, hslots⟩ := s.noteRatio_of_reached atc ticks m _ rfl
      have hratio : ∀ t : State, (s.settle (t.logError 0x0706 0xFF 0 [])).afe.ratio = t.afe.ratio :=
        fun t => congrArg (fun x : Afe => x.hold.ratio) (State.logError_afe ..)
      refine ⟨_, hexec, ?_, ?_, ?_, (State.logError_objects ..).trans hobjects, (State.logError_slots ..).trans hslots⟩
      · exact (congrArg Afe.map (State.logError_afe ..)).trans hmap
      · exact Nat.le_trans hlo (Nat.le_of_eq (hratio _).symm)
      · exact Nat.le_trans (Nat.le_of_eq (hratio _)) hhi
    · exact ⟨_, hexec, s.noteRatio_of_reached atc ticks m u hquiet⟩
  · exact settled_eq ((if_neg (by omega)).trans (by rw [hin]))
  · exact execFeedBlockDeliver_of_ready rfl hf hslot (feed_not_held hmode hcfg hon hready hpower htoken hfits) hbell

end

section
/-! SUPPORT. Tick's candidates. -/

namespace Sys2Proof.Machine

theorem State.endCandidate_of_held {s : State} (hheld : s.afe.held.isSome = true) (outcome beam : Nat) :
    ∃ w, s.endCandidate outcome beam = s.modAfe fun x => { x with wakes := w, held := none } := by
  unfold State.endCandidate
  cases h : s.afe.held with
  | none => simp [h] at hheld
  | some seq => exact ⟨_, rfl⟩

/-- A candidate that expires is counted and logged, and is no longer held. -/
theorem execCandidateExpired_of_held {s : State} (hheld : s.afe.held.isSome = true) : ∃ w, execCandidateExpired s = .next (s.settle
    (((s.modAfe fun x => { x with wakes := w, held := none, counts := bump x.counts 0 }).logAon 0 0x0705 0xFF 0x50 []).modPower fun x => { x with shortHold := 0 })) := by
  obtain ⟨w, hend⟩ := State.endCandidate_of_held hheld 3 0xFF
  refine ⟨w, settled_eq ((if_neg (by rw [← Option.not_isSome, hheld]; decide)).trans ?_)⟩
  rw [hend]
  rfl

end Sys2Proof.Machine

open Sys2Proof.Machine

/-- Settles O50: a phrase by its score and what is held, a candidate's end, and a playback block by its token. -/
theorem candidatesAreHeldOneAtATime : Obligations.CandidatesAreHeldOneAtATime := by
  refine ⟨fun frame score length x s hmode hpast hscore hlength hshort => ⟨fun hlow => settled_eq (if_pos (Or.inr (Or.inr (Or.inl hlow)))),
      fun hhigh hheld => settled_eq ((if_neg (by omega)).trans (if_pos hheld)), fun hhigh hnone => settled_eq ((if_neg (by omega)).trans (if_neg (by rw [hnone]; decide)))⟩,
    fun s => ⟨fun hnone => settled_eq (if_pos (by rw [hnone]; rfl)), fun hheld => ?_⟩,
    fun k s hmode hk => ⟨fun b t hblock => settled_eq ((if_neg (by omega)).trans (by rw [hblock])), fun hnone => settled_eq ((if_neg (by omega)).trans (by rw [hnone]))⟩⟩
  obtain ⟨w, hexec⟩ := execCandidateExpired_of_held hheld
  obtain ⟨x, e, f, v, t, st, lost, hlog⟩ := (s.modAfe fun x => { x with wakes := w, held := none, counts := bump x.counts 0 }).logAon_eq 0 0x0705 0xFF 0x50 []
  rw [hlog] at hexec
  exact ⟨_, hexec, rfl, rfl, rfl, rfl, rfl, rfl⟩

end

section
/-! SUPPORT. Cameras and their frames. -/

namespace Sys2Proof.Machine

theorem State.modCam_cam_self {s : State} {k : Nat} (h : k < s.image.cams.length) (f : Camera → Camera) : (s.modCam k f).cam k = f (s.cam k) :=
  getD_modify_self h f _

theorem State.modCam_modCam (s : State) (k : Nat) (f g : Camera → Camera) : (s.modCam k f).modCam k g = s.modCam k (g ∘ f) := by
  unfold State.modCam
  dsimp only
  rw [List.modify_modify_eq]

/-- A frame with no trigger of its own, that begins in the state left once the frame before it has closed. -/
def State.beginFrame (k number : Nat) (slots : List (Option Nat)) (now : Nat) (s1 s : State) : State :=
  (s.modCam k fun x =>
    { x with state := 2, seq := (s1.cam k).seq + 1, recving := some (s1.cam k).seq,
             frames := x.frames ++ [{ seq := (s1.cam k).seq, csi := number, fsNs := s1.nowNs, valid := s1.timeValid, ctl := s1.camControls k, slots := slots }],
             periodNs := if x.lastFsNs = 0 then 0 else now - x.lastFsNs, lastFsNs := now }).openSlot k (s1.cam k).seq

theorem execCsiFrameStart_of_untriggered {port vc number ticks k : Nat} {s s1 : State} (hon : s.camOn port vc = some k) (hruns : s.camRuns k = true)
    (hs1 : (s.reach ticks).closeFrame k false = s1) (htrig : ¬s1.camCfg k 10 < 16) {credits : Option (List (Option Nat) × State)}
    (hcredits : (if s1.acceptsFrame k = true then s1.takeCredits k (((s1.camControls k).drop 8).take 4) else none) = credits) :
    execCsiFrameStart port vc number ticks false s = .next (s.settle
      (let t := s1.beginFrame k number ((credits.map (·.1)).getD []) (credits.elim s1 (·.2)).nowNs (credits.elim s1 (·.2))
      if !s1.acceptsFrame k then t.dropFrame k (s1.cam k).seq 1 else if credits.isNone then t.dropFrame k (s1.cam k).seq 3 else t)) := by
  refine settled_eq ?_
  rw [hon]
  refine (if_neg (by rw [hruns]; decide)).trans ?_
  dsimp only
  rw [hs1, if_neg htrig]
  simp only [Bool.false_eq_true, ↓reduceIte]
  rw [hcredits]
  cases credits <;> rfl

/-- A line whose samples are all there is those samples, scaled. -/
theorem scaledLine_of_whole {samples : List Nat} {n : Nat} (h : samples.length = n) (sh : Nat) (black : List Nat) :
    ((List.range n).map fun i => if i < samples.length then samples.getD i 0 * sh % 16384 else black.getD i 0) = samples.map fun v => v * sh % 16384 := by
  subst h
  refine List.ext_getElem (by simp) fun i hi _ => ?_
  have hlt : i < samples.length := by simpa using hi
  simp [hlt]

section Receiving

variable {port vc k : Nat} {s : State} {f : CamFrame} (hon : s.camOn port vc = some k) (hruns : s.camRuns k = true) (hcur : (s.cam k).current? = some f)
include hon hruns hcur

theorem execCsiLongPacket_of_whole (hroom : f.arrived < ofBE (f.ctl.getD 13 [])) {samples : List Nat}
    (hlength : samples.length = if s.camCfg k 4 = 0x1E then 2 * ofBE (f.ctl.getD 12 []) else ofBE (f.ctl.getD 12 [])) :
    execCsiLongPacket port vc (s.camCfg k 4) 0 true samples s = .next (s.settle
      (s.pushLine k f.seq { samples := samples.map fun v => v * 2 ^ (inputShift (s.camCfg k 4)).getD 0 % 16384 })) := by
  have hpast : decide (ofBE (f.ctl.getD 13 []) ≤ f.arrived) = false := decide_eq_false (by omega)
  have hshort : ¬decide (samples.length < if s.camCfg k 4 = 0x1E then 2 * ofBE (f.ctl.getD 12 []) else ofBE (f.ctl.getD 12 [])) = true := by simp [hlength]
  have hlong : ¬decide ((if s.camCfg k 4 = 0x1E then 2 * ofBE (f.ctl.getD 12 []) else ofBE (f.ctl.getD 12 [])) < samples.length) = true := by simp [hlength]
  refine settled_eq ?_
  rw [hon]
  refine (if_neg (by simp [hruns])).trans ?_
  rw [hcur]
  dsimp only
  rw [hpast, if_neg (by decide), if_neg (by decide), if_neg (by decide), scaledLine_of_whole hlength, if_neg hshort, if_neg hlong]
  rfl

theorem execCsiLongPacket_of_lost_header (hroom : f.arrived < ofBE (f.ctl.getD 13 [])) (crcOk : Bool) (samples : List Nat) :
    execCsiLongPacket port vc (s.camCfg k 4) 2 crcOk samples s = .next (s.settle
      (((((s.camViolation k 0x0805 ([byteOf port, byteOf vc] ++ be 2 f.arrived)).countCam k 6).modFrame k f.seq fun f =>
        { f with flags := f.flags ||| 64, replaced := f.replaced + 1 })).pushLine k f.seq
          { samples := ((s.camViolation k 0x0805 ([byteOf port, byteOf vc] ++ be 2 f.arrived)).countCam k 6).standIn k f, real := false })) := by
  have hpast : decide (ofBE (f.ctl.getD 13 []) ≤ f.arrived) = false := decide_eq_false (by omega)
  refine settled_eq ?_
  rw [hon]
  refine (if_neg (by simp [hruns])).trans ?_
  rw [hcur]
  dsimp only
  rw [hpast, if_neg (by decide), if_neg (by decide), if_pos rfl]

theorem execCsiLongPacket_of_past (hpast : ofBE (f.ctl.getD 13 []) ≤ f.arrived) (ecc : Nat) (crcOk : Bool) (samples : List Nat) :
    execCsiLongPacket port vc (s.camCfg k 4) ecc crcOk samples s = .next (s.settle
      (if ecc = 2 then s.camViolation k 0x0805 ([byteOf port, byteOf vc] ++ be 2 f.arrived)
      else if f.flags.testBit 1 then s else (s.countCam k 11).modFrame k f.seq fun f => { f with flags := f.flags ||| 2 })) := by
  refine settled_eq ?_
  rw [hon]
  refine (if_neg (by simp [hruns])).trans ?_
  rw [hcur]
  dsimp only
  rw [decide_eq_true hpast]
  by_cases hecc : ecc = 2
  · exact (if_pos ⟨hecc, rfl⟩).trans (if_pos hecc).symm
  · exact (if_neg fun h => hecc h.1).trans ((if_pos rfl).trans (if_neg hecc).symm)

theorem execCsiFrameEnd_of_frame (ticks : Nat) : execCsiFrameEnd port vc ticks false s = .next (s.settle ((s.reach ticks).closeFrame k true)) := by
  refine settled_eq ?_
  rw [hon]
  refine (if_neg (by simp [hruns])).trans ?_
  rw [hcur]
  rfl

end Receiving

/-- What waits again after a transfer failed: a newer request, or the one that failed with one more failure, up to two. -/
def CamSetting.again (w sl : Option CamSetting) : Option CamSetting :=
  match w, sl with
  | some a, _ => some a
  | none, some v => if 2 ≤ v.failed then none else some { v with failed := v.failed + 1 }
  | none, none => none

/-- What a slot held has now failed three times. -/
def CamSetting.spent : Option CamSetting → Bool
  | some v => decide (2 ≤ v.failed)
  | none => false

/-- A camera whose transfer failed, with what its slot held put back. -/
def Camera.settingsFailed (x : Camera) : Camera :=
  { x with slotE := none, slotG := none, waitE := CamSetting.again x.waitE x.slotE, waitG := CamSetting.again x.waitG x.slotG }

/-- The same, with the failure flagged on the frame whose slot it was. -/
def Camera.settingsBack (n : Nat) (x : Camera) : Camera :=
  Camera.settingsFailed { x with frames := x.frames.map fun e => if e.seq = n then { e with flags := e.flags ||| 512 } else e }

/-- A camera whose request is given up. -/
def Camera.requestGivenUp (x : Camera) : Camera := { x with failedReqs := x.failedReqs + 1, ctrlCode := 0x0808 }

section Settings

variable {k : Nat} {s : State} (hmode : 4 ≤ s.mode) (hslot : (s.cam k).slotE.isSome = true ∨ (s.cam k).slotG.isSome = true)
include hmode hslot

theorem camera_slot_filled : ¬(((s.cam k).slotE.isNone = true ∧ (s.cam k).slotG.isNone = true) ∨ s.mode < 4) := by
  rintro (⟨hE, hG⟩ | hlow)
  · rw [Option.isNone_iff_eq_none] at hE hG
    rw [hE, hG] at hslot
    exact hslot.elim nofun nofun
  · omega

theorem execCtrlTransferDone_of_done : execCtrlTransferDone k true s = .next (s.settle
    ((s.send (.bus (s.field 0 (0x6001 + 0x20 * k) 1 0) (s.field 0 (0x6001 + 0x20 * k) 1 1) (s.slotWrites k))).modCam k fun x =>
      { x with slotE := none, slotG := none, sentGen := max (((s.cam k).slotE.map (·.gen)).getD 0) (((s.cam k).slotG.map (·.gen)).getD 0),
               effE := x.slotE.elim x.effE fun v => (((s.cam k).slotSeq + s.cfg (0x6001 + 0x20 * k) 3, v) :: x.effE).take 32,
               effG := x.slotG.elim x.effG fun v => (((s.cam k).slotSeq + s.cfg (0x6001 + 0x20 * k) 4, v) :: x.effG).take 32 })) := by
  refine settled_eq ((if_neg (camera_slot_filled hmode hslot)).trans ((if_pos rfl).trans (congrArg (fun f => State.modCam k f _) (funext fun x => ?_))))
  cases x.slotE <;> cases x.slotG <;> rfl

/-- The failure of a transfer puts what it carried back to wait, and its request is given up after the third. -/
theorem execCtrlTransferDone_of_failed {t : State} (ht : s.modCam k (Camera.settingsBack (s.cam k).slotSeq) = t) :
    execCtrlTransferDone k false s = .next (s.settle
      (if CamSetting.spent (s.cam k).slotE || CamSetting.spent (s.cam k).slotG then (t.modCam k Camera.requestGivenUp).camViolation k 0x0808
        (byteOf k :: be 2 (max (((s.cam k).slotE.map (·.gen)).getD 0) (((s.cam k).slotG.map (·.gen)).getD 0))) else t)) := by
  have hback : ((s.modFrame k (s.cam k).slotSeq fun f => { f with flags := f.flags ||| 512 }).modCam k Camera.settingsFailed) = t :=
    (State.modCam_modCam ..).trans ht
  subst hback
  exact settled_eq ((if_neg (camera_slot_filled hmode hslot)).trans (if_neg Bool.false_ne_true))

/-- The camera that a failed transfer leaves. -/
theorem execCtrlTransferDone_failed_cam (hk : k < s.image.cams.length) : ∃ u, execCtrlTransferDone k false s = .next (s.settle u) ∧
    u.cam k = (if CamSetting.spent (s.cam k).slotE || CamSetting.spent (s.cam k).slotG then Camera.requestGivenUp else id) (Camera.settingsBack (s.cam k).slotSeq (s.cam k)) := by
  refine ⟨_, execCtrlTransferDone_of_failed hmode hslot rfl, ?_⟩
  split
  · unfold State.camViolation State.cam
    rw [State.logViolation_image]
    refine (congrArg (fun t : State => t.cam k) (State.modCam_modCam ..)).trans (State.modCam_cam_self hk _)
  · exact State.modCam_cam_self hk _

end Settings

end Sys2Proof.Machine

open Sys2Proof.Machine

/-- Settles O51: a frame from its start to its publication by the tests of its rows, and a camera's settings by how their transfer ended. -/
theorem camerasTakeFramesWhole : Obligations.CamerasTakeFramesWhole := by
  refine ⟨fun port vc number ticks k s hon hruns htrig => ?_, fun port vc k samples s f hon hruns hcur => ?_, fun port vc ticks k s hon hruns hnone => ?_,
    fun port vc ty s hmode hnone => ?_, fun k s => ⟨fun h => settled_eq (if_pos h), fun h => settled_eq (if_neg (by simp [h]))⟩, fun full s k seq l rest hfind hfifo => ?_,
    fun k s f hfind hmode howner => ?_, fun k o i f v s b hb => ?_, fun k s hmode hslot hk => ?_, fun k s v hmode hslot hk => ?_⟩
  · have hexec := fun c hc => execCsiFrameStart_of_untriggered (credits := c) (number := number) hon hruns rfl (Nat.not_lt.mpr htrig) hc
    refine ⟨fun l t hacc hcred => (hexec _ ((if_pos hacc).trans hcred)).trans (congrArg _ (congrArg _ ?_)),
      fun hacc hcred => (hexec _ ((if_pos hacc).trans hcred)).trans (congrArg _ (congrArg _ ?_)),
      fun hrej => (hexec _ (if_neg (Bool.eq_false_iff.mp hrej))).trans (congrArg _ (congrArg _ ?_))⟩
    · exact (if_neg (by rw [hacc]; decide)).trans (if_neg Bool.false_ne_true)
    · exact (if_neg (by rw [hacc]; decide)).trans (if_pos rfl)
    · exact if_pos (by rw [hrej]; rfl)
  · exact ⟨fun hroom hlength => execCsiLongPacket_of_whole hon hruns hcur hroom hlength, fun hroom => execCsiLongPacket_of_lost_header hon hruns hcur hroom true samples,
      fun hpast hflag => (execCsiLongPacket_of_past hon hruns hcur hpast 0 true samples).trans
        (congrArg _ (congrArg _ ((if_neg (by decide)).trans (if_neg (Bool.eq_false_iff.mp hflag))))),
      fun hpast => (execCsiLongPacket_of_past hon hruns hcur hpast 2 true samples).trans (congrArg _ (congrArg _ (if_pos rfl))),
      execCsiFrameEnd_of_frame hon hruns hcur⟩
  · refine settled_eq ?_
    rw [hon]
    refine (if_neg (by simp [hruns])).trans ?_
    rw [hnone]
  · refine settled_eq ?_
    rw [hnone]
    exact if_neg (by simp; omega)
  · refine settled_eq ?_
    rw [hfind]
    dsimp only
    have hhead : (({ s with image := { s.image with served := k } } : State).cam k).fifo = (seq, l) :: rest := hfifo
    rw [hhead]
  · refine ⟨fun hbell => settled_eq ?_, fun hbell => settled_eq ?_⟩
    · rw [hfind]
      refine (if_neg (by omega)).trans (if_pos ?_)
      simpa using hbell
    · rw [hfind]
      refine (if_neg (by omega)).trans (if_neg ?_)
      simpa using hbell
  · unfold State.writeOutput
    rw [hb]
  · have hcam := State.modCam_cam_self (s := s.send (.bus (s.field 0 (0x6001 + 0x20 * k) 1 0) (s.field 0 (0x6001 + 0x20 * k) 1 1) (s.slotWrites k))) hk
    refine ⟨_, execCtrlTransferDone_of_done hmode hslot, (congrArg Camera.slotE (hcam _)).trans rfl, (congrArg Camera.slotG (hcam _)).trans rfl,
      (congrArg Camera.sentGen (hcam _)).trans rfl, fun v hv => ?_, fun v hv => ?_, rfl, rfl⟩
    · refine (congrArg (fun x => x.effE.head?) (hcam _)).trans ?_
      have hE : ((s.send (.bus (s.field 0 (0x6001 + 0x20 * k) 1 0) (s.field 0 (0x6001 + 0x20 * k) 1 1) (s.slotWrites k))).cam k).slotE = some v := hv
      dsimp only
      rw [hE]
      rfl
    · refine (congrArg (fun x => x.effG.head?) (hcam _)).trans ?_
      have hG : ((s.send (.bus (s.field 0 (0x6001 + 0x20 * k) 1 0) (s.field 0 (0x6001 + 0x20 * k) 1 1) (s.slotWrites k))).cam k).slotG = some v := hv
      dsimp only
      rw [hG]
      rfl
  · obtain ⟨u, hexec, hcam⟩ := execCtrlTransferDone_failed_cam hmode (.inl (by rw [hslot]; rfl)) hk
    rw [hslot] at hcam
    refine ⟨_, hexec, ?_⟩
    have hcam' : (s.settle u).cam k = _ := hcam
    rw [hcam']
    refine ⟨?_, ?_, ?_, fun hnone hfew => ?_, fun hspent => ?_⟩
    · split <;> rfl
    · split <;> rfl
    · split <;> rfl
    · have hagain : CamSetting.again (s.cam k).waitE (s.cam k).slotE = some { v with failed := v.failed + 1 } := by
        rw [hnone, hslot]
        exact if_neg (by omega)
      split <;> exact hagain
    · rw [if_pos (by simp [CamSetting.spent, hspent])]
      rfl

end

section
/-! SUPPORT. Time messages and the timers of Meridian. -/

namespace Sys2Proof.Machine

theorem State.reach_cfg (s : State) (ticks idx sub : Nat) : (s.reach ticks).cfg idx sub = s.cfg idx sub := by
  rw [State.reach_eq]
  rfl

theorem State.reach_ptpSeq (s : State) (ticks : Nat) : (s.reach ticks).time.ptpSeq = s.time.ptpSeq := ite_keeps (fun t : State => t.time.ptpSeq) rfl rfl

theorem State.timeMessage_of_malformed {m : PtpMsg} (hbad : PtpMsg_wellFormed m = false) (count : Nat) (profile : Option Nat) (tc k : State → State) (s : State) :
    s.timeMessage m count profile tc k = (s.reach m.stamp).malformedTime m := if_pos (by rw [hbad]; rfl)

section OfTheDomain

variable {m : PtpMsg} {s : State} {count : Nat} (hwell : PtpMsg_wellFormed m = true) (hdomain : m.domain = s.cfg 0x1610 3) (hus : m.toUs = true)
  {tc : State → State} (htc : tc ((s.reach m.stamp).countPtp count) = (s.reach m.stamp).countPtp count)
include hwell hdomain hus htc

/-- A message of the domain for the part, that crosses nothing, is taken in the state that counts it. -/
theorem State.timeMessage_of_ours {profile : Option Nat} (hprofile : ∀ i ∈ profile, ((s.reach m.stamp).countPtp count).inProfile i m.logInterval = true)
    (k : State → State) : s.timeMessage m count profile tc k = k ((s.reach m.stamp).countPtp count) := by
  have hours : ¬m.domain ≠ ((s.reach m.stamp).countPtp count).cfg 0x1610 3 := not_not_intro (hdomain.trans (s.reach_cfg ..).symm)
  refine (if_neg (by rw [hwell]; decide)).trans ?_
  rw [htc, if_neg hours, if_neg (by rw [hus]; decide)]
  cases profile with
  | none => rfl
  | some i => exact congrArg k (if_pos (hprofile i rfl))

end OfTheDomain

theorem State.tcSync_of_inside {m : PtpMsg} (h : m.egress = none) (s : State) : s.tcSync m = s := by
  unfold State.tcSync
  rw [h]

theorem State.tcFollowUp_of_inside {m : PtpMsg} (h : m.egress = none) (s : State) : s.tcFollowUp m = s := by
  unfold State.tcFollowUp
  rw [h]

theorem State.crossPlain_of_inside {m : PtpMsg} (h : m.egress = none) (forwards : Bool) (s : State) : s.crossPlain m forwards = s := if_neg (by simp [h])

theorem execPtpDelayReq_of_correcting {m : PtpMsg} {s : State} {e : Nat} (hwell : PtpMsg_wellFormed m = true) (hegress : m.egress = some e)
    (hmode : (s.reach m.stamp).cfg 0x1610 7 = 1) : execPtpDelayReq m s = .next (s.settle
    ((if m.domain ≠ s.cfg 0x1610 3 then (s.reach m.stamp).countPtp 6 else s.reach m.stamp).cross m (residence m.stamp e) true)) := by
  refine settled_eq ((if_neg (by rw [hwell]; decide)).trans ?_)
  dsimp only
  rw [hegress, State.reach_cfg]
  dsimp only
  have hcfg : (if m.domain ≠ s.cfg 0x1610 3 then (s.reach m.stamp).countPtp 6 else s.reach m.stamp).cfg 0x1610 7 = 1 :=
    ite_keeps (fun t : State => t.cfg 0x1610 7) hmode hmode
  exact (if_neg (by rw [hcfg]; decide)).trans (if_pos hcfg)

end Sys2Proof.Machine

open Sys2Proof.Machine

/-- Settles O52: messages by their form, domain and row, and the timers by what they find. -/
theorem timeMessagesAreTakenOrDiscarded : Obligations.TimeMessagesAreTakenOrDiscarded := by
  refine ⟨fun m a s hbad => ?_, fun m s hwell hdomain hus hegress => ?_, fun m s r q hwell hdomain hus hegress htyp hr hq => ?_, fun m s e hwell hegress hmode => ?_,
    fun port stamp s hpeer hfollow hparent => ?_, fun s p hp => settled_eq (by rw [hp]; rfl), fun s => rfl, fun n e s hn hforce => ?_⟩
  · simp only [List.forall_mem_cons, List.not_mem_nil, false_implies, implies_true, and_true]
    have hmal := State.timeMessage_of_malformed hbad
    exact ⟨settled_eq (hmal ..), settled_eq (hmal ..), settled_eq (hmal ..), settled_eq (if_pos (by rw [hbad]; rfl)), settled_eq (hmal ..), settled_eq (hmal ..), settled_eq (hmal ..)⟩
  · have hsync := fun profile => State.timeMessage_of_ours (count := 0) (profile := profile) hwell hdomain hus (State.tcSync_of_inside hegress _)
    have hfollowUp := fun k => State.timeMessage_of_ours (count := 1) (profile := none) hwell hdomain hus (State.tcFollowUp_of_inside hegress _) nofun k
    have hplain := fun count profile (f : State → Bool) => State.timeMessage_of_ours (count := count) (profile := profile) (tc := fun s => s.crossPlain m (f s)) hwell hdomain hus
      (State.crossPlain_of_inside hegress _ _)
    refine ⟨fun a hin => ?_, fun hin => ⟨fun htwo => ?_, fun hone hfollow hparent => ?_⟩, fun k hk hfollow hparent => ?_, fun hk => ?_, fun k d hin hk hd => ?_,
      fun hpeer => ?_, fun q htyp hq hone => ?_⟩
    · exact settled_eq (hplain 4 (some 1) (fun _ => true) (by rintro i ⟨⟩; exact hin) _)
    · exact settled_eq ((hsync (some 0) (by rintro i ⟨⟩; exact hin) _).trans (if_pos htwo))
    · exact settled_eq ((hsync (some 0) (by rintro i ⟨⟩; exact hin) _).trans ((if_neg (by rw [hone]; decide)).trans (if_neg (by rw [hfollow, hparent]; decide))))
    · refine settled_eq ((hfollowUp _).trans ?_)
      rw [hk]
      exact if_pos (by rw [hfollow, hparent]; rfl)
    · refine settled_eq ((hfollowUp _).trans ?_)
      rw [hk]
    · refine settled_eq ((hplain 2 (some 2) (fun s => s.cfg 0x1610 7 != 2) (by rintro i ⟨⟩; exact hin) _).trans ?_)
      rw [hk]
      dsimp only
      split
      · next hnone => cases hnone.symm.trans hd
      · next hsome =>
        cases hsome.symm.trans hd
        rfl
    · exact settled_eq ((hplain 3 none (fun s => s.cfg 0x1610 7 == 0) nofun _).trans (if_pos hpeer))
    · refine settled_eq ((hplain 3 none (fun s => s.cfg 0x1610 7 == 0) nofun _).trans ((if_neg htyp).trans ?_))
      rw [hq]
      exact if_neg (by rw [hone]; decide)
  · refine settled_eq ((State.timeMessage_of_ours (count := 3) (profile := none) (tc := fun s => s.crossPlain m (s.cfg 0x1610 7 == 0)) hwell hdomain hus
      (State.crossPlain_of_inside hegress _ _) nofun _).trans ((if_pos htyp).trans ?_))
    rw [hr, hq]
  · have hexec := execPtpDelayReq_of_correcting hwell hegress hmode
    exact ⟨fun hours => hexec.trans (by rw [if_neg (not_not_intro hours)]), fun hother => hexec.trans (by rw [if_pos hother])⟩
  · refine settled_eq ((if_neg (by simp [hpeer, hfollow, hparent])).trans ?_)
    rw [hpeer, ← s.reach_ptpSeq stamp]
    rfl
  · exact ⟨_, settled_eq (if_neg (by rw [hforce]; simp; omega)), rfl, rfl⟩

end

section
/-! SUPPORT. Triggers and captures. -/

namespace Sys2Proof.Machine

/-- Reaching a time moves the two counters alone. -/
theorem State.reach_form (s : State) (ticks : Nat) : ∃ a b, s.reach ticks = { s with time := { s.time with ns112 := a, secns := b } } := by
  unfold State.reach
  split
  · exact ⟨_, s.time.secns, rfl⟩
  · exact ⟨s.time.ns112, _, rfl⟩

def State.modCapture (n : Nat) (f : Capture → Capture) (s : State) : State := { s with time := { s.time with captures := s.time.captures.modify n f } }

theorem State.modCapture_self {s : State} {n : Nat} (h : n < s.time.captures.length) (f : Capture → Capture) :
    (s.modCapture n f).time.captures.getD n {} = f (s.time.captures.getD n {}) := getD_modify_self h f _

theorem State.settle_modCapture_self {t : State} {n : Nat} (h : n < t.time.captures.length) (s : State) (f : Capture → Capture) :
    (s.settle (t.modCapture n f)).time.captures.getD n {} = f (t.time.captures.getD n {}) := State.modCapture_self h f

theorem State.settle_modCapture_logged {t : State} {n : Nat} (h : n < t.time.captures.length) (s : State) (f : Capture → Capture) (c k o : Nat) (d : Bytes) :
    (s.settle ((t.modCapture n f).logViolation c k o d)).time.captures.getD n {} = f (t.time.captures.getD n {}) := by
  refine (congrArg (fun m : Meridian => m.captures.getD n {}) (congrArg Meridian.hold (State.logViolation_time ..))).trans (State.modCapture_self h f)

theorem State.modCapture_modCapture (s : State) (n : Nat) (f g : Capture → Capture) : (s.modCapture n f).modCapture n g = s.modCapture n (g ∘ f) := by
  unfold State.modCapture
  dsimp only
  rw [List.modify_modify_eq]

/-- A capture unit that has counted an event. -/
def Capture.counted (ticks : Nat) (y : Capture) : Capture := { y with seq := y.seq + 1, events := y.events + 1, lastAt := some ticks }

/-- A capture unit that has lost an event. -/
def Capture.missed (y : Capture) : Capture := { y with lost := y.lost + 1, lostBefore := true }

/-- A capture unit that has kept an event's record. -/
def Capture.kept (r : Bytes) (y : Capture) : Capture := { y with undelivered := y.undelivered ++ [r], lostBefore := false }

/-- The event comes within 100 ns of the last. -/
def Capture.close (x : Capture) (ticks : Nat) : Bool :=
  match x.lastAt with
  | some t => decide (ticks < t + 100 * 2 ^ 32)
  | none => false

theorem Capture.close_iff (x : Capture) (ticks : Nat) : x.close ticks = true ↔ ∃ t, x.lastAt = some t ∧ ticks < t + 100 * 2 ^ 32 := by
  unfold Capture.close
  cases x.lastAt <;> simp

/-- An edge that the setting names is one that the unit takes. -/
theorem edge_taken {src e : Nat} {falling : Bool} (h : if src < 4 then (if falling then e = 2 ∨ e = 3 else e = 1 ∨ e = 3) else falling = false) :
    (if src < 4 then (if falling then e == 2 || e == 3 else e == 1 || e == 3) else !falling) = true := by
  by_cases hpin : src < 4
  · rw [if_pos hpin] at h ⊢
    cases falling
    · simpa only [Bool.false_eq_true, if_false, Bool.or_eq_true, beq_iff_eq] using h
    · simpa only [if_true, Bool.or_eq_true, beq_iff_eq] using h
  · rw [if_neg hpin] at h ⊢
    rw [h]
    rfl

section Event

variable {n src ticks : Nat} {falling : Bool} {s : State} (hn : n < 16) (hmode : 4 ≤ s.mode) (hforce : s.time.nsInForce = true)
  (hon : s.field 0 (0x1780 + n) 2 0 ≠ 0) (hsrc : s.field 0 (0x1780 + n) 2 1 = src)
  (hedge : if src < 4 then (if falling then s.field 0 (0x1780 + n) 2 2 = 2 ∨ s.field 0 (0x1780 + n) 2 2 = 3
    else s.field 0 (0x1780 + n) 2 2 = 1 ∨ s.field 0 (0x1780 + n) 2 2 = 3) else falling = false)
include hn hmode hforce hon hsrc hedge

theorem execCaptureEvent_of_armed {a b : Nat} (hreach : s.reach ticks = { s with time := { s.time with ns112 := a, secns := b } }) {t : State}
    (ht : { s with time := { s.time with ns112 := a, secns := b } } = t) {x : Capture} (hx : s.time.captures.getD n {} = x) :
    execCaptureEvent n src falling ticks s = .next (s.settle
      (if x.close ticks = true ∨ 256 ≤ x.undelivered.length then
        ((t.modCapture n (Capture.missed ∘ Capture.counted ticks)).logViolation 0x0A07 (t.captureScope n) 0 ([byteOf n] ++ be 4 (x.lost + 1)))
      else t.modCapture n (Capture.kept (time96 (ticks / 2 ^ 32) s.timeValid ++ le 4 (ticks % 2 ^ 32) ++ le 4 ((x.seq + 1) % 2 ^ 32) ++
        le 2 (s.time.generation % 65536) ++ [byteOf src, byteOf (b01 (decide (src < 4) && falling) + 2 * b01 x.lostBefore)]) ∘ Capture.counted ticks))) := by
  have hgo : ¬(16 ≤ n ∨ s.field 0 (0x1780 + n) 2 0 = 0 ∨ s.field 0 (0x1780 + n) 2 1 ≠ src ∨
      (!(if src < 4 then (if falling then s.field 0 (0x1780 + n) 2 2 == 2 || s.field 0 (0x1780 + n) 2 2 == 3
        else s.field 0 (0x1780 + n) 2 2 == 1 || s.field 0 (0x1780 + n) 2 2 == 3) else !falling)) = true ∨ s.mode < 4 ∨ (!s.time.nsInForce) = true) := by
    rw [edge_taken hedge, hforce]
    simp only [Bool.not_true, Bool.false_eq_true, or_false, false_or]
    omega
  subst ht hx
  refine settled_eq ((if_neg hgo).trans ?_)
  rw [← State.modCapture_modCapture, ← State.modCapture_modCapture, hreach]
  rfl

end Event

end Sys2Proof.Machine

open Sys2Proof.Machine

/-- Settles O54: a unit by its state, and an event by the time since the last and the room for it. -/
theorem triggersFireAndCapturesStamp : Obligations.TriggersFireAndCapturesStamp := by
  refine ⟨fun t s ht hmode hforce => ⟨fun harmed => settled_eq (if_neg (by rw [hforce]; simp only [Bool.not_true, Bool.false_eq_true, or_false]; omega)),
      fun hidle => settled_eq (if_pos (Or.inr (Or.inl hidle)))⟩,
    fun n src ticks falling s hn hlen hmode hforce hon hsrc hedge => ?_⟩
  obtain ⟨a, b, hreach⟩ := s.reach_form ticks
  have hexec := execCaptureEvent_of_armed hn hmode hforce hon hsrc hedge hreach rfl rfl
  generalize ht : ({ s with time := { s.time with ns112 := a, secns := b } } : State) = t at hexec
  have hcaptures : t.time.captures = s.time.captures := by rw [← ht]
  have hlen' : n < t.time.captures.length := hcaptures ▸ hlen
  refine ⟨fun hfar hroom => ⟨_, hexec, ?_⟩, fun hlost => ⟨_, hexec, ?_⟩⟩
  · rw [if_neg (by
      rw [Capture.close_iff]
      rintro (⟨t, ht, hclose⟩ | hfull)
      · exact absurd (hfar t ht) (by omega)
      · omega)]
    have hself := State.settle_modCapture_self hlen' s
    rw [hcaptures] at hself
    refine ⟨congrArg Capture.undelivered (hself _), congrArg Capture.seq (hself _), (congrArg Capture.lost (hself _)).trans rfl, congrArg Capture.lostBefore (hself _), ?_⟩
    rw [← ht]
    rfl
  · rw [if_pos (by rwa [Capture.close_iff])]
    have hself := State.settle_modCapture_logged hlen' s
    rw [hcaptures] at hself
    refine ⟨(congrArg Capture.undelivered (hself _ _ _ _ _)).trans rfl, congrArg Capture.seq (hself _ _ _ _ _), congrArg Capture.lost (hself _ _ _ _ _),
      congrArg Capture.lostBefore (hself _ _ _ _ _), (State.logViolation_slots ..).trans ?_, (State.logViolation_objects ..).trans ?_⟩ <;>
    rw [← ht] <;> rfl

end

section
/-! SUPPORT. The bridge. -/

namespace Sys2Proof.Machine

/-- The state that has learned where a frame came from. -/
def State.learned (f : EtherFrame) (vid : Nat) (s : State) : State :=
  s.modNet fun x => { x with macs := { vid := vid, mac := f.src, port := f.port, atNs := s.nowNs } :: s.net.macs.filter fun m => !(m.vid == vid && m.mac == f.src) }

/-- Where a frame that has been learned from goes: inside, out of the other port, or both. -/
def State.deliverFrame (f : EtherFrame) (vid pcp : Nat) (e : Nat × Nat) (s : State) : State :=
  let own := f.dst == macBase || f.dst == macBase + 1
  let many := (f.dst / 2 ^ 40).testBit 0
  let joined := match f.group with
    | some g => s.net.groups.any fun e => e.1 == f.port && e.2.1 == g
    | none => false
  let inside := e.1.testBit 2 && (own || f.dst == 2 ^ 48 - 1 || ptpGroups.contains f.dst || (many && joined))
  let s := if inside then (if f.kind = 5 then s.countBridge f.port 5 else s.countBridge f.port 4) else s
  if own ∨ f.kind = 1 ∧ s.cfg 0x1610 7 ≠ 0 then s
  else match (if many then none else s.net.macs.find? fun m => m.vid == vid && m.mac == f.dst) with
    | some m => if m.port = f.port then s else s.forward f vid pcp e
    | none => s.forward f vid pcp e

section Frame

variable {f : EtherFrame} {s : State} (hmode : 4 ≤ s.mode) (hport : f.port < 2) (hlink : (s.net.ports.getD f.port {}).link = true) (hkind : f.kind ≠ 6)
  (hwhole : 64 ≤ f.length)
include hmode hport hlink hkind hwhole

theorem bridge_frame_taken : ¬(s.mode < 4 ∨ 2 ≤ f.port ∨ (!(s.net.ports.getD f.port {}).link) = true ∨ f.kind = 6 ∨ f.length < 64) := by
  rw [hlink]
  simp only [Bool.not_true, Bool.false_eq_true, false_or]
  omega

variable {vid pcp : Nat} (hvid : (f.tag.elim (s.portCfg f.port 4) fun t => if t.1 = 0 then s.portCfg f.port 4 else t.1) = vid)
  (hpcp : (f.tag.elim (s.portCfg f.port 5) fun t => t.2) = pcp) (hlong : f.length ≤ 1522)
include hvid hlong

theorem execBridgeFrame_of_no_vlan (hvlan : s.vlan vid = none) : execBridgeFrame f s = .next (s.settle (s.countBridge f.port 2)) := by
  refine settled_eq ((if_neg (bridge_frame_taken hmode hport hlink hkind hwhole)).trans ((if_neg (by omega)).trans ?_))
  subst hvid
  rcases htag : f.tag with _ | ⟨v, q⟩ <;> rw [htag] at hvlan <;> dsimp only [Option.elim] at hvlan ⊢ <;> rw [hvlan]

include hpcp in
theorem execBridgeFrame_of_vlan {e : Nat × Nat} (hvlan : s.vlan vid = some e) (hroom : (s.net.macs.filter fun m => !(m.vid == vid && m.mac == f.src)).length < 4096) :
    execBridgeFrame f s = .next (s.settle ((s.learned f vid).deliverFrame f vid pcp e)) := by
  refine settled_eq ((if_neg (bridge_frame_taken hmode hport hlink hkind hwhole)).trans ((if_neg (by omega)).trans ?_))
  subst hvid hpcp
  rcases htag : f.tag with _ | ⟨v, q⟩ <;> rw [htag] at hvlan hroom <;> dsimp only [Option.elim] at hvlan hroom ⊢ <;>
    rewrite [hvlan] <;> exact (congrArg (State.deliverFrame f _ _ e) (if_pos hroom))

end Frame

theorem State.deliverFrame_of_own {f : EtherFrame} (hdst : f.dst = macBase ∨ f.dst = macBase + 1) {e : Nat × Nat} (hinside : e.1.testBit 2 = true) (vid pcp : Nat) (s : State) :
    s.deliverFrame f vid pcp e = s.countBridge f.port (if f.kind = 5 then 5 else 4) := by
  have hown : (f.dst == macBase || f.dst == macBase + 1) = true := by simpa using hdst
  unfold State.deliverFrame
  dsimp only
  rw [hown, hinside, Bool.true_or, Bool.true_or, Bool.true_or, if_pos (Or.inl rfl)]
  refine (if_pos rfl).trans ?_
  split <;> rfl

theorem State.deliverFrame_of_unknown {f : EtherFrame} {vid : Nat} {s : State} (hkind : f.kind ≠ 1) (hbase : f.dst ≠ macBase) (hnext : f.dst ≠ macBase + 1)
    (hone : (f.dst / 2 ^ 40).testBit 0 = false) (hptp : f.dst ∉ ptpGroups) (hall : f.dst ≠ 2 ^ 48 - 1)
    (hunknown : (s.net.macs.find? fun m => m.vid == vid && m.mac == f.dst) = none) (pcp : Nat) (e : Nat × Nat) :
    s.deliverFrame f vid pcp e = s.forward f vid pcp e := by
  have hown : (f.dst == macBase || f.dst == macBase + 1) = false := by simp [hbase, hnext]
  have hinside : ∀ b : Bool, (e.1.testBit 2 && (false || f.dst == 2 ^ 48 - 1 || ptpGroups.contains f.dst || (false && b))) = false := by
    have hbcast : (f.dst == 2 ^ 48 - 1) = false := beq_eq_false_iff_ne.mpr hall
    have hgroup : ptpGroups.contains f.dst = false := by simpa using hptp
    intro b
    rw [hbcast, hgroup]
    simp only [Bool.false_and, Bool.or_false, Bool.and_false]
  unfold State.deliverFrame
  dsimp only
  rw [hown, hone, hinside, if_neg Bool.false_ne_true, if_neg (by simp [hkind]), if_neg Bool.false_ne_true, hunknown]

theorem MacEntry.other_iff {m : MacEntry} {vid mac : Nat} : (!(m.vid == vid && m.mac == mac)) = true ↔ ¬(m.vid = vid ∧ m.mac = mac) := by
  rw [Bool.not_eq_true', ← Bool.not_eq_true, Bool.and_eq_true, beq_iff_eq, beq_iff_eq]

theorem State.learned_unknown {f : EtherFrame} {vid : Nat} {s : State} (hother : f.dst ≠ f.src)
    (hunknown : (s.net.macs.all fun m => !(m.vid == vid && m.mac == f.dst)) = true) :
    ((s.learned f vid).net.macs.find? fun m => m.vid == vid && m.mac == f.dst) = none := by
  rw [List.find?_eq_none]
  rw [List.all_eq_true] at hunknown
  intro m hm
  obtain rfl | hm := List.mem_cons.mp hm
  · simp [hother.symm]
  · exact Bool.eq_false_iff.mp ((Bool.not_eq_true' _).mp (hunknown m (List.mem_filter.mp hm).1))

end Sys2Proof.Machine

open Sys2Proof.Machine

/-- Settles O55: links, frames and queries by what they meet. -/
theorem bridgeTakesLearnsAndForwards : Obligations.BridgeTakesLearnsAndForwards := by
  refine ⟨fun port speed s hport hmode => ⟨settled_eq ((if_neg (by omega)).trans (if_pos rfl)), fun hon hspeed => ?_, fun hoff => ?_, fun hon hauto hdown => ?_⟩,
    fun f s hmode hport hlink hkind hwhole => ?_, fun vid mac s => ⟨_, rfl, fun m hm => ?_, fun m hm hne => ?_, rfl⟩,
    fun port target v6 echo b s hmode hport => ⟨fun hown => settled_eq (if_neg (by rw [hown]; simp; omega)), fun hother => settled_eq (if_pos (Or.inr (Or.inr (by rw [hother]; rfl))))⟩,
    fun port group s hmode => settled_eq (if_neg (by omega))⟩
  · exact settled_eq ((if_neg (by omega)).trans ((if_neg (by decide)).trans (if_neg (not_or.mpr ⟨hon, not_not_intro hspeed⟩))))
  · exact settled_eq ((if_neg (by omega)).trans ((if_neg (by decide)).trans (if_pos hoff)))
  · exact settled_eq (if_neg (by rw [hdown]; simp only [Bool.false_eq_true, or_false]; omega))
  · intro vid pcp
    have hvid : (f.tag.elim (s.portCfg f.port 4) fun t => if t.1 = 0 then s.portCfg f.port 4 else t.1) = vid := by
      dsimp only [vid]
      cases f.tag <;> exact rfl
    have hpcp : (f.tag.elim (s.portCfg f.port 5) fun t => t.2) = pcp := by
      dsimp only [pcp]
      cases f.tag <;> exact rfl
    clear_value vid pcp
    refine ⟨fun hlong => settled_eq ((if_neg (bridge_frame_taken hmode hport hlink hkind hwhole)).trans (if_pos hlong)),
      fun hlong hvlan => execBridgeFrame_of_no_vlan hmode hport hlink hkind hwhole hvid hlong hvlan,
      fun e hlong hvlan hpeer hbase hnext hone hother hunknown hroom hptp hall => ?_, fun e hlong hvlan hown hinside hroom => ?_⟩
    · refine (execBridgeFrame_of_vlan hmode hport hlink hkind hwhole hvid hpcp hlong hvlan hroom).trans (congrArg _ (congrArg _ ?_))
      exact State.deliverFrame_of_unknown hpeer hbase hnext hone hptp hall (State.learned_unknown hother hunknown) pcp e
    · refine (execBridgeFrame_of_vlan hmode hport hlink hkind hwhole hvid hpcp hlong hvlan hroom).trans (congrArg _ (congrArg _ ?_))
      exact State.deliverFrame_of_own hown hinside vid pcp _
  · exact MacEntry.other_iff.mp (List.mem_filter.mp hm).2
  · exact List.mem_filter.mpr ⟨hm, MacEntry.other_iff.mpr hne⟩

end

section
/-! SUPPORT. AES67 streams. -/

namespace Sys2Proof.Machine

theorem State.rtpChannel_of_malformed {k : RtpPacket} {ch : Nat} {s : State} (hbad : k.version ≠ 2 ∨ k.payloadType ≠ s.rxCfg ch 5 ∨
      k.payload.length ≠ packetSamples (s.rxCfg ch 10) * (if s.rxCfg ch 7 = 1 then 2 else 1) * s.rxCfg ch 8 * (if s.rxCfg ch 6 = 1 then 3 else 2)) :
    s.rtpChannel k ch = ((s.countRx ch 0).countRx ch 4).logViolation 0x0902 (s.rxScope ch) 0x60 (be 2 ch ++ be 2 k.seq) := by
  simp only [← beq_iff_eq (a := s.rxCfg ch 7)] at hbad
  exact if_pos hbad

theorem State.reach_rxScope (s : State) (ticks ch : Nat) : (s.reach ticks).rxScope ch = s.rxScope ch := by
  unfold State.rxScope
  rw [State.reach_cfg]

section Release

variable {ch m : Nat} {s : State} (hmode : 4 ≤ s.mode) (hch : ch < 1024) (hon : s.rxCfg ch 0 ≠ 0) (hnext : ∀ q, (s.rxChan ch).next = some q → m = q)
include hmode hch hon hnext

theorem execAes67SampleRelease_of_due {t : State} (ht : s.reach (sampleTicks (s.rxCfg ch 7 == 1) m + s.rxCfg ch 11 * 1000 * 2 ^ 32) = t) :
    execAes67SampleRelease ch m s = .next (s.settle (((s.rxChan ch).got.find? fun e => e.1 == m).elim
      (((t.countRx ch 2).modRx ch fun x => { x.release (s.rxCfg ch 7 == 1) m 0 with got := x.got.filter fun e => decide (m < e.1), concealing := true }
        ).logViolation 0x0901 (s.rxScope ch) 0x60 (be 2 ch ++ be 8 m))
      fun e => t.modRx ch fun x => { x.release (s.rxCfg ch 7 == 1) m e.2 with got := x.got.filter fun e => decide (m < e.1) })) := by
  refine settled_eq ((if_neg ?_).trans ?_)
  · rintro (hlow | hhigh | hoff | hearly)
    · omega
    · omega
    · exact hon hoff
    · cases hq : (s.rxChan ch).next with
      | none => simp [hq] at hearly
      | some q => simp [hq, hnext q hq] at hearly
  · dsimp only
    rw [ht, ← s.reach_rxScope (sampleTicks (s.rxCfg ch 7 == 1) m + s.rxCfg ch 11 * 1000 * 2 ^ 32), ht]
    cases (s.rxChan ch).got.find? fun e => e.1 == m <;> exact rfl

end Release

theorem State.ringBlock_dict {s t : State} {p k i : Nat} {b : Bytes} (h : s.ringBlock p k i = some (b, t)) : t.dict = s.dict := by
  unfold State.ringBlock at h
  dsimp only at h
  split at h
  · cases h
  · split at h
    · cases h
    · cases h
      rfl

/-- Taking a channel's samples changes no object. -/
theorem State.txSamples_dict (ch n fuel : Nat) (s : State) : (s.txSamples ch n fuel).2.dict = s.dict := by
  induction fuel generalizing s with
  | zero => rfl
  | succ fuel ih =>
    unfold State.txSamples
    dsimp only
    split
    · rfl
    · split
      · rfl
      · split
        · next b t hblock => exact (ih _).trans (show t.dict = s.dict from State.ringBlock_dict hblock)
        · exact ih _

theorem State.txCfg_congr {s t : State} (h : t.dict = s.dict) (ch k : Nat) : t.txCfg ch k = s.txCfg ch k := by
  unfold State.txCfg State.field State.obj
  rw [h]

theorem length_flatMap_of_const {f : Nat → Bytes} {k : Nat} (h : ∀ i, (f i).length = k) (l : List Nat) : (l.flatMap f).length = l.length * k := by
  induction l with
  | nil => rw [List.flatMap_nil, List.length_nil, List.length_nil, Nat.zero_mul]
  | cons i l ih => rw [List.flatMap_cons, List.length_append, h, ih, List.length_cons, Nat.succ_mul, Nat.add_comm]

theorem length_frames {w : Nat} (n count : Nat) (g : Nat → Nat → Nat) :
    ((List.range n).flatMap fun i => (List.range count).flatMap fun c => be w (g i c)).length = n * count * w := by
  rw [length_flatMap_of_const fun i => length_flatMap_of_const (fun c => length_be w (g i c)) (List.range count), List.length_range, List.length_range,
    Nat.mul_assoc]

/-- The samples that the channels of a packet give, each taking its own. -/
def State.takeTx (ch n m : Nat) (r : State) : List (Nat × List Nat) × State :=
  ((List.range 64).filter fun k => r.txCfg k 0 == 1 && r.sameTx ch k && (match kvGet r.net.tx k with
    | some x => x.m0.map (· + x.sent) == some m
    | none => false)).foldl (fun (a : List (Nat × List Nat) × State) k =>
      let t := a.2.txSamples k n (n + 1)
      (a.1 ++ [(a.2.txCfg k 9, t.1)], t.2.modTx k fun x => { x with sent := x.sent + n, rtpSeq := (x.rtpSeq + 1) % 65536, counts := bump x.counts 0 })) ([], r)

theorem State.takeTx_dict (ch n m : Nat) (r : State) : (r.takeTx ch n m).2.dict = r.dict := by
  refine foldl_keeps (fun a : List (Nat × List Nat) × State => a.2.dict) ?_ _ ([], r)
  exact fun a k => State.txSamples_dict ..

/-- A sample of a packet, in its width. -/
def packetSample (w : Nat) (l : List (Nat × List Nat)) (i c : Nat) : Nat :=
  let v := match l.find? (fun e => e.1 == c) with
    | some e => e.2.getD i 0
    | none => 0
  if w = 3 then v else v / 256

/-- A packet that falls due is sent with the header of its channel, in the state that has taken its samples. -/
theorem execAes67TxPacket_of_due {ch m0 : Nat} {s : State} (hmode : 4 ≤ s.mode) (hdue : (kvGet s.net.tx ch).bind (·.m0) = some m0) (hon : s.txCfg ch 0 ≠ 0)
    {x : TxChannel} (hx : (kvGet s.net.tx ch).getD {} = x) {n : Nat} (hn : packetSamples (s.txCfg ch 10) = n) {r t : State}
    (hr : s.reach (sampleTicks false (m0 + x.sent + n)) = r) (ht : (r.takeTx ch n (m0 + x.sent)).2.free.2 = t) :
    execAes67TxPacket ch s = .next (s.settle
      (t.send (.ether (t.txCfg ch 1) (queueOf (t.txCfg ch 14)) (some (t.txCfg ch 13))
        ([0x80, byteOf (t.txCfg ch 5)] ++ be 2 x.rtpSeq ++ be 4 ((m0 + x.sent + t.txCfg ch 12) % 2 ^ 32) ++ be 4 ((r.takeTx ch n (m0 + x.sent)).2.free.1 % 2 ^ 32) ++
          (List.range n).flatMap fun i => (List.range (r.txCfg ch 8)).flatMap fun c =>
            be (if r.txCfg ch 6 = 1 then 3 else 2) (packetSample (if r.txCfg ch 6 = 1 then 3 else 2) (r.takeTx ch n (m0 + x.sent)).1 i c))))) := by
  subst hn hr ht hx
  refine settled_eq ?_
  rw [hdue]
  exact if_neg (by omega)

end Sys2Proof.Machine

open Sys2Proof.Machine

/-- Settles O56: a packet by its form, a release by what arrived, and the packet that falls due. -/
theorem streamsReleaseConcealAndSend : Obligations.StreamsReleaseConcealAndSend := by
  refine ⟨fun k s hmode hlink => settled_eq (if_neg (by rw [hlink]; simp; omega)), fun k ch s hbad => State.rtpChannel_of_malformed hbad,
    fun ch m s hmode hch hon hnext => ?_, fun ch m0 s x hmode hx hm0 hon => ?_⟩
  · have hexec := execAes67SampleRelease_of_due hmode hch hon hnext rfl
    exact ⟨fun e he => hexec.trans (by rw [he]; rfl), fun hnone => hexec.trans (by rw [hnone]; rfl)⟩
  · have hhead : (kvGet s.net.tx ch).getD {} = x := by rw [hx]; rfl
    have hdue : (kvGet s.net.tx ch).bind (·.m0) = some m0 := by rw [hx]; exact hm0
    have hexec := execAes67TxPacket_of_due hmode hdue hon hhead rfl rfl rfl
    have hreached := State.txCfg_congr (State.reach_dict s (sampleTicks false (m0 + x.sent + packetSamples (s.txCfg ch 10)))) ch
    have hsent := State.txCfg_congr ((State.takeTx_dict ch (packetSamples (s.txCfg ch 10)) (m0 + x.sent) _).trans
      (State.reach_dict s (sampleTicks false (m0 + x.sent + packetSamples (s.txCfg ch 10))))) ch
    have htxCfg : ∀ (t : State) k, t.free.2.txCfg ch k = t.txCfg ch k := fun _ _ => rfl
    rw [hreached, hreached, htxCfg, htxCfg, htxCfg, htxCfg, htxCfg, hsent, hsent, hsent, hsent, hsent] at hexec
    exact ⟨_, hexec, _, _, length_frames _ _ _, rfl⟩

end

section
/-! SUPPORT. The host ports. -/

namespace Sys2Proof.Machine

/-! ### Apertures -/

/-- The first entry of an aperture is what it reads. -/
theorem State.aperture_of_head {s : State} {fn k : Nat} {v : Nat × Nat} {l : List (Nat × Nat × Nat)} (h : s.net.apertures = (fn * 4 + k, v) :: l) : s.aperture fn k = v := by
  unfold State.aperture
  rw [h, List.find?_cons_of_pos (by simp)]

theorem execApertureSelect_of_served {fn k v : Nat} {s : State} (hmode : 4 ≤ s.mode) (hfn : fn ≤ 8) (hk : k < 4) (hv : v < 2 ^ 64) (offset : Bool) :
    execApertureSelect fn k offset v s = .next (s.settle (s.modNet fun x =>
      { x with apertures := (fn * 4 + k, if offset then ((s.aperture fn k).1, v / 65536 * 65536) else (v, (s.aperture fn k).2)) ::
        x.apertures.filter fun e => e.1 != fn * 4 + k })) := by
  refine settled_eq ((if_neg (by omega)).trans ?_)
  rw [Nat.mod_eq_of_lt hv]

/-- What an access that is refused leaves: a read of all ones, or nothing but the log. -/
def State.refuseAccess (s : State) (fn k off n : Nat) (data : Option Bytes) : State :=
  if data.isNone then (s.apertureRefused fn k off).send (.pcieRead fn (List.replicate n 255)) else s.apertureRefused fn k off

/-- What an access does to the object that its aperture shows. -/
def State.accessObj (s : State) (fn k off n : Nat) (o : Obj) : Option Bytes → State
  | none => if o.size < off + n then s.refuseAccess fn k off n none else s.send (.pcieRead fn (memRead o.content off n))
  | some b =>
    if o.kind = 1 ∨ o.size < off + b.length then s.refuseAccess fn k off n (some b)
    else (s.ptProtected o off b.length).elim (s.modObj o.owner o.index fun x => { x with content := memWrite x.content off b }) fun copy => s.rejectPt o off copy

section Access

variable {p k addr : Nat} {s : State} (hmode : 4 ≤ s.mode) (hp : p < 8) (hk : k < 4) (haddr : addr < 67108864)
include hmode hp hk haddr

theorem execApertureAccess_of_refused (h : s.area p 0x50 1 = 1 ∨ s.apertureObj p (s.aperture (p + 1) k).1 = none) (n : Nat) (data : Option Bytes) :
    execApertureAccess (p + 1) k addr n data s = .next (s.settle (s.refuseAccess (p + 1) k ((s.aperture (p + 1) k).2 + addr) n data)) := by
  refine settled_eq ((if_neg (by omega)).trans ?_)
  by_cases hfree : s.area p 0x50 1 = 1
  · exact if_pos hfree
  · have hnone := h.resolve_left hfree
    refine (if_neg hfree).trans ?_
    rw [Nat.add_sub_cancel, hnone]
    rfl

theorem execApertureAccess_of_object (hfree : s.area p 0x50 1 ≠ 1) {o : Obj} (ho : s.apertureObj p (s.aperture (p + 1) k).1 = some o) (n : Nat) (data : Option Bytes) :
    execApertureAccess (p + 1) k addr n data s = .next (s.settle (s.accessObj (p + 1) k ((s.aperture (p + 1) k).2 + addr) n o data)) := by
  refine settled_eq ((if_neg (by omega)).trans ((if_neg hfree).trans ?_))
  rw [Nat.add_sub_cancel, ho]
  cases data with
  | none => rfl
  | some b =>
    unfold State.accessObj
    dsimp only
    cases s.ptProtected o ((s.aperture (p + 1) k).2 + addr) b.length <;> rfl

end Access

/-! ### Function resets -/

theorem State.clearFn_apertures (s : State) (fn : Nat) : (s.clearFn fn).net.apertures = s.net.apertures.filter fun e => e.1 / 4 != fn := rfl

theorem State.foldl_clearFn_apertures (l : List Nat) (s : State) :
    (l.foldl (fun s p => s.clearFn (p + 1)) s).net.apertures = s.net.apertures.filter fun e => l.all fun p => e.1 / 4 != p + 1 := by
  induction l generalizing s with
  | nil => exact (List.filter_eq_self.mpr fun _ _ => rfl).symm
  | cons p l ih => rw [List.foldl_cons, ih, State.clearFn_apertures, List.filter_filter]; simp only [List.all_cons, Bool.and_comm]

theorem State.clearVfs_apertures (s : State) : s.clearVfs.net.apertures = s.net.apertures.filter fun e => decide (e.1 / 4 = 0 ∨ 9 ≤ e.1 / 4) := by
  refine (State.foldl_clearFn_apertures _ _).trans (List.filter_congr fun e _ => ?_)
  rw [Bool.eq_iff_iff]
  simp only [List.all_eq_true, List.mem_range, bne_iff_ne, ne_eq, decide_eq_true_eq]
  exact ⟨fun h => by have := h (e.1 / 4 - 1); omega, fun h p hp => by omega⟩

/-- A reset of virtual functions keeps what no function owns, and the window of the physical function. -/
theorem State.clearVfs_keeps {γ : Type} (φ : State → γ) (hclear : ∀ (s : State) p, φ (s.clearFn (p + 1)) = φ s) (hvfs : ∀ s : State, φ (s.modNet fun x => { x with vfs := 0 }) = φ s)
    (s : State) : φ s.clearVfs = φ s := (hvfs _).trans (foldl_keeps φ hclear _ _)

theorem State.clearFn_window (s : State) (fn : Nat) : (s.clearFn fn).svc.windows.getD fn {} = {} := getD_set_default ..

theorem State.clearVfs_window (s : State) : s.clearVfs.svc.windows.getD 0 {} = s.svc.windows.getD 0 {} :=
  s.clearVfs_keeps (fun s => s.svc.windows.getD 0 {}) (fun _ p => getD_set_ne _ (Nat.succ_ne_zero p) _ _) fun _ => rfl

theorem State.clearVfs_objects (s : State) : s.clearVfs.objects = s.objects := s.clearVfs_keeps State.objects (fun _ _ => rfl) fun _ => rfl

theorem State.clearVfs_slots (s : State) : s.clearVfs.slots = s.slots := s.clearVfs_keeps State.slots (fun _ _ => rfl) fun _ => rfl

theorem State.clearVfs_mode (s : State) : s.clearVfs.mode = s.mode := s.clearVfs_keeps State.mode (fun _ _ => rfl) fun _ => rfl

/-- A reset of the endpoint leaves the apertures of no function. -/
theorem State.clearAll_apertures (s : State) : (s.clearFn 0).clearVfs.net.apertures = s.net.apertures.filter fun e => decide (9 ≤ e.1 / 4) := by
  rw [State.clearVfs_apertures, State.clearFn_apertures, List.filter_filter]
  refine List.filter_congr fun e _ => ?_
  rw [Bool.eq_iff_iff]
  simp only [Bool.and_eq_true, bne_iff_ne, ne_eq, decide_eq_true_eq]
  omega

/-- What stands once every function of the endpoint is reset. -/
structure State.FunctionsClear (s t : State) : Prop where
  window : t.svc.windows.getD 0 {} = {}
  apertures : t.net.apertures = s.net.apertures.filter fun e => decide (9 ≤ e.1 / 4)
  vfs : t.net.vfs = 0
  objects : t.objects = s.objects
  slots : t.slots = s.slots
  mode : t.mode = s.mode

theorem State.clearAll_clear (s : State) : s.FunctionsClear (s.clearFn 0).clearVfs where
  window := (State.clearVfs_window _).trans (State.clearFn_window ..)
  apertures := State.clearAll_apertures s
  vfs := rfl
  objects := State.clearVfs_objects _
  slots := State.clearVfs_slots _
  mode := State.clearVfs_mode _

/-- A reset of the physical function resets all, and its bus master. -/
theorem execPcieFlr_physical (s : State) : ∃ t, s.FunctionsClear t ∧ execPcieFlr (some 0) s = .next (s.settle (t.modNet fun x => { x with busMaster := false })) :=
  ⟨_, s.clearAll_clear, rfl⟩

theorem execPerstN_cleared (up bm : Bool) (g w v : Nat) (s : State) : ∃ t, s.FunctionsClear t ∧ execPerstN up g w v bm s = .next (s.settle (t.modNet fun x =>
    { x with pcieUp := up && decide (4 ≤ t.mode), busMaster := (up && decide (4 ≤ t.mode)) && bm, gts := if up && decide (4 ≤ t.mode) then g else 0,
             width := if up && decide (4 ≤ t.mode) then w else 0, aer := [0, 0], vfs := if up && decide (4 ≤ t.mode) then min v 8 else 0 })) :=
  ⟨_, s.clearAll_clear, rfl⟩

/-! ### The management port -/

/-- An anchor of the list is named. -/
def trustedBy (n : Nat) : Option Nat → Bool
  | some a => decide (a < n)
  | none => false

theorem trustedBy_eq_false {n : Nat} {anchor : Option Nat} (h : ∀ a, anchor = some a → n ≤ a) : trustedBy n anchor = false := by
  cases anchor with
  | none => rfl
  | some a => exact decide_eq_false (Nat.not_lt.mpr (h a rfl))

theorem execMgmtTlsHandshake_of_served {s : State} (hmode : 4 ≤ s.mode) (hserving : s.serving = true) (conn : Nat) (cert : Bool) (anchor : Option Nat) {n : Nat}
    (hn : (lengthPrefixed 4 (s.obj 0 0x1B10 1)).length = n) {refused : Nat → State}
    (hrefused : (fun why => ({ s with sec := { s.sec with counts := bump s.sec.counts 5 } } : State).logError 0x0C06 0xFF 0x20 [byteOf why]) = refused) :
    execMgmtTlsHandshake conn cert anchor s = .next (s.settle
      (if n = 0 then refused 3 else if !cert then refused 1 else if !trustedBy n anchor then refused 2
      else if s.svc.tls.contains conn ∨ 4 ≤ s.svc.tls.length then s else s.modSvc fun x => { x with tls := x.tls ++ [conn] })) := by
  subst hn hrefused
  refine settled_eq (if_neg ?_)
  rw [hserving]
  simp only [Bool.not_true, Bool.false_eq_true, or_false]
  omega

end Sys2Proof.Machine

open Sys2Proof.Machine

/-- Settles O57: apertures by what they show, and the ports' events by their rows. -/
theorem hostPortsServeTheirFunctions : Obligations.HostPortsServeTheirFunctions := by
  refine ⟨fun fn k v s hmode hfn hk hv => ⟨⟨_, execApertureSelect_of_served hmode hfn hk hv false, State.aperture_of_head rfl, rfl⟩,
      ⟨_, execApertureSelect_of_served hmode hfn hk hv true, State.aperture_of_head rfl, rfl⟩⟩,
    fun p k addr n b s hmode hp hk haddr => ?_, fun fn s hfn => ?_, fun s => rfl, fun fn status c s => rfl, fun up bm g w v s hmode => ?_, fun conn cert anchor s hmode hserving => ?_⟩
  · refine ⟨fun hrefused => ⟨execApertureAccess_of_refused hmode hp hk haddr hrefused n none, execApertureAccess_of_refused hmode hp hk haddr hrefused n (some b)⟩,
      fun o hfree ho => ?_⟩
    have hexec := execApertureAccess_of_object hmode hp hk haddr hfree ho n
    refine ⟨fun hin => (hexec none).trans (congrArg _ (congrArg _ (if_neg (by omega)))), fun hout => (hexec none).trans (congrArg _ (congrArg _ (if_pos hout))),
      fun hkind hin hfree => (hexec (some b)).trans (congrArg _ (congrArg _ ((if_neg (by omega)).trans (by rw [hfree]; rfl)))),
      fun copy hkind hin hkept => (hexec (some b)).trans (congrArg _ (congrArg _ ((if_neg (by omega)).trans (by rw [hkept]; rfl)))),
      fun hout => (hexec (some b)).trans (congrArg _ (congrArg _ (if_pos hout)))⟩
  · cases fn with
    | zero =>
      obtain ⟨t, hclear, hexec⟩ := execPcieFlr_physical s
      refine ⟨_, hexec, hclear.window, fun e he => ?_, hclear.objects, hclear.slots, hclear.mode, fun _ => ⟨rfl, hclear.vfs⟩⟩
      have hmem : e ∈ t.net.apertures := he
      rw [hclear.apertures] at hmem
      have hlive := of_decide_eq_true (List.mem_filter.mp hmem).2
      omega
    | succ n =>
      refine ⟨_, rfl, State.clearFn_window .., fun e he => ?_, rfl, rfl, rfl, nofun⟩
      exact bne_iff_ne.mp (List.mem_filter.mp he).2
  · obtain ⟨t, hclear, hexec⟩ := execPerstN_cleared up bm g w v s
    have hlive : (up && decide (4 ≤ t.mode)) = up := by rw [hclear.mode, decide_eq_true hmode, Bool.and_true]
    exact ⟨_, hexec, hlive, congrArg (· && bm) hlive, rfl, hclear.apertures, hclear.objects, hclear.slots, hclear.mode⟩
  · have hexec := fun cert anchor => execMgmtTlsHandshake_of_served hmode hserving conn cert anchor rfl rfl
    refine ⟨fun hn => (hexec cert anchor).trans (congrArg _ (congrArg _ (if_pos hn))), fun hn => (hexec false anchor).trans (congrArg _ (congrArg _ ((if_neg (by omega)).trans (if_pos rfl)))),
      fun hn hout => (hexec true anchor).trans (congrArg _ (congrArg _ ((if_neg (by omega)).trans ((if_neg (by decide)).trans (if_pos (by rw [trustedBy_eq_false hout]; rfl)))))),
      fun a ha hnew hroom => (hexec true (some a)).trans (congrArg _ (congrArg _ ((if_neg (by omega)).trans ((if_neg (by decide)).trans ((if_neg ?_).trans (if_neg ?_))))))⟩
    · rw [trustedBy, decide_eq_true ha]
      decide
    · simp only [List.contains_iff_mem, hnew, false_or]
      omega

end
